-- ==== Sys2Proof/Word.lean ====
section
/-! DEFINITION. The word types of the FG-3100 and their plainest arithmetic. -/

namespace Sys2Proof

/-- One byte of memory or of a frame. -/
abbrev Byte := BitVec 8

/-- An AXI address: both ports carry 40-bit addresses (00, Pins). -/
abbrev Addr := BitVec 40

/-- A free-running 16-bit index of a slot or record (00, Counters), and a cut number. -/
abbrev Idx := BitVec 16

/-- The forward distance from `b` to `a` modulo 65,536. -/
def Idx.ahead (a b : Idx) : Nat := (a - b).toNat

end Sys2Proof
end

