-- ==== Sys2Proof/Config.lean ====
section
/-! DEFINITION. What the FG-3100 fixes for every part: table depths, widths of counters, addresses.
The spec leaves no result value open after which a command goes on, so there is no free value here. -/

namespace Sys2Proof.Config

/-- R21: bursts held by the write queue and by the read queue. -/
def queueDepth : Nat := 32
/-- 00, Pins: the longest burst in bytes. -/
def burstMax : Nat := 256
/-- R21: the boundary a burst may not cross. -/
def pageSize : Nat := 4096
/-- R23: base of the control region at strap value 0, and the step per strap value. -/
def controlBase : Nat := 0x0080000000
def controlStep : Nat := 0x0001000000
/-- R23: mask of entry 0. -/
def controlMask : Addr := 0xFFFFFFC000
/-- 09: size of the control region; R174: offset, number and size of the command slots. -/
def controlSize : Nat := 0x4000
def slotsOffset : Nat := 0x2000
def slotCount : Nat := 128
def slotSize : Nat := 64
/-- R178: slots a chain buffer holds. -/
def chainMax : Nat := 8
/-- R31: the command hold limit when no BIND has been taken, in µs. -/
def holdDefault : Nat := 1000
/-- R38: the capture hold limit when not given, in µs. -/
def captureHoldDefault : Nat := 20
/-- R3: the ribbon line number holds here. -/
def lineMax : Nat := 1099511627775
/-- R17: milliseconds of one day. -/
def dayMs : Nat := 86400000
/-- Saturation points of 16-, 32- and 64-bit counts. -/
def max16 : Nat := 65535
def max32 : Nat := 4294967295
def max64 : Nat := 18446744073709551615
/-- R40: entries of the pulse list. -/
def pulseMax : Nat := 256
/-- R58: runs of a camera line. -/
def runMax : Nat := 64
/-- R50: lines without a candidate at which EDGE_LOST is raised. -/
def edgeLostAt : Nat := 64
/-- R47: captures a camera may lag behind. -/
def lagCaptures : Nat := 8
/-- R63, R76, R80, R94, R100, R127, R129: depths of the tables and lists. -/
def blobMax : Nat := 256
def flawMax : Nat := 4096
def spanMax : Nat := 16
def orderMax : Nat := 32
def rowMax : Nat := 64
def txMax : Nat := 8
def cutMax : Nat := 16
/-- R78, R152, R187: depths of FLAW, PLATE and EVENT staging. -/
def flawStaging : Nat := 8
def plateStaging : Nat := 16
def eventStaging : Nat := 8
/-- R131: how far back a late answer may name a cut. -/
def lateWindow : Nat := 256
/-- R191: µs of a gap; R4: µs of the high part of a pulse. -/
def gapUs : Nat := 2
def pulseHighUs : Nat := 2
/-- DESIGN CHOICE, not safe (log 5): the straps and the encoder inputs that `State.reset` stands for. -/
def resetStraps : BitVec 4 := 0
def resetEncA : Bool := false
def resetEncB : Bool := false

end Sys2Proof.Config
end

