-- ==== Sys2Proof/Syntax.lean ====
section
/-! DEFINITION. The commands the FG-3100 takes: one constructor for each row of spec/opcode_table.json.
Operands are what the outside supplies at that step. The rows BIND to TERMINAL_SET have none: their payload is what
SLOT_TAKE read from the command slots (log 1). -/

namespace Sys2Proof

/-- An upstream write burst (02, Access): AXI ID, address, and one entry for each byte of the burst, `none` where the
byte's strobe is off. -/
structure WriteBurst where
  id : Nat
  addr : Addr
  bytes : List (Option Byte)
deriving DecidableEq, Repr

/-- An upstream read burst: AXI ID, address, length in bytes. -/
structure ReadBurst where
  id : Nat
  addr : Addr
  len : Nat
deriving DecidableEq, Repr

/-- A character on CUT_RX as its bits were taken (R122, R123): data, parity bit, stop bit. -/
structure RxChar where
  data : Byte
  parity : Bool
  stop : Bool
deriving DecidableEq, Repr

/-- What the receiver hands to the framer (R123): a character or a break. -/
inductive RxInput where
  | char (c : RxChar)
  | brk
deriving DecidableEq, Repr

/-- The access that memory answers with an error (R35): one that stands in flight, by its serial number, or the
Command Processor's read of the next slot. -/
inductive ErrorAt where
  | access (serial : Nat)
  | slotRead
deriving DecidableEq, Repr

inductive Instr where
  /-- RESET with the levels of CFG0 to CFG3 (CFG0 least significant) and of ENC_A, ENC_B. -/
  | powerOnReset (straps : BitVec 4) (encA encB : Bool)
  /-- The new levels of ENC_A and ENC_B. -/
  | encoderTransition (a b : Bool)
  | ltrigPulseEnd
  | stallTimeout
  /-- The levels of LT0 (bit 0) to LT5 (bit 5) at this millisecond's sample. -/
  | timeOfDayAdvance (pins : BitVec 6)
  | upstreamWriteArrival (w : WriteBurst)
  | upstreamReadArrival (r : ReadBurst)
  | writeAtHead
  | captureWrite
  /-- The end of the classification of buffer A (`false`) or B (`true`) of a camera. -/
  | classificationDone (cam : Fin 8) (bufB : Bool)
  | producerWrite
  | faultAck
  | consumerWordWrite
  | liveWrite
  /-- The read at position `pos` of the read queue, oldest 0, is released. -/
  | readRelease (pos : Nat)
  /-- Memory answers forwarded access `serial` OKAY, with the data of a read. -/
  | forwardedResponse (serial : Nat) (data : List Byte)
  | captureHoldExpiry
  | producerHoldExpiry
  | memError (at_ : ErrorAt)
  | recordIssue (ring : Fin 4)
  /-- Memory has answered every burst of the record at `index` OKAY. -/
  | recordAccepted (ring : Fin 4) (index : Idx)
  | producerWordWrite (ring : Fin 4)
  | producerWordAnswered (ring : Fin 4)
  | reportAccepted
  /-- The 64 bytes memory returns for the slot that is due. -/
  | slotTake (bytes : List Byte)
  | writeBackDone
  | ringHeaderWritten
  | finalGrading
  | frameSendStart
  | frameSendComplete
  | accept
  | scored
  | refuse
  | ready
  | malformedFrame
  | frameDiscard (i : RxInput)
  | frameGapTimeout
  | ackTimeout (cut : Idx)
  | irqGapEnd (line : Fin 4)
  | bind
  | unbind
  | geometry
  | detect
  | classify
  | gradeTable
  | campaignBegin
  | campaignEnd
  | orderAdd
  | orderCancel
  | orderHold
  | orderRelease
  | ringSetup
  | ringReset
  | eventSetup
  | eventAck
  | setTime
  | shiftPlan
  | shiftEnd
  | gantry
  | linkSetup
  | terminalSetup
  | terminalSet
  | characterComplete (c : RxChar)
  | breakTaken
  | frameActionEnd
  | inFlightBurstsComplete (ring : Fin 4)
deriving DecidableEq, Repr

end Sys2Proof
end

