-- ==== Sys2Proof/WellFormed.lean ====
section
/-! DEFINITION. Which operands a command can carry. -/

namespace Sys2Proof

/-- A burst has 1 to 256 bytes (00, Pins). -/
def burstLenOk (n : Nat) : Bool := 1 ≤ n && n ≤ Config.burstMax

/-- The operands that the ports can carry: bursts of 1 to 256 bytes, slots of 64 bytes (R175), answers of at most one
burst. Every other operand is well formed by its type. -/
def Instr.wellFormed : Instr → Bool
  | .upstreamWriteArrival w => burstLenOk w.bytes.length
  | .upstreamReadArrival r => burstLenOk r.len
  | .forwardedResponse _ data => data.length ≤ Config.burstMax
  | .slotTake bytes => bytes.length = Config.slotSize
  | .powerOnReset _ _ _ | .encoderTransition _ _ | .ltrigPulseEnd | .stallTimeout | .timeOfDayAdvance _
  | .writeAtHead | .captureWrite | .classificationDone _ _ | .producerWrite | .faultAck | .consumerWordWrite
  | .liveWrite | .readRelease _ | .captureHoldExpiry | .producerHoldExpiry | .memError _ | .recordIssue _
  | .recordAccepted _ _ | .producerWordWrite _ | .producerWordAnswered _ | .reportAccepted | .writeBackDone
  | .ringHeaderWritten | .finalGrading | .frameSendStart | .frameSendComplete | .accept | .scored | .refuse | .ready
  | .malformedFrame | .frameDiscard _ | .frameGapTimeout | .ackTimeout _ | .irqGapEnd _ | .bind | .unbind | .geometry
  | .detect | .classify | .gradeTable | .campaignBegin | .campaignEnd | .orderAdd | .orderCancel | .orderHold
  | .orderRelease | .ringSetup | .ringReset | .eventSetup | .eventAck | .setTime | .shiftPlan | .shiftEnd | .gantry
  | .linkSetup | .terminalSetup | .terminalSet | .characterComplete _ | .breakTaken | .frameActionEnd
  | .inFlightBurstsComplete _ => true

end Sys2Proof
end

