-- ==== Sys2Proof/Machine/State.lean ====
section
/-! DEFINITION. The state of the FG-3100: every piece of state the spec gives its twelve blocks, as plain data, and the
machine right after reset. Widths and rules are listed in INVENTORY.md. -/

namespace Sys2Proof.Machine

/-! ## Position Unit (01) -/

inductive RunState where | running | stalled
deriving DecidableEq, Repr

/-- R11: the filtered level of a terminal. -/
inductive FLevel where | low | high | undetermined
deriving DecidableEq, Repr

/-- R12: the functions a terminal can carry. -/
inductive TermFn where
  | inGeneral | inCutterReady | inShiftMark | inRibbonBreak | inGantryParked | outGeneral | outStalled | outInspecting
deriving DecidableEq, Repr

structure Terminal where
  fn : TermFn
  activeLow : Bool
  filtered : FLevel
  /-- the sample before the next one; none before the first (R11) -/
  sample : Option Bool
  /-- the level given for OUT_GENERAL, active or inactive (R15, R16) -/
  genActive : Bool
deriving DecidableEq, Repr

structure Position where
  pairA : Bool
  pairB : Bool
  line : Nat
  phase : Nat
  deficit : Nat
  encErr : Nat
  lostBack : Nat
  overruns : Nat
  pitchE : Nat
  dv : Nat
  bLeads : Bool
  stallTimeout : Nat
  run : RunState
  stallTimer : Nat
  stallRunning : Bool
  timeStalled : Nat
  parkCmd : Bool
  parked : Bool
  parkTriggers : Nat
  broken : Bool
  /-- the µs since the start of the pulse while the pulse output is busy (R4, log 28) -/
  ltrig : Option Nat
  terms : Vector Terminal 6
  ticks : Nat
  tod : Nat
  day : BitVec 16
deriving DecidableEq, Repr

/-! ## Path Unit (02) -/

inductive WinKind where | control | capture | live | pass
deriving DecidableEq, Repr

/-- An entry of the window table (02, section 2.2). -/
structure WinEntry where
  enable : Bool
  translate : Bool
  kind : WinKind
  camera : Nat
  base : Addr
  mask : Addr
  target : Addr
deriving DecidableEq, Repr

/-- What an access was classified as at its arrival (R21, R22): crossing bursts are not classified. -/
structure Classified where
  crossing : Bool
  kind : WinKind
  camera : Nat
  translated : Bool
  /-- the address it is issued at downstream -/
  down : Addr
  /-- address AND NOT mask of the governing entry -/
  offset : Nat
deriving DecidableEq, Repr

structure QueuedWrite where
  burst : WriteBurst
  cls : Classified
deriving DecidableEq, Repr

structure QueuedRead where
  burst : ReadBurst
  cls : Classified
  /-- the bytes of the LIVE snapshot taken at arrival (R32) -/
  snapshot : List Byte
deriving DecidableEq, Repr

/-- The hold slot (R29); `serial` tells one hold from the next (log 8). -/
structure Hold where
  producer : Bool
  camera : Nat
  limit : Nat
  us : Nat
  serial : Nat
  /-- the rings whose consumer word the write covers and that were RUNNING when it became the head (R27), each with the
  address of that word -/
  consumers : List (Fin 4 × Nat)
deriving DecidableEq, Repr

/-- Whether the answer to a ring write still counts: the ring lives on, it was STOPPED (R35), or its writes are
discarded by RING_RESET or UNBIND (R185, R37). -/
inductive Life where | live | stopped | discarded
deriving DecidableEq, Repr

/-- What a header write is for: the first one after reset, a write-back that releases the hold with this serial
(R177), or the state word after a fault-ack (R180). -/
inductive HeaderFor where
  | initial
  | writeBack (hold : Option Nat)
  | faultAck
deriving DecidableEq, Repr

/-- What an access in flight on the downstream port is. -/
inductive AccessFor where
  | fwdRead (axi : Nat)
  | fwdWrite (axi : Nat)
  | posted (axi : Nat)
  | record (ring : Fin 4) (index : Idx) (life : Life)
  | prodWord (ring : Fin 4) (value : Idx) (life : Life)
  | ringHeader (ring : Fin 4)
  | result (first : Idx)
  | header (why : HeaderFor)
deriving DecidableEq, Repr

/-- An access issued downstream and not answered: `bytes` of a write (`none` where not enabled), `len` of a read. -/
structure InFlight where
  serial : Nat
  what : AccessFor
  addr : Addr
  bytes : List (Option Byte)
  len : Nat
deriving DecidableEq, Repr

/-- An answer given at the upstream port (02, Answer). -/
structure Answer where
  axi : Nat
  read : Bool
  okay : Bool
  data : List Byte
deriving DecidableEq, Repr

/-- The counters of R36, in its order. -/
structure PathCounters where
  readsForwarded : Nat
  writesForwarded : Nat
  tapped : Nat
  untapped : Nat
  captureHolds : Nat
  captureExpiries : Nat
  producerHolds : Nat
  producerExpiries : Nat
  liveReads : Nat
  liveWrites : Nat
  guarded : Nat
  consumerRejects : Nat
  crossing : Nat
  memErrors : Nat
deriving DecidableEq, Repr

structure Path where
  straps : BitVec 4
  window : Vector WinEntry 16
  writes : List QueuedWrite
  reads : List QueuedRead
  hold : Option Hold
  counters : PathCounters
  down : List InFlight
  nextAccess : Nat
  answers : List Answer
deriving DecidableEq, Repr

/-! ## Ingest Unit (03) -/

/-- A run (R57): columns are global. -/
structure Run where
  c0 : Nat
  c1 : Nat
  dark : Nat
  bright : Nat
  peak : Nat
  overflow : Bool
  seam : Bool
deriving DecidableEq, Repr

/-- The result of a classified camera line (R45), with its line number (R56 names it in LIGHT_SHIFT). -/
structure LineResult where
  line : Nat
  runs : List Run
  flagged : Nat
  learning : Bool
  flood : Bool
  overflow : Bool
  leftCand : Option Nat
  rightCand : Option Nat
deriving DecidableEq, Repr

/-- A line buffer: FREE, FILLING with the bytes so far, or CLASSIFYING. The result is fixed when classification begins
(R45, R53). -/
inductive Buf where
  | free
  | filling (capture : Nat) (bytes : List Byte)
  | classifying (capture : Nat) (res : LineResult)
deriving DecidableEq, Repr

inductive LearnState where | none | start | learning
deriving DecidableEq, Repr

structure OpenLine where
  slot : Nat
  capture : Nat
  bufB : Bool
deriving DecidableEq, Repr

/-- The settings of one camera entry of GEOMETRY (R38). -/
structure CamSettings where
  enable : Bool
  width : Nat
  first : Nat
  last : Nat
  offset : Nat
  slots : Nat
  stride : Nat
deriving DecidableEq, Repr

/-- The per-camera counters of R62; lost lines in the order of the cause codes. -/
structure CamCounters where
  tapped : Nat
  delivered : Nat
  lost : Vector Nat 6
  stale : Nat
  untriggered : Nat
  straddling : Nat
  outside : Nat
  disabled : Nat
  flood : Nat
  overflow : Nat
deriving DecidableEq, Repr

structure Camera where
  cfg : CamSettings
  expected : Nat
  bufA : Buf
  bufB : Buf
  openLine : Option OpenLine
  discard : Option Nat
  learn : LearnState
  startCapture : Nat
  remaining : Nat
  floodMark : Bool
  counters : CamCounters
deriving DecidableEq, Repr

/-- The status of one camera for one line of the pulse list. -/
inductive CamStatus where
  | off
  | pending
  | delivered (res : LineResult)
  | lost
deriving DecidableEq, Repr

/-- An entry of the pulse list; an OVERRUN entry has no capture number. -/
structure Pulse where
  line : Nat
  capture : Option Nat
  status : Vector CamStatus 8
deriving DecidableEq, Repr

/-- The detection parameters (R60). -/
structure Detect where
  learnLines : Nat
  alpha : Nat
  beta : Nat
  k : Nat
  tmin : Nat
  initNoise : Nat
  floodFraction : Nat
  edgeLevel : Nat
  edgeGuard : Nat
  gc : Nat
  lg : Nat
  lmax : Nat
  left : Option (Nat × Nat)
  right : Option (Nat × Nat)
deriving DecidableEq, Repr

/-- One side's edge (R50). -/
structure Edge where
  value : Nat
  lostCount : Nat
  lostCond : Bool
deriving DecidableEq, Repr

/-- A column's background and noise, 8.8 fixed point (R52). -/
structure BN where
  b : Nat
  n : Nat
deriving DecidableEq, Repr

/-- The background and noise of the columns, by global column: columns strictly rising, none listed at the value an
unlisted column has. -/
abbrev Cols := List (Nat × BN)

structure Ingest where
  captures : Nat
  pp : Nat
  holdLimit : Nat
  pulses : List Pulse
  assembled : Nat
  left : Edge
  right : Edge
  detect : Detect
  pendingDetect : Option Detect
  cols : Cols
  cams : Vector Camera 8
deriving DecidableEq, Repr

/-! ## Blob Tracker and Map Unit (04) -/

/-- The flags a blob gathers (R63, R75). -/
structure BlobFlags where
  forced : Bool
  continued : Bool
  seam : Bool
  overflow : Bool
deriving DecidableEq, Repr

/-- An entry of the open blob table that is not FREE (R63): CARRIED when `carried`, and then only the last line, the
recent span and CONTINUED mean anything. `taken` is the range of the runs taken on the line being handled. -/
structure Blob where
  num : Nat
  carried : Bool
  first : Nat
  last : Nat
  c0 : Nat
  c1 : Nat
  dark : Nat
  bright : Nat
  peak : Nat
  r0 : Nat
  r1 : Nat
  taken : Option (Nat × Nat)
  flags : BlobFlags
deriving DecidableEq, Repr

/-- The classification parameters (R74). -/
structure ClassParams where
  large : Nat
  scratch : Nat
  stone : Nat
  bounds : Vector Nat 7
deriving DecidableEq, Repr

/-- The open blob table (entries in ascending number, FREE ones not listed), the parameters and the blob counters of
R87. -/
structure Blobs where
  entries : List Blob
  params : ClassParams
  opened : Nat
  merged : Nat
  closedByGap : Nat
  expired : Nat
  forcedClosures : Nat
  splits : Nat
deriving DecidableEq, Repr

inductive FlawClass where | seed | inclusion | scratch | spot | large
deriving DecidableEq, Repr

/-- A flaw (R72, R73, R75 to R77). -/
structure Flaw where
  num : Nat
  cls : FlawClass
  bin : Nat
  flags : BlobFlags
  notMapped : Bool
  nearSpan : Bool
  first : Nat
  last : Nat
  c0 : Nat
  c1 : Nat
  widthUm : Nat
  lengthUm : Nat
  dark : Nat
  bright : Nat
  peak : Nat
  day : BitVec 16
  tod : Nat
deriving DecidableEq, Repr

inductive SpanKind where | lost | parked | learn | flood | brk | mapFull | mixed
deriving DecidableEq, Repr

/-- A span over the lines [start, stop) (R80). -/
structure Span where
  kind : SpanKind
  start : Nat
  stop : Nat
deriving DecidableEq, Repr

/-- R84: the retirement line. -/
inductive Retire where
  | line (n : Nat)
  | none
  | all
deriving DecidableEq, Repr

structure FlawMap where
  flaws : List Flaw
  spans : List Span
  nextFlaw : Nat
  retire : Retire
  full : Bool
  lossMark : Bool
  mapped : Nat
  retiredAtCreation : Nat
  notMapped : Nat
  flawsRetired : Nat
  spansRetired : Nat
  spanMerges : Nat
  recordsLost : Nat
deriving DecidableEq, Repr

/-! ## Cut Planner (05) -/

inductive Grade where | a | b | c | reject
deriving DecidableEq, Repr

structure Lane where
  first : Nat
  last : Nat
deriving DecidableEq, Repr

/-- A campaign's settings with its distances in lines (R89, R90). -/
structure Campaign where
  lanes : List Lane
  gc : Nat
  lead : Nat
  minCut : Nat
  strip : Nat
  clearance : Nat
  startGap : Nat
  planAhead : Nat
  spare : Nat
  tolerance : Nat
  scoreLate : Nat
  commitOffset : Nat
  avoidShift : Bool
  avoidReassign : Bool
  cap : Grade
  edgeBandMm : Nat
deriving DecidableEq, Repr

inductive CampSlot where
  | none
  | active (c : Campaign)
  | draining (c : Campaign)
deriving DecidableEq, Repr

inductive OrderState where | active | held | done | cancelled
deriving DecidableEq, Repr

/-- An order (R94); `length` in lines. -/
structure Order where
  id : Nat
  laneMask : BitVec 4
  length : Nat
  requested : Nat
  grade : Grade
  priority : Nat
  fallback : Option Nat
  endCampaign : Bool
  state : OrderState
  made : Nat
  reserved : Nat
  remaining : Nat
  planned : Nat
deriving DecidableEq, Repr

/-- R101: the resolution of a cut. -/
inductive Resolution where
  | unresolved
  | scored (line : Nat) (offset : Bool)
  | missed
deriving DecidableEq, Repr

/-- A cut as a row holds it: its number, the cut tolerance it was committed with, its resolution. -/
structure CutRef where
  num : Idx
  tolerance : Nat
  res : Resolution
deriving DecidableEq, Repr

inductive RowKind where | plate | head | change | shift | gap | brk
deriving DecidableEq, Repr

inductive RowState where | planned | sealed | committed | cut | final
deriving DecidableEq, Repr

/-- A lane of a plate row; no order is SPARE. -/
structure LanePlate where
  order : Option Nat
  provisional : Option Grade
  reassigned : Bool
  unsealed : Bool
deriving DecidableEq, Repr

/-- Edge extremes (R102): the highest left edge and the lowest right edge. -/
structure Extremes where
  left : Nat
  right : Nat
deriving DecidableEq, Repr

/-- A row (R100): lines [start, stop). -/
structure Row where
  num : Nat
  kind : RowKind
  slot : Fin 2
  start : Nat
  stop : Nat
  state : RowState
  unsealed : Bool
  shifts : Nat
  lanes : List LanePlate
  leading : Option CutRef
  trailing : Option CutRef
  extremes : Option Extremes
deriving DecidableEq, Repr

inductive Opening where | change | brk
deriving DecidableEq, Repr

/-- The counters of R119, in its order. -/
structure PlanCounters where
  laid : Nat
  discarded : Nat
  starved : Nat
  shifted : Nat
  reassigned : Nat
  unsealed : Nat
  cut : Nat
  retired : Nat
deriving DecidableEq, Repr

structure Planner where
  slots : Vector CampSlot 2
  orders : List Order
  rows : List Row
  opening : Option Opening
  carried : Option Extremes
  nextRow : Nat
  nextCut : Idx
  counters : PlanCounters
deriving DecidableEq, Repr

/-! ## Cut Link (06) -/

structure LinkSettings where
  rate : Nat
  breakLen : Nat
  ackTimeout : Nat
  repeats : Nat
deriving DecidableEq, Repr

inductive TxFrame where
  | cut (num : Idx) (line : Nat) (plateEnd : Bool) (repeated : Bool)
  | lanes (edges : List (Nat × Nat))
deriving DecidableEq, Repr

/-- The frame being sent with the settings it started with, and the levels it puts on CUT_TX bit time by bit time
(R122). -/
structure ShiftStage where
  frame : TxFrame
  rate : Nat
  breakLen : Nat
  wire : List Bool
deriving DecidableEq, Repr

inductive CutStatus where | unsent | queued | sent | accepted | scored | missed
deriving DecidableEq, Repr

inductive MissCause where | full | noAck | skipped | implausible | refused | deadline | notReady
deriving DecidableEq, Repr

/-- The ack timer: its count and the timeout in force when it started (R121, R130). -/
structure AckTimer where
  count : Nat
  timeout : Nat
deriving DecidableEq, Repr

/-- An entry of the outstanding cut list (R129). -/
structure Cut where
  num : Idx
  line : Nat
  plateEnd : Bool
  gc : Nat
  scoreLate : Nat
  tolerance : Nat
  status : CutStatus
  repeats : Nat
  timer : Option AckTimer
  actual : Nat
  offset : Bool
  cause : Option MissCause
  reason : Nat
deriving DecidableEq, Repr

inductive FramerState where | hunt | delimiter | kind | length | payload | check
deriving DecidableEq, Repr

structure Framer where
  state : FramerState
  kind : Byte
  length : Nat
  bytes : List Byte
deriving DecidableEq, Repr

/-- A complete frame that is being acted on (R125); `done` once its changes have been made. -/
structure ActingFrame where
  kind : Byte
  payload : List Byte
  done : Bool
deriving DecidableEq, Repr

/-- The counters of R139; groups in their code order. -/
structure LinkCounters where
  sentCut : Nat
  sentLanes : Nat
  repeats : Nat
  received : Vector Nat 4
  errors : Vector Nat 8
  stray : Nat
  malformed : Nat
  late : Nat
  unknown : Nat
  duplicate : Nat
  refused : Nat
  fullMisses : Nat
  missed : Vector Nat 7
deriving DecidableEq, Repr

structure Link where
  on : Bool
  settings : LinkSettings
  txq : List TxFrame
  shift : Option ShiftStage
  lanesPending : Option (List (Nat × Nat))
  cuts : List Cut
  next : Idx
  overflow : Bool
  ready : Bool
  notReady : Bool
  framer : Framer
  acting : Option ActingFrame
  heldChar : Option RxChar
  heldBreak : Bool
  breakFirst : Bool
  lost : Nat
  counters : LinkCounters
deriving DecidableEq, Repr

/-! ## Grader (07) -/

/-- The grade table (R140): weights and fatal marks at class × 8 + bin. -/
structure GradeTable where
  weights : Vector Nat 40
  fatal : BitVec 40
  ta : Nat
  tb : Nat
  tc : Nat
  edgeFactor : Nat
deriving DecidableEq, Repr

/-- The waiting row (R152): its number, its record need, and whether its first test without room has been counted. -/
structure Waiting where
  row : Nat
  need : Nat
  counted : Bool
deriving DecidableEq, Repr

/-- The counters of R158, in its order. -/
structure GraderCounters where
  provisional : Nat
  plates : Nat
  cullet : Nat
  regraded : Nat
  rejects : Nat
  stagingWaits : Nat
deriving DecidableEq, Repr

structure Grader where
  table : GradeTable
  nextPlate : Nat
  waiting : Option Waiting
  stagingFull : Bool
  counters : GraderCounters
deriving DecidableEq, Repr

inductive OutcomeKind where | made | fallback | failed | spare | cullet
deriving DecidableEq, Repr

/-- The flags of a plate record (R154). -/
structure PlateFlags where
  uninspected : Bool
  mapFull : Bool
  unsealed : Bool
  cutMissed : Bool
  cutOffset : Bool
  edgeShort : Bool
  regraded : Bool
  reassigned : Bool
  shifted : Bool
deriving DecidableEq, Repr

/-- A plate or cullet record (R154, R155). -/
structure PlateRec where
  num : Nat
  row : Nat
  lane : Option Nat
  kind : RowKind
  order : Option Nat
  start : Nat
  stop : Nat
  actualStart : Nat
  actualStop : Nat
  provisional : Option Grade
  grade : Option Grade
  score : Nat
  flaws : Nat
  fatal : Nat
  flags : PlateFlags
  outcome : OutcomeKind
  day : BitVec 16
  tod : Nat
deriving DecidableEq, Repr

/-! ## Tally Unit (08) -/

/-- The tallies of R160. -/
structure Tallies where
  triggered : Nat
  inspected : Nat
  uninspected : Vector Nat 6
  flaws : Nat
  notMapped : Nat
  grades : Vector Nat 4
  outcomes : Vector Nat 4
  culletRows : Nat
  culletLines : Nat
  committed : Nat
  scored : Nat
  missed : Nat
  offset : Nat
  maxOffset : Nat
  linkErrors : Vector Nat 8
  commands : Nat
  goodArea : Nat
  gradedArea : Nat
  byClass : Vector Nat 40
deriving DecidableEq, Repr

inductive CloseCause where | boundary | command | terminal | clock
deriving DecidableEq, Repr

/-- The shift start record. -/
structure ShiftStart where
  day : BitVec 16
  tod : Nat
  line : Nat
  clockSet : Bool
  saturated : Bool
deriving DecidableEq, Repr

/-- A report (R167). -/
structure Report where
  shift : Nat
  covered : Nat
  cause : CloseCause
  merged : Bool
  clockSet : Bool
  saturated : Bool
  yield : Nat
  startDay : BitVec 16
  startTod : Nat
  startLine : Nat
  endDay : BitVec 16
  endTod : Nat
  endLine : Nat
  tallies : Tallies
deriving DecidableEq, Repr

/-- What becomes of an IN_FLIGHT report when its bursts complete: it is accepted, it waits again after RING_RESET
(R185), or it is dropped after UNBIND (R173). -/
inductive ReportFate where | accept | wait | drop
deriving DecidableEq, Repr

/-- The pending slot (R169). -/
inductive ReportSlot where
  | empty
  | waiting (r : Report)
  | inFlight (r : Report) (fate : ReportFate)
deriving DecidableEq, Repr

structure Tally where
  live : Tallies
  shift : Nat
  start : ShiftStart
  plan : List Nat
  slot : ReportSlot
  deferred : Option CloseCause
  closed : Nat
  merged : Nat
  written : Nat
deriving DecidableEq, Repr

/-! ## Command Processor (09) -/

inductive Binding where | unbound | bound | ready
deriving DecidableEq, Repr

inductive Stage where | idle | gather | fault
deriving DecidableEq, Repr

inductive ResultCode where | ok | state | range | full | unknown | sequence | conflict | notFound | busy
deriving DecidableEq, Repr

/-- The causes of CMD_FAULT (R176, R179). -/
inductive FaultCause where | contInIdle | newInGather | tooLong | producer | readError
deriving DecidableEq, Repr

/-- The command kinds of R183. -/
inductive CmdKind where
  | bind | unbind | geometry | detect | classify | gradeTable | campaignBegin | campaignEnd | orderAdd | orderCancel
  | orderHold | orderRelease | ringSetup | ringReset | eventSetup | eventAck | setTime | shiftPlan | shiftEnd | gantry
  | linkSetup | terminalSetup | terminalSet
deriving DecidableEq, Repr

/-- A slot in the chain buffer (R176). -/
structure ChainSlot where
  index : Idx
  kind : Byte
  tag : Nat
  notify : Bool
  payload : List Byte
deriving DecidableEq, Repr

/-- A command as it was dispatched: its kind, first slot with its tag, number of slots, NOTIFY and joined payload. -/
structure Command where
  kind : CmdKind
  first : Idx
  tag : Nat
  slots : Nat
  notify : Bool
  payload : List Byte
deriving DecidableEq, Repr

/-- What a command that has acted waits for before it is finished (R175): the ring header write (R184) or a deferred
close (R170). -/
inductive Wait where
  | header (ring : Fin 4)
  | close
deriving DecidableEq, Repr

/-- A NOTIFY command whose result is not yet in memory (R176). -/
structure Notify where
  first : Idx
  tag : Nat
  code : ResultCode
deriving DecidableEq, Repr

structure CmdProc where
  binding : Binding
  stage : Stage
  consumer : Idx
  known : Idx
  chain : List ChainSlot
  sequence : Nat
  lastResult : ResultCode
  holdLimit : Nat
  dispatched : Option Command
  wait : Option Wait
  barrier : Nat
  notify : List Notify
  /-- a write-back that waits for the result writes already issued (R177, step 1), with the serial number of the hold it
  will release -/
  backDue : Option (Option Nat)
deriving DecidableEq, Repr

/-! ## Event Unit (10) -/

/-- The 32 event kinds in the order of their numbers (10, section 10.1). -/
inductive EventKind where
  | cmdDone | cmdFault | ringReady | ringStopped | flawRingLoss | captureLost | captureOrder | lightShift | edgeLost
  | blobForced | mapFull | ribbonStall | ribbonResume | encoderReverse | gantryParked | gantryOnGlass | ribbonBreak
  | rowShifted | rowUnsealed | planStarved | orderDone | cutMissed | cutOffset | linkError | linkProtocol
  | cutterNotReady | plateReject | shiftClosed | reportMerged | terminalChange | guardViolation | memError
deriving DecidableEq, Repr

/-- An event record (R186). -/
structure EventRec where
  kind : EventKind
  seq : Nat
  line : Nat
  day : BitVec 16
  tod : Nat
  arg1 : Nat
  arg2 : Nat
deriving DecidableEq, Repr

structure Events where
  pending : BitVec 32
  enable : BitVec 32
  log : BitVec 32
  routes : Vector (Fin 4) 32
  pulsed : Vector Bool 4
  /-- the µs of a gap in progress since the last change (R191) -/
  gaps : Vector (Option Nat) 4
  seq : Nat
  lost : Nat
deriving DecidableEq, Repr

/-! ## Ring Writer (02, 09) -/

inductive RingState where | unset | running | stopped
deriving DecidableEq, Repr

inductive Record where
  | flaw (f : Flaw)
  | plate (p : PlateRec)
  | event (e : EventRec)
deriving DecidableEq, Repr

/-- A staged record; `issued` holds the index it was written at, once it was. -/
structure Staged where
  record : Record
  issued : Option Idx
deriving DecidableEq, Repr

structure Ring where
  state : RingState
  base : Nat
  capacity : Nat
  notify : Nat
  issue : Idx
  published : Idx
  written : Idx
  consumer : Idx
  /-- indices accepted by memory and not yet covered by the published index (R34) -/
  accepted : List Idx
  staging : List Staged
  discarded : Nat
deriving DecidableEq, Repr

/-! ## The machine -/

structure State where
  pos : Position
  path : Path
  ing : Ingest
  blobs : Blobs
  map : FlawMap
  plan : Planner
  link : Link
  grader : Grader
  tally : Tally
  cp : CmdProc
  ev : Events
  rings : Vector Ring 4
  /-- the commands that wait, first in, first out -/
  pending : List Instr
deriving DecidableEq, Repr

/-- The ways the model stops. The spec gives none: every command has an effect in every state. -/
inductive Fault where
  /-- An operand that no bus can carry (log 25): raised by UPSTREAM_WRITE_ARRIVAL and UPSTREAM_READ_ARRIVAL for a burst
  that is empty or longer than 256 bytes (00, Pins), and by SLOT_TAKE for a read that is not the slot's 64 bytes (R175).
  Safe: the hardware cannot be given such an operand. -/
  | malformedOperand
deriving DecidableEq, Repr

/-- The ways a command is refused by the model. -/
inductive Refusal where
  /-- No meaning has been written for the command. Raised by Dispatch alone, and there for no command now. Safe. -/
  | notModelled (mnemonic : String)
deriving DecidableEq, Repr

/-! ## Reset -/

/-- R60: the detection parameters before any DETECT. -/
def Detect.initial : Detect :=
  { learnLines := 64, alpha := 4, beta := 5, k := 64, tmin := 6, initNoise := 512, floodFraction := 64,
    edgeLevel := 128, edgeGuard := 0, gc := 1, lg := 2, lmax := 1024, left := none, right := none }

/-- R74: the classification parameters before any CLASSIFY. -/
def ClassParams.initial : ClassParams :=
  { large := 5000, scratch := 128, stone := 40, bounds := #v[100, 200, 300, 500, 800, 1500, 3000] }

/-- R140: the grade table before any GRADE_TABLE. -/
def GradeTable.initial : GradeTable :=
  { weights := Vector.replicate 40 0, fatal := 0, ta := 0, tb := 0, tc := 0, edgeFactor := 4 }

/-- R12: a terminal after reset; `filtered` and `sample` as R11 gives them. -/
def Terminal.initial (filtered : FLevel) (sample : Option Bool) : Terminal :=
  { fn := .inGeneral, activeLow := false, filtered := filtered, sample := sample, genActive := false }

/-- R19: the Position Unit after power-on reset, with the encoder inputs as they stand. -/
def Position.initial (a b : Bool) : Position :=
  { pairA := a, pairB := b, line := 0, phase := 0, deficit := 0, encErr := 0, lostBack := 0, overruns := 0,
    pitchE := 0, dv := 0, bLeads := false, stallTimeout := 0, run := .stalled, stallTimer := 0, stallRunning := false,
    timeStalled := 0, parkCmd := false, parked := false, parkTriggers := 0, broken := false, ltrig := none,
    terms := Vector.replicate 6 (Terminal.initial .undetermined none), ticks := 0, tod := 0, day := 0 }

/-- R23: entry 0 of the window table at strap value `k`. -/
def WinEntry.control (k : BitVec 4) : WinEntry :=
  { enable := true, translate := false, kind := .control, camera := 0,
    base := BitVec.ofNat 40 (Config.controlBase + k.toNat * Config.controlStep), mask := Config.controlMask, target := 0 }

/-- R24: a disabled entry, its other fields 0 (log 40); it never hits. -/
def WinEntry.disabled : WinEntry :=
  { enable := false, translate := false, kind := .control, camera := 0, base := 0, mask := 0, target := 0 }

def PathCounters.zero : PathCounters :=
  { readsForwarded := 0, writesForwarded := 0, tapped := 0, untapped := 0, captureHolds := 0, captureExpiries := 0,
    producerHolds := 0, producerExpiries := 0, liveReads := 0, liveWrites := 0, guarded := 0, consumerRejects := 0,
    crossing := 0, memErrors := 0 }

/-- R174: the first header write: consumer index 0, the fault-ack word not enabled, state word UNBOUND, IDLE, OK. -/
def InFlight.firstHeader (k : BitVec 4) : InFlight :=
  { serial := 0, what := .header .initial, addr := (WinEntry.control k).base + 4,
    bytes := List.replicate 4 (some 0) ++ List.replicate 4 none ++ List.replicate 4 (some 0), len := 0 }

def Path.initial (k : BitVec 4) : Path :=
  { straps := k, window := (Vector.replicate 16 WinEntry.disabled).set 0 (WinEntry.control k), writes := [], reads := [],
    hold := none, counters := PathCounters.zero, down := [InFlight.firstHeader k], nextAccess := 1, answers := [] }

def CamSettings.none : CamSettings :=
  { enable := false, width := 0, first := 0, last := 0, offset := 0, slots := 0, stride := 0 }

def CamCounters.zero : CamCounters :=
  { tapped := 0, delivered := 0, lost := Vector.replicate 6 0, stale := 0, untriggered := 0, straddling := 0,
    outside := 0, disabled := 0, flood := 0, overflow := 0 }

/-- R61: a camera after reset. -/
def Camera.initial : Camera :=
  { cfg := .none, expected := 0, bufA := .free, bufB := .free, openLine := none, discard := none, learn := .none,
    startCapture := 0, remaining := 0, floodMark := false, counters := .zero }

/-- R61. The columns read 0, 0 while nothing has been learned: DESIGN CHOICE, not safe (log 6). -/
def Ingest.initial : Ingest :=
  { captures := 0, pp := 0, holdLimit := 0, pulses := [], assembled := 0,
    left := { value := 0, lostCount := 0, lostCond := false }, right := { value := 0, lostCount := 0, lostCond := false },
    detect := .initial, pendingDetect := none, cols := [], cams := Vector.replicate 8 .initial }

/-- R88. -/
def Blobs.initial : Blobs :=
  { entries := [], params := .initial, opened := 0, merged := 0, closedByGap := 0, expired := 0, forcedClosures := 0,
    splits := 0 }

/-- R88. -/
def FlawMap.initial : FlawMap :=
  { flaws := [], spans := [], nextFlaw := 1, retire := .all, full := false, lossMark := false, mapped := 0,
    retiredAtCreation := 0, notMapped := 0, flawsRetired := 0, spansRetired := 0, spanMerges := 0, recordsLost := 0 }

/-- R120. -/
def Planner.initial : Planner :=
  { slots := Vector.replicate 2 .none, orders := [], rows := [], opening := none, carried := none, nextRow := 1,
    nextCut := 1,
    counters := { laid := 0, discarded := 0, starved := 0, shifted := 0, reassigned := 0, unsealed := 0, cut := 0,
                  retired := 0 } }

def Framer.hunt : Framer := { state := .hunt, kind := 0, length := 0, bytes := [] }

/-- R139. -/
def Link.initial : Link :=
  { on := false, settings := { rate := 0, breakLen := 0, ackTimeout := 0, repeats := 0 }, txq := [], shift := none,
    lanesPending := none, cuts := [], next := 1, overflow := false, ready := false, notReady := false, framer := .hunt,
    acting := none, heldChar := none, heldBreak := false, breakFirst := false, lost := 0,
    counters := { sentCut := 0, sentLanes := 0, repeats := 0, received := Vector.replicate 4 0,
                  errors := Vector.replicate 8 0, stray := 0, malformed := 0, late := 0, unknown := 0, duplicate := 0,
                  refused := 0, fullMisses := 0, missed := Vector.replicate 7 0 } }

/-- R159. -/
def Grader.initial : Grader :=
  { table := .initial, nextPlate := 1, waiting := none, stagingFull := false,
    counters := { provisional := 0, plates := 0, cullet := 0, regraded := 0, rejects := 0, stagingWaits := 0 } }

def Tallies.zero : Tallies :=
  { triggered := 0, inspected := 0, uninspected := Vector.replicate 6 0, flaws := 0, notMapped := 0,
    grades := Vector.replicate 4 0, outcomes := Vector.replicate 4 0, culletRows := 0, culletLines := 0, committed := 0,
    scored := 0, missed := 0, offset := 0, maxOffset := 0, linkErrors := Vector.replicate 8 0, commands := 0,
    goodArea := 0, gradedArea := 0, byClass := Vector.replicate 40 0 }

/-- R173: after power-on reset. -/
def Tally.initial : Tally :=
  { live := .zero, shift := 1, start := { day := 0, tod := 0, line := 0, clockSet := false, saturated := false },
    plan := [], slot := .empty, deferred := none, closed := 0, merged := 0, written := 0 }

/-- R174, R31. -/
def CmdProc.initial : CmdProc :=
  { binding := .unbound, stage := .idle, consumer := 0, known := 0, chain := [], sequence := 0, lastResult := .ok,
    holdLimit := Config.holdDefault, dispatched := none, wait := none, barrier := 0, notify := [],
    backDue := none }

/-- R193. -/
def Events.initial : Events :=
  { pending := 0, enable := 0, log := 0, routes := Vector.replicate 32 0, pulsed := Vector.replicate 4 false,
    gaps := Vector.replicate 4 none, seq := 1, lost := 0 }

/-- R185. -/
def Ring.initial : Ring :=
  { state := .unset, base := 0, capacity := 0, notify := 0, issue := 0, published := 0, written := 0, consumer := 0,
    accepted := [], staging := [], discarded := 0 }

/-- The part after power-on reset (R19, R37, R61, R88, R120, R139, R159, R173, R174, R185, R193), with the straps and the
encoder inputs as they stand at the pins. -/
def State.powerOn (k : BitVec 4) (a b : Bool) : State :=
  { pos := .initial a b, path := .initial k, ing := .initial, blobs := .initial, map := .initial, plan := .initial,
    link := .initial, grader := .initial, tally := .initial, cp := .initial, ev := .initial,
    rings := Vector.replicate 4 .initial, pending := [] }

/-- The machine right after reset; straps and encoder inputs low: DESIGN CHOICE (log 5). -/
def State.reset : State := State.powerOn Config.resetStraps Config.resetEncA Config.resetEncB

end Sys2Proof.Machine
end

