-- ==== Sys2Proof/Machine/Ops.lean ====
section
/-! DEFINITION. The named operations that every block uses: saturating counts, fields of bytes, the parts of the state,
the downstream port, the upstream answers, the column store. -/

namespace Sys2Proof.Machine

/-! ## Counts and lists -/

/-- "Saturates at m" (00, Rounding words). -/
def satAdd (m x y : Nat) : Nat := min m (x + y)

/-- A 16-bit count that rises by one and saturates. -/
def inc16 (x : Nat) : Nat := satAdd Config.max16 x 1

/-- A 32-bit count that rises by one and saturates. -/
def inc32 (x : Nat) : Nat := satAdd Config.max32 x 1

/-- A 32-bit number counter that continues at 1 after 0xFFFF_FFFF (R75, R100, R154, R166, R186). -/
def nextNumber (x : Nat) : Nat := if x ≥ Config.max32 then 1 else x + 1

/-- The low 32 bits of a line number or an address. -/
def low32 (x : Nat) : Nat := x % 2 ^ 32

/-- Changes place `i` of a table of fixed length. -/
def upd {α : Type} {n : Nat} (v : Vector α n) (i : Fin n) (f : α → α) : Vector α n := v.set i (f v[i])

/-- Rounds `x` up to a multiple of `d`, divided by `d`. -/
def ceilDiv (x d : Nat) : Nat := (x + (d - 1)) / d

/-- 00, Conventions: millimetres to lines, rounding half up: floor((mm × 1,000 + lp/2) / lp), the half formed on whole
numbers after doubling. -/
def mmToLines (lp mm : Nat) : Nat := (2 * (mm * 1000) + lp) / (2 * lp)

/-- Puts `x` into a list sorted by `before`, after the elements that are not after it. -/
def insertSorted {α : Type} (before : α → α → Bool) (x : α) : List α → List α
  | [] => [x]
  | y :: ys => if before x y then x :: y :: ys else y :: insertSorted before x ys

/-- Sorts a list; elements that neither precedes keep their order. -/
def sortBy {α : Type} (before : α → α → Bool) (l : List α) : List α :=
  l.foldl (fun acc x => insertSorted before x acc) []

/-! ## Bytes -/

/-- The whole number of a byte string, least significant byte first (R194). -/
def leNat : List Byte → Nat
  | [] => 0
  | b :: bs => b.toNat + 256 * leNat bs

/-- The field of `size` bytes at `off` of a payload; bytes beyond its end read 0. -/
def field (bs : List Byte) (off size : Nat) : Nat := leNat ((bs.drop off).take size)

/-- The byte at `off` of a payload. -/
def byteAt (bs : List Byte) (off : Nat) : Nat := field bs off 1

/-- Bit `i` of a number. -/
def bit (x i : Nat) : Bool := x.testBit i

/-- A mark as a number. -/
def mark (b : Bool) : Nat := if b then 1 else 0

/-- `size` bytes of a number, least significant first. -/
def toBytes : Nat → Nat → List Byte
  | 0, _ => []
  | size + 1, x => BitVec.ofNat 8 x :: toBytes size (x / 256)

/-- A field of a layout: its offset, its size and its value. -/
structure Field where
  off : Nat
  size : Nat
  val : Nat
deriving DecidableEq, Repr

/-- The byte of a layout at `o`; bytes that no field occupies are 0 (R194, R32). -/
def layoutByte (fs : List Field) (o : Nat) : Byte :=
  match fs.find? (fun f => f.off ≤ o && o < f.off + f.size) with
  | some f => BitVec.ofNat 8 (f.val / 256 ^ (o - f.off))
  | none => 0

/-- The `len` bytes of a layout from `start`. -/
def layoutFrom (fs : List Field) (start len : Nat) : List Byte :=
  (List.range len).map (fun i => layoutByte fs (start + i))

/-- The first `len` bytes of a layout. -/
def layout (len : Nat) (fs : List Field) : List Byte := layoutFrom fs 0 len

/-- The value a word of `size` bytes takes from a write: written bytes where enabled, bytes of `old` elsewhere
(R27, R175). `bytes` are the burst's bytes from the word's first byte on. -/
def mergeWord (old : Nat) : Nat → List (Option Byte) → Nat
  | 0, _ => 0
  | size + 1, bs =>
    (match bs.headD none with
     | some b => b.toNat
     | none => old % 256) + 256 * mergeWord (old / 256) size bs.tail

/-! ## The parts of the state -/

def State.modPos (f : Position → Position) (s : State) : State := { s with pos := f s.pos }
def State.modPath (f : Path → Path) (s : State) : State := { s with path := f s.path }
def State.modIng (f : Ingest → Ingest) (s : State) : State := { s with ing := f s.ing }
def State.modBlobs (f : Blobs → Blobs) (s : State) : State := { s with blobs := f s.blobs }
def State.modMap (f : FlawMap → FlawMap) (s : State) : State := { s with map := f s.map }
def State.modPlan (f : Planner → Planner) (s : State) : State := { s with plan := f s.plan }
def State.modLink (f : Link → Link) (s : State) : State := { s with link := f s.link }
def State.modGrader (f : Grader → Grader) (s : State) : State := { s with grader := f s.grader }
def State.modTally (f : Tally → Tally) (s : State) : State := { s with tally := f s.tally }
def State.modCp (f : CmdProc → CmdProc) (s : State) : State := { s with cp := f s.cp }
def State.modEv (f : Events → Events) (s : State) : State := { s with ev := f s.ev }
def State.modRing (r : Fin 4) (f : Ring → Ring) (s : State) : State := { s with rings := upd s.rings r f }
def State.modCam (c : Fin 8) (f : Camera → Camera) (s : State) : State :=
  s.modIng (fun g => { g with cams := upd g.cams c f })
def State.modTerm (t : Fin 6) (f : Terminal → Terminal) (s : State) : State :=
  s.modPos (fun p => { p with terms := upd p.terms t f })
/-- Changes a path counter (R36). -/
def State.count (f : PathCounters → PathCounters) (s : State) : State :=
  s.modPath (fun p => { p with counters := f p.counters })

/-! ## Ports -/

/-- Issues an access on the downstream port: it stands in flight until memory answers it. -/
def State.issue (what : AccessFor) (addr : Addr) (bytes : List (Option Byte)) (len : Nat) (s : State) : State :=
  s.modPath (fun p =>
    { p with down := p.down ++ [{ serial := p.nextAccess, what := what, addr := addr, bytes := bytes, len := len }],
             nextAccess := p.nextAccess + 1 })

/-- Issues a write of all the given bytes. -/
def State.issueWrite (what : AccessFor) (addr : Addr) (bytes : List Byte) (s : State) : State :=
  s.issue what addr (bytes.map some) 0

/-- Gives an answer at the upstream port. -/
def State.answer (a : Answer) (s : State) : State := s.modPath (fun p => { p with answers := p.answers ++ [a] })

/-- The access in flight with this serial number. -/
def State.inFlight (serial : Nat) (s : State) : Option InFlight := s.path.down.find? (fun a => a.serial == serial)

/-- Takes the answered access out of flight. -/
def State.landed (serial : Nat) (s : State) : State :=
  s.modPath (fun p => { p with down := p.down.filter (fun a => a.serial != serial) })

/-- The accesses in flight that satisfy `q` leave. -/
def State.landAll (q : InFlight → Bool) (s : State) : State :=
  s.modPath (fun p => { p with down := p.down.filter (fun a => !q a) })

/-! ## The control region (R174) -/

/-- R23: the base of the control region. -/
def State.controlBase (s : State) : Addr := (WinEntry.control s.path.straps).base

/-- The address of the slot that index `i` names. -/
def State.slotAddr (i : Idx) (s : State) : Addr :=
  s.controlBase + BitVec.ofNat 40 (Config.slotsOffset + i.toNat % Config.slotCount * Config.slotSize)

/-! ## The column store (R52) -/

/-- What an unlisted column reads as: DESIGN CHOICE, not safe (log 6). -/
def BN.unlearned : BN := { b := 0, n := 0 }

/-- The background and noise of a column. -/
def Cols.get (col : Nat) : Cols → BN
  | [] => BN.unlearned
  | (c, v) :: cs => if c = col then v else if col < c then BN.unlearned else Cols.get col cs

/-- Sets a column, keeping the canonical form: a column at the unlearned value is not listed. -/
def Cols.set (col : Nat) (v : BN) : Cols → Cols
  | [] => if v = BN.unlearned then [] else [(col, v)]
  | (c, w) :: cs =>
    if col < c then (if v = BN.unlearned then (c, w) :: cs else (col, v) :: (c, w) :: cs)
    else if col = c then (if v = BN.unlearned then cs else (col, v) :: cs)
    else (c, w) :: Cols.set col v cs

/-- The canonical form: every listed column above `lo`, strictly rising, none at the unlearned value. -/
def Cols.wfFrom : Nat → Cols → Bool
  | _, [] => true
  | lo, (c, v) :: cs => lo ≤ c && v ≠ BN.unlearned && Cols.wfFrom (c + 1) cs

/-- The canonical form of the column store. -/
def Cols.wf (cs : Cols) : Bool := Cols.wfFrom 0 cs

end Sys2Proof.Machine
end

