-- ==== Sys2Proof/Machine/Codes.lean ====
section
/-! DEFINITION. The value encodings of section 11.7, in both directions where the part reads them. -/

namespace Sys2Proof.Machine

def CmdKind.ofCode : Nat → Option CmdKind
  | 0x01 => some .bind | 0x02 => some .unbind | 0x03 => some .geometry | 0x04 => some .detect | 0x05 => some .classify
  | 0x06 => some .gradeTable | 0x07 => some .campaignBegin | 0x08 => some .campaignEnd | 0x09 => some .orderAdd
  | 0x0A => some .orderCancel | 0x0B => some .orderHold | 0x0C => some .orderRelease | 0x0D => some .ringSetup
  | 0x0E => some .ringReset | 0x0F => some .eventSetup | 0x10 => some .eventAck | 0x11 => some .setTime
  | 0x12 => some .shiftPlan | 0x13 => some .shiftEnd | 0x14 => some .gantry | 0x15 => some .linkSetup
  | 0x16 => some .terminalSetup | 0x17 => some .terminalSet
  | _ => none

/-- The kind of a continuation slot. -/
def contCode : Byte := 0x80

/-- R183: the number of slots of each command. -/
def CmdKind.slots : CmdKind → Nat
  | .bind => 6 | .geometry => 4 | .gradeTable => 2 | .campaignBegin => 2
  | .unbind | .detect | .classify | .campaignEnd | .orderAdd | .orderCancel | .orderHold | .orderRelease | .ringSetup
  | .ringReset | .eventSetup | .eventAck | .setTime | .shiftPlan | .shiftEnd | .gantry | .linkSetup | .terminalSetup
  | .terminalSet => 1

def ResultCode.code : ResultCode → Nat
  | .ok => 0 | .state => 1 | .range => 2 | .full => 3 | .unknown => 4 | .sequence => 5 | .conflict => 6 | .notFound => 7
  | .busy => 8

def FaultCause.code : FaultCause → Nat
  | .contInIdle => 1 | .newInGather => 2 | .tooLong => 3 | .producer => 4 | .readError => 5

def Binding.code : Binding → Nat
  | .unbound => 0 | .bound => 1 | .ready => 2

def Stage.code : Stage → Nat
  | .idle => 0 | .gather => 1 | .fault => 2

def WinKind.code : WinKind → Nat
  | .control => 0 | .capture => 1 | .live => 2 | .pass => 3

/-- The kinds a window code names; any other code fails the range check (R194). -/
def WinKind.ofCode : Nat → Option WinKind
  | 0 => some .control | 1 => some .capture | 2 => some .live | 3 => some .pass | _ => none

def TermFn.code : TermFn → Nat
  | .inGeneral => 0 | .inCutterReady => 1 | .inShiftMark => 2 | .inRibbonBreak => 3 | .inGantryParked => 4
  | .outGeneral => 5 | .outStalled => 6 | .outInspecting => 7

def TermFn.ofCode : Nat → Option TermFn
  | 0 => some .inGeneral | 1 => some .inCutterReady | 2 => some .inShiftMark | 3 => some .inRibbonBreak
  | 4 => some .inGantryParked | 5 => some .outGeneral | 6 => some .outStalled | 7 => some .outInspecting | _ => none

def FLevel.code : FLevel → Nat
  | .low => 0 | .high => 1 | .undetermined => 2

def FlawClass.code : FlawClass → Nat
  | .seed => 0 | .inclusion => 1 | .scratch => 2 | .spot => 3 | .large => 4

def Grade.code : Grade → Nat
  | .a => 0 | .b => 1 | .c => 2 | .reject => 3

def Grade.ofCode : Nat → Option Grade
  | 0 => some .a | 1 => some .b | 2 => some .c | 3 => some .reject | _ => none

/-- An absent grade is written 0xFF. -/
def gradeOrAbsent : Option Grade → Nat
  | some g => g.code
  | none => 0xFF

def RowKind.code : RowKind → Nat
  | .plate => 0 | .head => 1 | .change => 2 | .shift => 3 | .gap => 4 | .brk => 5

def RowState.code : RowState → Nat
  | .planned => 0 | .sealed => 1 | .committed => 2 | .cut => 3 | .final => 4

def OutcomeKind.code : OutcomeKind → Nat
  | .made => 0 | .fallback => 1 | .failed => 2 | .spare => 3 | .cullet => 4

def SpanKind.code : SpanKind → Nat
  | .lost => 0 | .parked => 1 | .learn => 2 | .flood => 3 | .brk => 4 | .mapFull => 5 | .mixed => 6

/-- The causes of a LOST line (R46), in code order. -/
inductive LostCause where | skip | expiry | incomplete | lag | silent | overrun
deriving DecidableEq, Repr

def LostCause.code : LostCause → Fin 6
  | .skip => 0 | .expiry => 1 | .incomplete => 2 | .lag => 3 | .silent => 4 | .overrun => 5

/-- The causes of CAPTURE_ORDER (R41, R43). -/
inductive OrderCause where | stale | untriggered | straddle
deriving DecidableEq, Repr

def OrderCause.code : OrderCause → Nat
  | .stale => 0 | .untriggered => 1 | .straddle => 2

def CutStatus.code : CutStatus → Nat
  | .unsent => 0 | .queued => 1 | .sent => 2 | .accepted => 3 | .scored => 4 | .missed => 5

def MissCause.code : MissCause → Fin 7
  | .full => 0 | .noAck => 1 | .skipped => 2 | .implausible => 3 | .refused => 4 | .deadline => 5 | .notReady => 6

/-- The kinds of a link error (R124). -/
inductive LinkErrorKind where | parity | framing | overrun | checksum | gap | delimiter | length | truncated
deriving DecidableEq, Repr

def LinkErrorKind.code : LinkErrorKind → Fin 8
  | .parity => 0 | .framing => 1 | .overrun => 2 | .checksum => 3 | .gap => 4 | .delimiter => 5 | .length => 6
  | .truncated => 7

def RingState.code : RingState → Nat
  | .unset => 0 | .running => 1 | .stopped => 2

def LearnState.code : LearnState → Nat
  | .none => 0 | .start => 1 | .learning => 2

def OrderState.code : OrderState → Nat
  | .active => 0 | .held => 1 | .done => 2 | .cancelled => 3

def FramerState.code : FramerState → Nat
  | .hunt => 0 | .delimiter => 1 | .kind => 2 | .length => 3 | .payload => 4 | .check => 5

def CloseCause.code : CloseCause → Nat
  | .boundary => 0 | .command => 1 | .terminal => 2 | .clock => 3

/-- 10, section 10.1: the numbers of the event kinds. -/
def EventKind.num : EventKind → Nat
  | .cmdDone => 0 | .cmdFault => 1 | .ringReady => 2 | .ringStopped => 3 | .flawRingLoss => 4 | .captureLost => 5
  | .captureOrder => 6 | .lightShift => 7 | .edgeLost => 8 | .blobForced => 9 | .mapFull => 10 | .ribbonStall => 11
  | .ribbonResume => 12 | .encoderReverse => 13 | .gantryParked => 14 | .gantryOnGlass => 15 | .ribbonBreak => 16
  | .rowShifted => 17 | .rowUnsealed => 18 | .planStarved => 19 | .orderDone => 20 | .cutMissed => 21 | .cutOffset => 22
  | .linkError => 23 | .linkProtocol => 24 | .cutterNotReady => 25 | .plateReject => 26 | .shiftClosed => 27
  | .reportMerged => 28 | .terminalChange => 29 | .guardViolation => 30 | .memError => 31

/-- Ring numbers (R26, R184). -/
def flawRing : Fin 4 := 0
def plateRing : Fin 4 := 1
def reportRing : Fin 4 := 2
def eventRing : Fin 4 := 3

/-- R25: record sizes. -/
def recordSize : Fin 4 → Nat
  | 0 => 64 | 1 => 64 | 2 => 512 | 3 => 32

/-- A ring number given in a payload. -/
def ringOfNat (n : Nat) : Option (Fin 4) := if h : n < 4 then some ⟨n, h⟩ else none

/-- The code of a cut's resolution as page 4 shows it (R195). -/
def Resolution.code : Resolution → Nat
  | .unresolved => 0 | .scored _ false => 1 | .scored _ true => 2 | .missed => 3

end Sys2Proof.Machine
end

