-- ==== Sys2Proof/Machine/Flags.lean ====
section
/-! DEFINITION. The event flags and the interrupt lines (10): occurrences, active sets, gaps. -/

namespace Sys2Proof.Machine

/-- The kinds routed to a line that are enabled and pending (10, Active set). -/
def Events.activeSet (e : Events) (line : Fin 4) : List (Fin 32) :=
  (List.finRange 32).filter (fun k => e.enable.getLsbD k && e.pending.getLsbD k && e.routes[k] == line)

/-- R190, R191: whether a line is active: its active set is not empty and no gap is in progress. -/
def Events.level (e : Events) (line : Fin 4) : Bool := !(e.activeSet line).isEmpty && e.gaps[line] == none

/-- R191: the gap of a line after a change from the active set `old`. A PULSED line makes or extends a gap when its set
goes from one non-empty set to another; an empty set ends a gap; a LEVEL line has none. -/
def Events.gapAfter (e : Events) (old : List (Fin 32)) (line : Fin 4) : Option Nat :=
  let new := e.activeSet line
  if !e.pulsed[line] || new.isEmpty then none
  else if !old.isEmpty && old != new then some 0
  else e.gaps[line]

/-- Changes flags, enables, routes or modes, and lets each line follow (R190, R191). -/
def Events.change (f : Events → Events) (e : Events) : Events :=
  let e' := f e
  { e' with gaps := Vector.ofFn (fun i => e'.gapAfter (e.activeSet i) i) }

/-- R186: an occurrence sets the kind's pending flag. -/
def Events.setPending (k : EventKind) (e : Events) : Events :=
  e.change (fun e => { e with pending := e.pending ||| (1#32 <<< k.num) })

/-- R189: clears the pending flags of a mask. -/
def Events.ack (m : BitVec 32) (e : Events) : Events :=
  e.change (fun e => { e with pending := e.pending &&& ~~~m })

/-- R187: a request for an event record joins EVENT staging or is lost. -/
def State.stageEvent (r : EventRec) (s : State) : State :=
  if s.rings[eventRing].state = .unset ∨ Config.eventStaging ≤ s.rings[eventRing].staging.length then
    s.modEv (fun e => { e with lost := inc32 e.lost })
  else
    s.modRing eventRing (fun g => { g with staging := g.staging ++ [{ record := .event r, issued := none }] })

/-- R186: one occurrence of a kind with its two arguments. -/
def State.raise (k : EventKind) (a1 a2 : Nat) (s : State) : State :=
  let s1 := s.modEv (Events.setPending k)
  if s.ev.log.getLsbD k.num then
    (s1.modEv (fun e => { e with seq := nextNumber e.seq })).stageEvent
      { kind := k, seq := s.ev.seq, line := s.pos.line, day := s.pos.day, tod := s.pos.tod,
        arg1 := low32 a1, arg2 := low32 a2 }
  else s1

/-- R191: the 2 µs of a gap have passed and the line returns to active. -/
def Events.endGap (line : Fin 4) (e : Events) : Events := { e with gaps := e.gaps.set line none }

/-- Raises the event only where a condition holds. -/
def State.raiseIf (c : Bool) (k : EventKind) (a1 a2 : Nat) (s : State) : State := if c then s.raise k a1 a2 else s

end Sys2Proof.Machine
end

