-- ==== Sys2Proof/Machine/Records.lean ====
section
/-! DEFINITION. The byte layouts of the records (11, sections 11.3 to 11.5). -/

namespace Sys2Proof.Machine

/-- The flags of a FLAW record. -/
def Flaw.flagBits (f : Flaw) : Nat :=
  mark f.flags.forced + 2 * mark f.flags.continued + 4 * mark f.flags.seam + 8 * mark f.flags.overflow
    + 16 * mark f.notMapped + 32 * mark f.nearSpan

/-- 11.3: the FLAW record. -/
def Flaw.fields (f : Flaw) : List Field :=
  [⟨0x00, 4, f.num⟩, ⟨0x04, 1, f.cls.code⟩, ⟨0x05, 1, f.bin⟩, ⟨0x06, 2, f.flagBits⟩, ⟨0x08, 8, f.first⟩,
   ⟨0x10, 8, f.last⟩, ⟨0x18, 2, f.c0⟩, ⟨0x1A, 2, f.c1⟩, ⟨0x1C, 4, f.widthUm⟩, ⟨0x20, 4, f.lengthUm⟩,
   ⟨0x24, 4, f.dark + f.bright⟩, ⟨0x28, 4, f.dark⟩, ⟨0x2C, 4, f.bright⟩, ⟨0x30, 1, f.peak⟩, ⟨0x34, 2, f.day.toNat⟩,
   ⟨0x38, 4, f.tod⟩]

/-- 11.3: the EVENT record. -/
def EventRec.fields (e : EventRec) : List Field :=
  [⟨0x00, 1, e.kind.num⟩, ⟨0x04, 4, e.seq⟩, ⟨0x08, 5, e.line⟩, ⟨0x0E, 2, e.day.toNat⟩, ⟨0x10, 4, e.tod⟩,
   ⟨0x14, 4, e.arg1⟩, ⟨0x18, 4, e.arg2⟩]

/-- The flags of a plate record. -/
def PlateFlags.bits (f : PlateFlags) : Nat :=
  mark f.uninspected + 2 * mark f.mapFull + 4 * mark f.unsealed + 8 * mark f.cutMissed + 16 * mark f.cutOffset
    + 32 * mark f.edgeShort + 64 * mark f.regraded + 128 * mark f.reassigned + 256 * mark f.shifted

/-- 11.4: the PLATE record. -/
def PlateRec.fields (p : PlateRec) : List Field :=
  [⟨0x00, 4, p.num⟩, ⟨0x04, 4, p.row⟩, ⟨0x08, 1, p.lane.getD 0xFF⟩, ⟨0x09, 1, p.kind.code⟩, ⟨0x0A, 2, p.order.getD 0⟩,
   ⟨0x0C, 1, gradeOrAbsent p.provisional⟩, ⟨0x0D, 1, gradeOrAbsent p.grade⟩, ⟨0x0E, 1, p.outcome.code⟩,
   ⟨0x10, 5, p.start⟩, ⟨0x15, 5, p.stop⟩, ⟨0x1A, 5, p.actualStart⟩, ⟨0x1F, 5, p.actualStop⟩, ⟨0x24, 2, p.score⟩,
   ⟨0x26, 2, p.flaws⟩, ⟨0x28, 2, p.fatal⟩, ⟨0x2A, 2, p.flags.bits⟩, ⟨0x2C, 2, p.day.toNat⟩, ⟨0x30, 4, p.tod⟩]

/-- A table of 32-bit counts from `off` on. -/
def countFields (off : Nat) (v : List Nat) : List Field := v.zipIdx.map (fun (x, i) => ⟨off + 4 * i, 4, x⟩)

/-- 11.5: the tallies at 0x40, as the report and page 6 lay them out. -/
def Tallies.fields (t : Tallies) : List Field :=
  [⟨0x40, 4, t.triggered⟩, ⟨0x44, 4, t.inspected⟩] ++ countFields 0x48 t.uninspected.toList
  ++ [⟨0x60, 4, t.flaws⟩, ⟨0x64, 4, t.notMapped⟩] ++ countFields 0x68 t.grades.toList
  ++ countFields 0x78 t.outcomes.toList
  ++ [⟨0x88, 4, t.culletRows⟩, ⟨0x8C, 4, t.culletLines⟩, ⟨0x90, 4, t.committed⟩, ⟨0x94, 4, t.scored⟩,
      ⟨0x98, 4, t.missed⟩, ⟨0x9C, 4, t.offset⟩, ⟨0xA0, 4, t.maxOffset⟩]
  ++ countFields 0xA4 t.linkErrors.toList
  ++ [⟨0xC4, 4, t.commands⟩, ⟨0xC8, 8, t.goodArea⟩, ⟨0xD0, 8, t.gradedArea⟩] ++ countFields 0xD8 t.byClass.toList

/-- The flags byte of a report. -/
def Report.flagBits (r : Report) : Nat := mark r.merged + 2 * mark r.clockSet + 4 * mark r.saturated

/-- 11.5: the REPORT record. -/
def Report.fields (r : Report) : List Field :=
  [⟨0x00, 4, r.shift⟩, ⟨0x04, 4, r.covered⟩, ⟨0x08, 1, r.cause.code⟩, ⟨0x09, 1, r.flagBits⟩, ⟨0x0A, 2, r.yield⟩,
   ⟨0x0C, 2, r.startDay.toNat⟩, ⟨0x0E, 2, r.endDay.toNat⟩, ⟨0x10, 4, r.startTod⟩, ⟨0x14, 4, r.endTod⟩,
   ⟨0x18, 8, r.startLine⟩, ⟨0x20, 8, r.endLine⟩] ++ r.tallies.fields

/-- The bytes of a staged record. -/
def Record.bytes : Record → List Byte
  | .flaw f => layout 64 f.fields
  | .plate p => layout 64 p.fields
  | .event e => layout 32 e.fields

/-- The 512 bytes of a report. -/
def Report.bytes (r : Report) : List Byte := layout 512 r.fields

end Sys2Proof.Machine
end

