-- ==== Sys2Proof/Machine/Results.lean ====
section
/-! DEFINITION. Results and write-backs of the Command Processor (R176, R177). -/

namespace Sys2Proof.Machine

/-- R177: the reported consumer index: the first buffered slot of an open chain in GATHER, else the consumer index. -/
def CmdProc.reported (c : CmdProc) : Idx :=
  match c.stage, c.chain with
  | .gather, slot :: _ => slot.index
  | _, _ => c.consumer

/-- The state word (11.1). -/
def CmdProc.stateWord (c : CmdProc) : List Byte :=
  [BitVec.ofNat 8 c.binding.code, BitVec.ofNat 8 c.stage.code, BitVec.ofNat 8 c.lastResult.code, 0]

/-- The serial number of the producer write that is held, if one is. -/
def Path.heldProducer (p : Path) : Option Nat :=
  match p.hold with
  | some h => if h.producer then some h.serial else none
  | none => none

def AccessFor.isResult : AccessFor → Bool
  | .result _ => true
  | .fwdRead _ | .fwdWrite _ | .posted _ | .record _ _ _ | .prodWord _ _ _ | .ringHeader _ | .header _ => false

/-- R177, step 2: the reported consumer index and the state word in one header write, the fault-ack word between them not
enabled. -/
def State.issueHeader (hold : Option Nat) (s : State) : State :=
  s.issue (.header (.writeBack hold)) (s.controlBase + 4)
    ((toBytes 4 s.cp.reported.toNat).map some ++ List.replicate 4 none ++ s.cp.stateWord.map some) 0

/-- R177, steps 1 and 2: a write-back that is due goes out once memory has answered every result write issued. -/
def State.writeBackIfDue (s : State) : State :=
  match s.cp.backDue with
  | some hold =>
    if s.path.down.any (fun a => a.what.isResult) then s
    else (s.modCp (fun c => { c with backDue := none })).issueHeader hold
  | none => s

/-- R177: a write-back is made. It will release the producer write that is held now (log 41). -/
def State.writeBack (s : State) : State :=
  (s.modCp (fun c => { c with backDue := some s.path.heldProducer })).writeBackIfDue

/-- R180: the state word alone, written at a fault-ack. -/
def State.writeStateWord (s : State) : State :=
  s.issueWrite (.header .faultAck) (s.controlBase + 12) s.cp.stateWord

/-- R176, 11.1: the result area of one slot: result code, detail, completion sequence: slot bytes 4 to 15. That bytes
12 to 15, which no field occupies, are written, with 0, is the model's choice (log 66). -/
def resultBytes (code : ResultCode) (detail seq : Nat) : List Byte :=
  layoutFrom [⟨4, 1, code.code⟩, ⟨6, 2, detail⟩, ⟨8, 4, seq⟩] 4 12

/-- R176: one result: the completion sequence rises, the result is written into every slot in index order, and the last
result takes the code. -/
def State.writeResult (slots : List Idx) (first : Idx) (code : ResultCode) (detail : Nat) (s : State) : State :=
  let seq := (s.cp.sequence + 1) % 2 ^ 32
  let s1 := s.modCp (fun c => { c with sequence := seq, lastResult := code })
  slots.foldl (fun s i => s.issueWrite (.result first) (s.slotAddr i + 4) (resultBytes code detail seq)) s1

/-- The slots that a command occupied from its first on, in index order. -/
def slotsFrom (first : Idx) (n : Nat) : List Idx := (List.range n).map (fun i => first + BitVec.ofNat 16 i)

/-- R175, R177: whether the last announced slot has been taken. -/
def CmdProc.allTaken (c : CmdProc) : Bool := c.consumer == c.known

/-- R176, R177: a command of `n` slots is answered with a result: the result is written, NOTIFY is remembered until the
result is in memory, and the write-back follows when no announced slot is left or the command asks for it. -/
def State.answerCommand (first : Idx) (tag n : Nat) (notify : Bool) (code : ResultCode) (force : Bool) (s : State) :
    State :=
  let s1 := (s.writeResult (slotsFrom first n) first code n).modCp (fun p =>
    { p with dispatched := none, wait := none,
             notify := if notify then p.notify ++ [{ first := first, tag := tag, code := code }] else p.notify })
  if force || s1.cp.allTaken then s1.writeBack else s1

/-- R176: the dispatched command is finished with a result. -/
def State.finish (code : ResultCode) (force : Bool) (s : State) : State :=
  match s.cp.dispatched with
  | none => s
  | some c => s.answerCommand c.first c.tag c.slots c.notify code force

/-- R179: the chain stage enters FAULT: SEQUENCE into the offending slot and every buffered slot under one completion
sequence value (none when there is no such slot, log 11), the buffer emptied, the last result SEQUENCE, CMD_FAULT, the
write-back. The consumer index stands where it belongs already. -/
def State.chainFault (cause : FaultCause) (offending : List Idx) (s : State) : State :=
  let slots := s.cp.chain.map (·.index) ++ offending
  let s1 := if slots.isEmpty then s else s.writeResult slots (slots.headD 0) .sequence cause.code
  let s2 := s1.modCp (fun c => { c with stage := .fault, chain := [], lastResult := .sequence })
  (s2.raise .cmdFault s2.cp.consumer.toNat cause.code).writeBack

/-- R175: the announced count. -/
def CmdProc.announced (c : CmdProc) : Nat := Idx.ahead c.known c.consumer

end Sys2Proof.Machine
end

