-- ==== Sys2Proof/Machine/Tally.lean ====
section
/-! DEFINITION. The Tally Unit (08): counting, closing a shift, placing and merging reports. -/

namespace Sys2Proof.Machine

/-! ## Counting (R160, R161) -/

/-- Adds to a 32-bit tally. -/
def tallyAdd (x n : Nat) : Nat := satAdd Config.max32 x n

/-- Adds to a tally of a table. -/
def tallyAt {n : Nat} (v : Vector Nat n) (i : Fin n) (k : Nat) : Vector Nat n := upd v i (tallyAdd · k)

/-- Whether any tally stands at its maximum (R160). -/
def Tallies.saturated (t : Tallies) : Bool :=
  [t.triggered, t.inspected, t.flaws, t.notMapped, t.culletRows, t.culletLines, t.committed, t.scored, t.missed, t.offset,
   t.maxOffset, t.commands].any (· ≥ Config.max32)
  || t.uninspected.toList.any (· ≥ Config.max32) || t.grades.toList.any (· ≥ Config.max32)
  || t.outcomes.toList.any (· ≥ Config.max32) || t.linkErrors.toList.any (· ≥ Config.max32)
  || t.byClass.toList.any (· ≥ Config.max32) || t.goodArea ≥ Config.max64 || t.gradedArea ≥ Config.max64

/-- R161: takes a report into the live tallies; a tally that reaches its maximum sets the SATURATED mark. -/
def State.tallied (f : Tallies → Tallies) (s : State) : State :=
  s.modTally (fun t =>
    let live := f t.live
    { t with live := live, start := { t.start with saturated := t.start.saturated || live.saturated } })

/-- A flaw's place among the 40 counts. -/
def classIndex (c : FlawClass) (bin : Nat) : Fin 40 := Fin.ofNat 40 (c.code * 8 + bin)

/-- R161: a flaw created. -/
def Tallies.flaw (f : Flaw) (t : Tallies) : Tallies :=
  { t with flaws := tallyAdd t.flaws 1, byClass := tallyAt t.byClass (classIndex f.cls f.bin) 1,
           notMapped := tallyAdd t.notMapped (mark f.notMapped) }

/-- The place of a request's kind among the six kinds of uninspected lines; MIXED is never requested (04, 4.4). -/
def SpanKind.uninspectedIndex : SpanKind → Option (Fin 6)
  | .lost => some 0 | .parked => some 1 | .learn => some 2 | .flood => some 3 | .brk => some 4 | .mapFull => some 5
  | .mixed => none

/-- R161: lines uninspected. -/
def Tallies.uninspectedLines (k : SpanKind) (n : Nat) (t : Tallies) : Tallies :=
  match k.uninspectedIndex with
  | some i => { t with uninspected := tallyAt t.uninspected i n }
  | none => t

def Grade.index : Grade → Fin 4
  | .a => 0 | .b => 1 | .c => 2 | .reject => 3

/-- The place of a plate's outcome; CULLET is counted apart (R167). -/
def OutcomeKind.index : OutcomeKind → Option (Fin 4)
  | .made => some 0 | .fallback => some 1 | .failed => some 2 | .spare => some 3 | .cullet => none

/-- R161: a plate with its grade, outcome and area. -/
def Tallies.plate (g : Grade) (o : OutcomeKind) (area : Nat) (t : Tallies) : Tallies :=
  { t with grades := tallyAt t.grades g.index 1,
           outcomes := match o.index with
             | some i => tallyAt t.outcomes i 1
             | none => t.outcomes,
           gradedArea := satAdd Config.max64 t.gradedArea area,
           goodArea := if g = .reject then t.goodArea else satAdd Config.max64 t.goodArea area }

/-- R161: a cullet row with its lines and area. -/
def Tallies.cullet (lines area : Nat) (t : Tallies) : Tallies :=
  { t with culletRows := tallyAdd t.culletRows 1, culletLines := tallyAdd t.culletLines lines,
           gradedArea := satAdd Config.max64 t.gradedArea area }

/-- R161: a SCORED resolution with its absolute offset. -/
def Tallies.cutScored (absOffset : Nat) (offset : Bool) (t : Tallies) : Tallies :=
  { t with scored := tallyAdd t.scored 1, offset := tallyAdd t.offset (mark offset),
           maxOffset := min Config.max32 (max t.maxOffset absOffset) }

/-! ## Reports (R166 to R170) -/

/-- R168: the yield in parts per ten thousand. -/
def yieldOf (good graded : Nat) : Nat := if graded = 0 then 0 else 10000 * good / graded

/-- R167: the report of a close with this cause, at this moment. -/
def State.buildReport (cause : CloseCause) (s : State) : Report :=
  { shift := s.tally.shift, covered := 1, cause := cause, merged := false, clockSet := s.tally.start.clockSet,
    saturated := s.tally.start.saturated, yield := yieldOf s.tally.live.goodArea s.tally.live.gradedArea,
    startDay := s.tally.start.day, startTod := s.tally.start.tod, startLine := s.tally.start.line,
    endDay := s.pos.day, endTod := s.pos.tod, endLine := s.pos.line, tallies := s.tally.live }

/-- Adds two tables of tallies place by place. -/
def mergeCounts {n : Nat} (a b : Vector Nat n) : Vector Nat n := Vector.ofFn (fun i => tallyAdd a[i] b[i])

/-- R169: every count and area of the new report is added; the largest absolute offset takes the larger value. -/
def Tallies.merge (a b : Tallies) : Tallies :=
  { triggered := tallyAdd a.triggered b.triggered, inspected := tallyAdd a.inspected b.inspected,
    uninspected := mergeCounts a.uninspected b.uninspected, flaws := tallyAdd a.flaws b.flaws,
    notMapped := tallyAdd a.notMapped b.notMapped, grades := mergeCounts a.grades b.grades,
    outcomes := mergeCounts a.outcomes b.outcomes, culletRows := tallyAdd a.culletRows b.culletRows,
    culletLines := tallyAdd a.culletLines b.culletLines, committed := tallyAdd a.committed b.committed,
    scored := tallyAdd a.scored b.scored, missed := tallyAdd a.missed b.missed, offset := tallyAdd a.offset b.offset,
    maxOffset := max a.maxOffset b.maxOffset, linkErrors := mergeCounts a.linkErrors b.linkErrors,
    commands := tallyAdd a.commands b.commands, goodArea := satAdd Config.max64 a.goodArea b.goodArea,
    gradedArea := satAdd Config.max64 a.gradedArea b.gradedArea, byClass := mergeCounts a.byClass b.byClass }

/-- R169: the new report `n` merged into the waiting one `w`. A sum that comes to its maximum exactly counts as one that
saturates, as R160 says of the live tallies (log 65). -/
def Report.merge (w n : Report) : Report :=
  let t := w.tallies.merge n.tallies
  { shift := w.shift, covered := w.covered + n.covered, cause := n.cause, merged := true,
    clockSet := w.clockSet || n.clockSet, saturated := w.saturated || n.saturated || t.saturated,
    yield := yieldOf t.goodArea t.gradedArea, startDay := w.startDay, startTod := w.startTod, startLine := w.startLine,
    endDay := n.endDay, endTod := n.endTod, endLine := n.endLine, tallies := t }

/-- R169: places a report into an EMPTY slot or merges it into a WAITING one (REPORT_MERGED). -/
def State.placeReport (r : Report) (s : State) : State :=
  match s.tally.slot with
  | .empty => s.modTally (fun t => { t with slot := .waiting r })
  | .waiting w =>
    let m := w.merge r
    (s.modTally (fun t => { t with slot := .waiting m, merged := inc32 t.merged })).raise .reportMerged r.shift m.covered
  | .inFlight _ _ => s

/-- R166, steps 1 to 6. -/
def State.performClose (cause : CloseCause) (s : State) : State :=
  let closedShift := s.tally.shift
  let s1 := s.placeReport (s.buildReport cause)
  let s2 := s1.modTally (fun t =>
    { t with live := .zero, shift := nextNumber t.shift,
             start := { day := s.pos.day, tod := s.pos.tod, line := s.pos.line, clockSet := false, saturated := false },
             closed := inc32 t.closed })
  s2.raise .shiftClosed closedShift cause.code

/-- Whether a report is in flight (R170). -/
def Tally.reportInFlight (t : Tally) : Bool :=
  match t.slot with
  | .inFlight _ _ => true
  | .empty | .waiting _ => false

/-- R166, R170: a shift close, performed at once or deferred behind an IN_FLIGHT report; a cause that comes while a close
is deferred joins it, and the mark keeps the first. -/
def State.closeShift (cause : CloseCause) (s : State) : State :=
  if s.tally.reportInFlight then
    s.modTally (fun t => { t with deferred := some (t.deferred.getD cause) })
  else s.performClose cause

/-- R170: the deferred close, if there is one, once the pending slot is no longer in flight; a SHIFT_END that waited for
it is answered OK. -/
def State.performDeferred (s : State) : State :=
  match s.tally.deferred with
  | none => s
  | some cause =>
    let s1 := (s.modTally (fun t => { t with deferred := none })).performClose cause
    if s1.cp.wait = some .close then s1.finish .ok false else s1

/-- R163: a boundary reached by this advance of the clock. -/
def State.boundaryTest (s : State) : State :=
  if s.tally.plan.any (fun b => b * 1000 = s.pos.tod) then s.closeShift .boundary else s

/-- R164: whether a boundary of the plan lies after clock value (d1, t1) and at or before the later value (d2, t2). -/
def boundaryBetween (plan : List Nat) (d1 t1 d2 t2 : Nat) : Bool :=
  plan.any (fun b =>
    let ms := b * 1000
    if d1 = d2 then t1 < ms && ms ≤ t2
    else t1 < ms || ms ≤ t2 || d1 + 1 < d2)

end Sys2Proof.Machine
end

