-- ==== Sys2Proof/Machine/MapUnit.lean ====
section
/-! DEFINITION. The Map Unit (04, sections 4.3 to 4.5): flaws, spans, retirement, queries. -/

namespace Sys2Proof.Machine

/-! ## Spans (R80 to R83) -/

/-- R81, step 1: the pieces of [a, b) that no span of the list (ascending, disjoint) covers. -/
def uncovered (a b : Nat) : List Span → List (Nat × Nat)
  | [] => if a < b then [(a, b)] else []
  | s :: ss =>
    if b ≤ a then []
    else if s.stop ≤ a then uncovered a b ss
    else if b ≤ s.start then [(a, b)]
    else (if a < s.start then [(a, s.start)] else []) ++ uncovered (max a s.stop) b ss

/-- R80: two spans of one kind that touch or overlap become one. -/
def coalesce : List Span → List Span
  | [] => []
  | s :: ss =>
    match coalesce ss with
    | [] => [s]
    | t :: ts =>
      if s.kind = t.kind ∧ t.start ≤ s.stop then { kind := s.kind, start := s.start, stop := max s.stop t.stop } :: ts
      else s :: t :: ts

/-- Puts a span at its place in the order. -/
def insertSpan (x : Span) (ss : List Span) : List Span := insertSorted (fun a b => a.start < b.start) x ss

/-- R81, step 3: whether a piece touches a span of its own kind. -/
def touchesOwn (k : SpanKind) (a b : Nat) (ss : List Span) : Bool :=
  ss.any (fun s => s.kind = k && (s.stop = a || s.start = b))

/-- R82: the piece merged into the span immediately before it, or, when none lies before it, into the first one. -/
def mergeSpan (k : SpanKind) (a b : Nat) (ss : List Span) : List Span :=
  let grow (s : Span) : Span :=
    { kind := if s.kind = k then s.kind else .mixed, start := min s.start a, stop := max s.stop b }
  let before := ss.filter (fun s => s.stop ≤ a)
  let after := ss.filter (fun s => !(s.stop ≤ a))
  match before.getLast? with
  | some s => before.dropLast ++ grow s :: after
  | none =>
    match after with
    | s :: rest => grow s :: rest
    | [] => []

/-- R84: whether lines that end before `stop` (exclusive) are retired. -/
def Retire.retires (r : Retire) (stop : Nat) : Bool :=
  match r with
  | .line n => stop ≤ n
  | .none => false
  | .all => true

/-- R81, steps 2 to 4, and R82: enters one piece. -/
def FlawMap.enterPiece (k : SpanKind) (m : FlawMap) (p : Nat × Nat) : FlawMap :=
  if m.retire.retires p.2 then m
  else if touchesOwn k p.1 p.2 m.spans ∨ m.spans.length < Config.spanMax then
    { m with spans := coalesce (insertSpan { kind := k, start := p.1, stop := p.2 } m.spans) }
  else { m with spans := coalesce (mergeSpan k p.1 p.2 m.spans), spanMerges := inc32 m.spanMerges }

/-- R81 to R83: a span request over [a, b). -/
def State.requestSpan (k : SpanKind) (a b : Nat) (s : State) : State :=
  let pieces := uncovered a b s.map.spans
  let s1 := s.modMap (fun m => pieces.foldl (FlawMap.enterPiece k) m)
  s1.tallied (Tallies.uninspectedLines k ((pieces.map (fun p => p.2 - p.1)).sum))

/-- R86: the span query: the kinds of the spans that share a line with [a, b). -/
def FlawMap.spanQuery (m : FlawMap) (a b : Nat) : List SpanKind :=
  (m.spans.filter (fun s => s.start < b && a < s.stop)).map (·.kind)

/-- R86: the flaw query for lines [a, b) and columns c0 to c1. -/
def FlawMap.flawQuery (m : FlawMap) (a b c0 c1 : Nat) : List Flaw :=
  m.flaws.filter (fun f => f.first < b && a ≤ f.last && f.c0 ≤ c1 && c0 ≤ f.c1)

/-! ## Flaws (R75 to R79) -/

/-- R75: the number a flaw takes: from the counter on, the first one not held by a flaw in the map. -/
def freeFlawNumber (flaws : List Flaw) : Nat → Nat → Nat
  | 0, n => n
  | fuel + 1, n => if flaws.any (fun f => f.num = n) then freeFlawNumber flaws fuel (nextNumber n) else n

/-- The map's order (R76): first line, first column, flaw number. -/
def Flaw.before (f g : Flaw) : Bool :=
  f.first < g.first || (f.first = g.first && (f.c0 < g.c0 || (f.c0 = g.c0 && f.num < g.num)))

/-- R72, R73: the class of a measured blob. -/
def classify (p : ClassParams) (major aspect16 darkfrac peak : Nat) : FlawClass :=
  if p.large ≤ major then .large
  else if p.scratch ≤ aspect16 then .scratch
  else if 224 ≤ darkfrac ∧ p.stone ≤ peak then .inclusion
  else if 64 ≤ darkfrac then .seed
  else .spot

/-- R73: the size bin. -/
def sizeBin (p : ClassParams) (major : Nat) : Nat := (p.bounds.toList.filter (· ≤ major)).length

/-- R72, R73, R75: the flaw of a closed blob, measured with line pitch `lp` and pixel pitch `pp`. -/
def measure (p : ClassParams) (lp pp : Nat) (b : Blob) (num : Nat) (near : Bool) (day : BitVec 16) (tod : Nat) : Flaw :=
  let w := (b.c1 - b.c0 + 1) * pp
  let l := (b.last - b.first + 1) * lp
  let major := max w l
  let minor := min w l
  { num := num, cls := classify p major (min 255 (16 * major / minor)) (256 * b.dark / (b.dark + b.bright)) b.peak,
    bin := sizeBin p major, flags := b.flags, notMapped := false, nearSpan := near, first := b.first, last := b.last,
    c0 := b.c0, c1 := b.c1, widthUm := w, lengthUm := l, dark := b.dark, bright := b.bright, peak := b.peak, day := day,
    tod := tod }

/-- R78: the request for a FLAW record. -/
def State.requestFlawRecord (f : Flaw) (s : State) : State :=
  if s.rings[flawRing].state = .unset then s
  else if s.rings[flawRing].staging.length < Config.flawStaging then
    (s.modRing flawRing (fun g => { g with staging := g.staging ++ [{ record := .flaw f, issued := none }] })).modMap
      (fun m => { m with lossMark := false })
  else
    let lost := inc32 s.map.recordsLost
    (s.modMap (fun m => { m with recordsLost := lost, lossMark := true })).raiseIf (!s.map.lossMark) .flawRingLoss f.num
      lost

/-- R77: a flaw refused by a full map. -/
def State.refuseFlaw (f : Flaw) (s : State) : State :=
  let s1 := s.requestSpan .mapFull f.first (f.last + 1)
  let s2 := s1.modMap (fun m => { m with notMapped := inc32 m.notMapped, full := true })
  s2.raiseIf (!s1.map.full) .mapFull f.num f.first

/-- R76, R77: the placement of a flaw. -/
def State.placeFlaw (f : Flaw) (s : State) : State × Flaw :=
  if s.map.retire.retires (f.last + 1) then
    (s.modMap (fun m => { m with retiredAtCreation := inc32 m.retiredAtCreation }), f)
  else if s.map.flaws.length < Config.flawMax then
    (s.modMap (fun m => { m with flaws := insertSorted Flaw.before f m.flaws, mapped := inc32 m.mapped }), f)
  else
    let f' := { f with notMapped := true }
    (s.refuseFlaw f', f')

/-- The line pitch in µm (R5). -/
def State.lp (s : State) : Nat := s.pos.pitchE * s.pos.dv

/-- R75 to R79: a closed blob is offered to the Map Unit. -/
def State.offerBlob (b : Blob) (s : State) : State :=
  let num := freeFlawNumber s.map.flaws (Config.flawMax + 1) s.map.nextFlaw
  let near := !(s.map.spanQuery (b.first - s.ing.detect.lg) (b.last + s.ing.detect.lg + 1)).isEmpty
  let f := measure s.blobs.params s.lp s.ing.pp b num near s.pos.day s.pos.tod
  let (s1, f1) := (s.modMap (fun m => { m with nextFlaw := nextNumber num })).placeFlaw f
  (s1.requestFlawRecord f1).tallied (Tallies.flaw f1)

/-! ## Retirement (R84, R85) -/

/-- R85: the retirement line takes a value. -/
def State.setRetire (r : Retire) (s : State) : State :=
  s.modMap (fun m =>
    let flaws := m.flaws.filter (fun f => !r.retires (f.last + 1))
    let spans := m.spans.filter (fun x => !r.retires x.stop)
    { m with retire := r, flaws := flaws, spans := spans,
             flawsRetired := satAdd Config.max32 m.flawsRetired (m.flaws.length - flaws.length),
             spansRetired := satAdd Config.max32 m.spansRetired (m.spans.length - spans.length),
             full := m.full && !(flaws.length < Config.flawMax) })

end Sys2Proof.Machine
end

