-- ==== Sys2Proof/Machine/BlobTracker.lean ====
section
/-! DEFINITION. The Blob Tracker (04, section 4.1). -/

namespace Sys2Proof.Machine

/-- The order in which blobs that close at one line are offered (R64, R69). -/
def Blob.before (a b : Blob) : Bool :=
  a.first < b.first || (a.first = b.first && (a.c0 < b.c0 || (a.c0 = b.c0 && a.num < b.num)))

/-- The lowest FREE number of a table in ascending number, from `n` on (R63). -/
def lowestFree : Nat → List Blob → Nat
  | n, [] => n
  | n, b :: bs => if b.num = n then lowestFree (n + 1) bs else n

/-- Puts an entry at its number. -/
def putBlob (b : Blob) (l : List Blob) : List Blob := insertSorted (fun x y => x.num < y.num) b (l.filter (·.num != b.num))

def State.setEntries (l : List Blob) (s : State) : State := s.modBlobs (fun b => { b with entries := l })

/-- R64: closes the given entries by gap: OPEN ones are offered in order, CARRIED ones expire. -/
def State.closeByGap (closing : List Blob) (s : State) : State :=
  let s1 := s.modBlobs (fun t =>
    { t with entries := t.entries.filter (fun b => !closing.any (·.num = b.num)),
             closedByGap := satAdd Config.max32 t.closedByGap (closing.filter (!·.carried)).length,
             expired := satAdd Config.max32 t.expired (closing.filter (·.carried)).length })
  (sortBy Blob.before (closing.filter (!·.carried))).foldl (fun s b => s.offerBlob b) s1

/-- R65: whether a run overlaps an entry's recent span widened by Gc. -/
def Run.joins (gc : Nat) (r : Run) (b : Blob) : Bool := r.c0 ≤ b.r1 + gc && b.r0 ≤ r.c1 + gc

/-- Where each entry that stood before the line's runs has gone: to an entry of the table, or nowhere once force-closed
(R65). -/
abbrev Moved := List (Nat × Option Nat)

/-- The entries of the table that a run joins (R65), in ascending number, each once. -/
def joinTargets (gc : Nat) (r : Run) (before : List Blob) (moved : Moved) : List Nat :=
  ((before.filter (r.joins gc)).filterMap (fun b => (moved.find? (·.1 = b.num)).bind (·.2))).foldl
    (fun acc n => if acc.contains n then acc else insertSorted (· < ·) n acc) []

/-- The union of two ranges, the first one perhaps absent. -/
def widen (t : Option (Nat × Nat)) (c0 c1 : Nat) : Nat × Nat :=
  match t with
  | none => (c0, c1)
  | some (a, b) => (min a c0, max b c1)

/-- The blob that a run of line `n` opens in entry `num` (R66). -/
def Blob.ofRun (num n : Nat) (r : Run) : Blob :=
  { num := num, carried := false, first := n, last := n, c0 := r.c0, c1 := r.c1, dark := r.dark, bright := r.bright,
    peak := r.peak, r0 := r.c0, r1 := r.c1, taken := some (r.c0, r.c1),
    flags := { forced := false, continued := false, seam := r.seam, overflow := r.overflow } }

/-- The union of two blobs in entry `num` (R67): a CARRIED entry gives its CONTINUED flag only; the runs taken on the
line are taken together. -/
def Blob.union (num : Nat) (a b : Blob) : Blob :=
  let flags : BlobFlags :=
    { forced := false, continued := a.flags.continued || b.flags.continued,
      seam := a.flags.seam || b.flags.seam, overflow := a.flags.overflow || b.flags.overflow }
  if a.carried then { b with num := num, flags := flags }
  else if b.carried then { a with num := num, flags := flags }
  else
    { num := num, carried := false, first := min a.first b.first, last := max a.last b.last, c0 := min a.c0 b.c0,
      c1 := max a.c1 b.c1, dark := a.dark + b.dark, bright := a.bright + b.bright, peak := max a.peak b.peak,
      r0 := min a.r0 b.r0, r1 := max a.r1 b.r1,
      taken := match b.taken with
        | none => a.taken
        | some (x, y) => some (widen a.taken x y),
      flags := flags }

/-- R68: the entry to force-close: lowest last line, then lowest number. -/
def forceChoice : List Blob → Option Blob
  | [] => none
  | b :: bs =>
    match forceChoice bs with
    | none => some b
    | some c => if b.last ≤ c.last then some b else some c

/-- The table and the moves while the runs of a line are joined. -/
structure Joining where
  st : State
  moved : Moved

/-- R68: makes an entry FREE when the table is full. -/
def Joining.makeRoom (n : Nat) (j : Joining) : Joining :=
  if j.st.blobs.entries.length < Config.blobMax then j
  else
    match forceChoice j.st.blobs.entries with
    | none => j
    | some b =>
      let s1 := j.st.modBlobs (fun t =>
        { t with entries := t.entries.filter (·.num != b.num), forcedClosures := inc32 t.forcedClosures })
      let s2 := if b.carried then s1 else s1.offerBlob { b with flags := { b.flags with forced := true } }
      { st := s2.raise .blobForced n (b.num + 256 * mark (!b.carried)),
        moved := j.moved.map (fun (e, t) => (e, if t = some b.num then none else t)) }

/-- R65 to R68: one run of line `n`; `before` is the table as it stood before the runs of the line. -/
def Joining.run (gc n : Nat) (before : List Blob) (j : Joining) (r : Run) : Joining :=
  match joinTargets gc r before j.moved with
  | [] =>
    let j := j.makeRoom n
    let num := lowestFree 0 j.st.blobs.entries
    { j with st := j.st.modBlobs (fun t =>
        { t with entries := putBlob (Blob.ofRun num n r) t.entries, opened := inc32 t.opened }) }
  | t0 :: others =>
    let parts := j.st.blobs.entries.filter (fun b => (t0 :: others).contains b.num)
    let joined := parts.foldl (Blob.union t0) (Blob.ofRun t0 n r)
    { st := j.st.modBlobs (fun t =>
        { t with entries := putBlob joined (t.entries.filter (fun b => !others.contains b.num)),
                 merged := satAdd Config.max32 t.merged others.length }),
      moved := j.moved.map (fun (e, t) => (e, match t with
        | some k => if others.contains k then some t0 else some k
        | none => none)) }

/-- R66, R67: at the end of the line, the recent span of a blob that took runs is the range of those runs. -/
def Blob.endLine (b : Blob) : Blob :=
  match b.taken with
  | none => b
  | some (x, y) => { b with r0 := x, r1 := y, taken := none }

/-- R69: an OPEN blob that took runs on this line and is Lmax lines or longer. -/
def Blob.splits (lmax : Nat) (b : Blob) : Bool := !b.carried && b.taken.isSome && lmax ≤ b.last - b.first + 1

/-- R69: the continuation a split leaves. -/
def Blob.carry (b : Blob) : Blob :=
  { (b.endLine) with carried := true, dark := 0, bright := 0, peak := 0, first := 0, c0 := 0, c1 := 0,
                     flags := { forced := false, continued := true, seam := false, overflow := false } }

/-- R69: splits one blob. -/
def State.splitBlob (s : State) (b : Blob) : State :=
  (s.offerBlob { b with flags := { b.flags with continued := true } }).modBlobs (fun t =>
    { t with entries := putBlob b.carry t.entries, splits := inc32 t.splits })

/-- R70: the lowest first line of an OPEN entry. -/
def Blobs.oldestOpen (t : Blobs) : Option Nat :=
  t.entries.foldl (fun acc b =>
    if b.carried then acc
    else match acc with
      | none => some b.first
      | some f => some (min f b.first)) none

/-- R64 to R69: stages 1 to 3 of the handling of line `n` with its runs. -/
def State.trackLine (n : Nat) (runs : List Run) (s : State) : State :=
  let d := s.ing.detect
  let s1 := s.closeByGap (s.blobs.entries.filter (fun b => b.last + d.lg < n))
  let before := s1.blobs.entries
  let j := runs.foldl (Joining.run d.gc n before) { st := s1, moved := before.map (fun b => (b.num, some b.num)) }
  let splitting := sortBy Blob.before (j.st.blobs.entries.filter (Blob.splits d.lmax))
  let s2 := splitting.foldl State.splitBlob j.st
  s2.modBlobs (fun t => { t with entries := t.entries.map Blob.endLine })

end Sys2Proof.Machine
end

