-- ==== Sys2Proof/Machine/Grading.lean ====
section
/-! DEFINITION. Grading of a plate (07, sections 7.2 to 7.5) and the waiting row (R152). -/

namespace Sys2Proof.Machine

/-- The settings a slot holds (R89). -/
def CampSlot.campaign : CampSlot → Option Campaign
  | .none => Option.none
  | .active c => some c
  | .draining c => some c

def State.campaignOf (i : Fin 2) (s : State) : Option Campaign := s.plan.slots[i].campaign

/-- The slot that is ACTIVE, with its campaign (R89: at most one). -/
def Planner.active (p : Planner) : Option (Fin 2 × Campaign) :=
  match p.slots[(0 : Fin 2)], p.slots[(1 : Fin 2)] with
  | .active c, _ => some (0, c)
  | _, .active c => some (1, c)
  | _, _ => none

/-- "The worse of" two grades (00, Grades). -/
def Grade.worse (g h : Grade) : Grade := if g.code < h.code then h else g

/-- A plate "meets" a required grade when it is that grade or better; REJECT meets none (R98). -/
def Grade.meets (g required : Grade) : Bool := g ≠ .reject && g.code ≤ required.code

/-- The rectangle, band and settings of one grading of a lane plate. -/
structure Rect where
  start : Nat
  stop : Nat
  lane : Lane
  bandCols : Nat
  bandLines : Nat
deriving DecidableEq, Repr

/-- R145: the edge band in columns and lines, with the pitches in effect. -/
def rectOf (lp pp : Nat) (c : Campaign) (lane : Lane) (start stop : Nat) : Rect :=
  { start := start, stop := stop, lane := lane, bandCols := ceilDiv (c.edgeBandMm * 1000) pp,
    bandLines := ceilDiv (c.edgeBandMm * 1000) lp }

/-- R142: a rectangle with 0 lines. -/
def Rect.isEmpty (r : Rect) : Bool := r.stop ≤ r.start

def Rect.lines (r : Rect) : Nat := r.stop - r.start

/-- R145: whether a flaw lies in the CORE, by its centre. -/
def Rect.inCore (r : Rect) (f : Flaw) : Bool :=
  let col := (f.c0 + f.c1) / 2
  let line := (f.first + f.last) / 2
  r.lane.first + r.bandCols ≤ col && col + r.bandCols ≤ r.lane.last && r.start + r.bandLines ≤ line
    && line + r.bandLines + 1 ≤ r.stop

/-- R146: the points of a flaw. -/
def GradeTable.points (t : GradeTable) (core : Bool) (f : Flaw) : Nat :=
  let w := t.weights[classIndex f.cls f.bin]
  if core then w else w * t.edgeFactor / 4

/-- R146: a CORE flaw whose mark is set is fatal. -/
def GradeTable.isFatal (t : GradeTable) (r : Rect) (f : Flaw) : Bool :=
  r.inCore f && t.fatal.getLsbD (classIndex f.cls f.bin)

/-- R147: the computed grade. -/
def GradeTable.computed (t : GradeTable) (empty : Bool) (fatal score : Nat) : Grade :=
  if empty then .reject
  else if 1 ≤ fatal then .reject
  else if score ≤ t.ta then .a
  else if score ≤ t.tb then .b
  else if score ≤ t.tc then .c
  else .reject

/-- R148: the flags that span kinds set. -/
def SpanKind.uninspected : SpanKind → Bool
  | .lost | .parked | .learn | .flood | .brk | .mixed => true
  | .mapFull => false

def SpanKind.isMapFull : SpanKind → Bool
  | .mapFull | .mixed => true
  | .lost | .parked | .learn | .flood | .brk => false

/-- What a grading of a lane plate yields (R144 to R151). -/
structure PlateResult where
  grade : Grade
  score : Nat
  flaws : Nat
  fatal : Nat
  fatalLast : Option Nat
  uninspected : Bool
  mapFull : Bool
  edgeShort : Bool
deriving DecidableEq, Repr

/-- The highest of the last lines of some flaws. -/
def highestLast (fs : List Flaw) : Option Nat :=
  fs.foldl (fun acc f => some (match acc with
    | none => f.last
    | some m => max m f.last)) none

/-- R150: a lane that ran out of glass at some line of the row. -/
def shortLane (lane : Lane) : Option Extremes → Bool
  | none => false
  | some e => lane.first < e.left || e.right < lane.last

/-- R144 to R150: one lane plate over a rectangle, with its campaign's cap grade, whether it is UNSEALED or CUT_MISSED,
and the row's edge extremes. -/
def gradePlate (t : GradeTable) (m : FlawMap) (r : Rect) (cap : Grade) (unsealed cutMissed : Bool)
    (ext : Option Extremes) : PlateResult :=
  let fs := if r.isEmpty then [] else m.flawQuery r.start r.stop r.lane.first r.lane.last
  let score := min Config.max16 ((fs.map (fun f => t.points (r.inCore f) f)).sum)
  let fatals := fs.filter (t.isFatal r)
  let kinds := if r.isEmpty then [] else m.spanQuery r.start r.stop
  let uninspected := kinds.any SpanKind.uninspected
  let mapFull := kinds.any SpanKind.isMapFull
  let computed := t.computed r.isEmpty fatals.length score
  let capped := if uninspected || mapFull || unsealed || cutMissed then computed.worse cap else computed
  let short := shortLane r.lane ext
  { grade := if short then .reject else capped, score := score, flaws := min Config.max16 fs.length,
    fatal := min Config.max16 fatals.length, fatalLast := highestLast fatals, uninspected := uninspected,
    mapFull := mapFull, edgeShort := short }

/-- R142: whether a cut held is MISSED. -/
def cutMissed : Option CutRef → Bool
  | some c => c.res = .missed
  | none => false

/-- R142: whether a cut held is SCORED with the OFFSET mark. -/
def cutOffset : Option CutRef → Bool
  | some { res := .scored _ true, .. } => true
  | _ => false

/-- R142: the line of a boundary: the actual line of a SCORED cut, else the planned line. -/
def boundaryLine (planned : Nat) : Option CutRef → Nat
  | some { res := .scored line _, .. } => line
  | _ => planned

/-- R143, R151: the provisional grading of one lane over the planned range. -/
def State.gradeProvisional (s : State) (c : Campaign) (row : Row) (lane : Lane) : PlateResult :=
  gradePlate s.grader.table s.map (rectOf s.lp s.ing.pp c lane row.start row.stop) c.cap false (cutMissed row.leading)
    row.extremes

/-- R152: the record need of a row. -/
def Row.need (r : Row) : Nat := if r.kind = .plate then r.lanes.length else 1

/-- R152: whether PLATE staging can take this many records now, or none are asked for. -/
def State.plateRoom (need : Nat) (s : State) : Bool :=
  s.rings[plateRing].state = .unset || s.rings[plateRing].staging.length + need ≤ Config.plateStaging

/-- R152: a test of the waiting row; the first one without room is counted and sets the staging-full mark. -/
def State.testWaiting (s : State) : State :=
  match s.grader.waiting with
  | none => s
  | some w =>
    if s.plateRoom w.need || w.counted then s
    else s.modGrader (fun g =>
      { g with waiting := some { w with counted := true }, stagingFull := true,
               counters := { g.counters with stagingWaits := inc32 g.counters.stagingWaits } })

/-- R115: the oldest row that is not FINAL is handed to the Grader when it is CUT and no row waits there. -/
def State.handToGrader (s : State) : State :=
  match s.grader.waiting, s.plan.rows.find? (fun r => r.state ≠ .final) with
  | none, some r =>
    if r.state = .cut then
      (s.modGrader (fun g => { g with waiting := some { row := r.num, need := r.need, counted := false } })).testWaiting
    else s
  | _, _ => s

end Sys2Proof.Machine
end

