-- ==== Sys2Proof/Machine/Planner.lean ====
section
/-! DEFINITION. The Cut Planner's tables (05): campaign slots, orders, discards, extremes, retirement line,
resolutions, order accounting. -/

namespace Sys2Proof.Machine

/-! ## Extremes (R102) -/

/-- The higher of the left values and the lower of the right values; absent extremes take the other's. -/
def joinExtremes : Option Extremes → Option Extremes → Option Extremes
  | none, e => e
  | some a, none => some a
  | some a, some b => some { left := max a.left b.left, right := min a.right b.right }

/-- The extent: the planned end of the last row, absent when the table is empty. -/
def Planner.extent (p : Planner) : Option Nat := p.rows.getLast?.map (·.stop)

/-- R102: the edges of a pulsed assembled line. -/
def State.recordEdges (line left right : Nat) (s : State) : State :=
  let e : Extremes := { left := left, right := right }
  s.modPlan (fun p =>
    match p.extent with
    | none => p
    | some x =>
      if x ≤ line then { p with carried := joinExtremes p.carried (some e) }
      else { p with rows := p.rows.map (fun r =>
               if r.start ≤ line ∧ line < r.stop then { r with extremes := joinExtremes r.extremes (some e) } else r) })

/-- R102: the carried extremes are absent whenever the table is empty. -/
def Planner.tidyCarried (p : Planner) : Planner := if p.rows.isEmpty then { p with carried := none } else p

/-! ## Orders (R94) -/

/-- Changes the order with an id. -/
def modOrder (id : Nat) (f : Order → Order) (os : List Order) : List Order :=
  os.map (fun o => if o.id = id then f o else o)

def findOrder (id : Nat) (os : List Order) : Option Order := os.find? (fun o => o.id = id)

/-- 05, Available. -/
def Order.available (o : Order) : Nat := o.remaining - o.planned

def Order.allows (o : Order) (lane : Nat) : Bool := o.laneMask.getLsbD lane

/-- R94: eligible for planning under a campaign. -/
def Order.eligible (o : Order) (c : Campaign) : Bool :=
  o.state = .active && 1 ≤ o.available && c.minCut ≤ o.length && (List.range c.lanes.length).any o.allows

/-- R94: the best of the orders that satisfy `p`: highest priority, then earliest in the book. -/
def bestOrder (p : Order → Bool) (os : List Order) : Option Order :=
  os.foldl (fun acc o =>
    if p o then
      match acc with
      | none => some o
      | some b => if b.priority < o.priority then some o else some b
    else acc) none

/-- One planned plate less for the order of a lane, if it holds one. -/
def unplan (os : List Order) (l : LanePlate) : List Order :=
  match l.order with
  | some id => modOrder id (fun o => { o with planned := o.planned - 1 }) os
  | none => os

/-! ## Discards (R100) -/

/-- R100: the rows that satisfy `p` are discarded: planned counts returned, extremes joined to the carried ones. -/
def Planner.discard (q : Row → Bool) (p : Planner) : Planner :=
  let gone := p.rows.filter q
  { p with
    rows := p.rows.filter (fun r => !q r),
    orders := gone.foldl (fun os (r : Row) => r.lanes.foldl unplan os) p.orders,
    carried := gone.foldl (fun e (r : Row) => joinExtremes e r.extremes) p.carried,
    counters := { p.counters with discarded := satAdd Config.max32 p.counters.discarded gone.length } }.tidyCarried

/-- PLANNED or SEALED. -/
def Row.uncommitted (r : Row) : Bool := r.state = .planned || r.state = .sealed

/-! ## Retirement line (R84) -/

/-- R84: the retirement line for the row table and campaign states as they stand. -/
def State.retireLine (s : State) : Retire :=
  match s.plan.rows with
  | r :: _ =>
    let own := match s.campaignOf r.slot with
      | some c => c.tolerance
      | none => 0
    let held := match r.leading with
      | some c => c.tolerance
      | none => 0
    .line (r.start - 4 * max own held)
  | [] => if s.plan.active.isSome then .none else .all

/-- R84, R85: gives the Map Unit the retirement line of the present state. -/
def State.giveRetire (s : State) : State := s.setRetire s.retireLine

/-! ## Ending a campaign (R92) -/

/-- R92: ends the ACTIVE campaign, if there is one. A pending LANES frame of it is dropped (R128). -/
def State.endCampaign (s : State) : State :=
  match s.plan.active with
  | none => s
  | some (i, c) =>
    let s1 := s.modPlan (fun p =>
      let p1 := { p.discard Row.uncommitted with opening := none }
      { p1 with slots := p1.slots.set i (if p1.rows.any (fun r => r.slot = i) then .draining c else .none) })
    (s1.modLink (fun l => { l with lanesPending := none })).giveRetire

/-! ## Order accounting (R98, R99) -/

/-- R99: the DONE test of one order; a CANCELLED order with nothing reserved is removed. -/
def State.doneTest (id : Nat) (s : State) : State :=
  match findOrder id s.plan.orders with
  | none => s
  | some o =>
    if (o.state = .active ∨ o.state = .held) ∧ o.remaining = 0 ∧ o.reserved = 0 then
      let s1 := (s.modPlan (fun p => { p with orders := modOrder id (fun o => { o with state := .done }) p.orders })).raise
        .orderDone id o.made
      if o.endCampaign then s1.endCampaign else s1
    else if o.state = .cancelled ∧ o.reserved = 0 then
      s.modPlan (fun p => { p with orders := p.orders.filter (fun o => o.id ≠ id) })
    else s

/-- R98: the fallback of an order that qualifies for a plate of grade `g`. That the id is looked up anew, so that an order
added later under the id of a removed one is named by it, is the model's choice (log 49). -/
def fallbackFor (g : Grade) (x : Order) (os : List Order) : Option Order :=
  match x.fallback with
  | none => none
  | some f =>
    match findOrder f os with
    | some o => if o.state = .active && 1 ≤ o.available && g.meets o.grade then some o else none
    | none => none

/-- R98: the accounting of a final grade for the order of a lane, and its outcome. An order that is not in the book
settles nothing. -/
def State.settle (id : Nat) (g : Grade) (s : State) : State × OutcomeKind :=
  match findOrder id s.plan.orders with
  | none => (s, .failed)
  | some x =>
    if g.meets x.grade then
      ((s.modPlan (fun p => { p with orders := modOrder id (fun o =>
          { o with reserved := o.reserved - 1, made := o.made + 1 }) p.orders })).doneTest id, .made)
    else
      let back (os : List Order) := modOrder id (fun o =>
        { o with reserved := o.reserved - 1, remaining := o.remaining + 1 }) os
      match fallbackFor g x s.plan.orders with
      | some f =>
        (((s.modPlan (fun p => { p with orders := modOrder f.id (fun o =>
            { o with remaining := o.remaining - 1, made := o.made + 1 }) (back p.orders) })).doneTest id).doneTest f.id,
         .fallback)
      | none => ((s.modPlan (fun p => { p with orders := back p.orders })).doneTest id, .failed)

/-! ## Resolutions (R114) -/

/-- A cut record with a resolution, where it holds the cut. -/
def recordIn (num : Idx) (res : Resolution) : Option CutRef → Option CutRef
  | some c => if c.num = num then some { c with res := res } else some c
  | none => none

def resolved : Option CutRef → Bool
  | some c => c.res ≠ .unresolved
  | none => false

/-- R114: a COMMITTED row becomes CUT when its trailing cut is resolved and its leading cut, if any, is resolved. -/
def Row.cutTest (r : Row) : Row :=
  if r.state = .committed ∧ resolved r.trailing ∧ (r.leading.isNone ∨ resolved r.leading) then { r with state := .cut }
  else r

/-- R114: a resolution is recorded in every row that holds the cut; rows that are now fully resolved become CUT, and the
oldest is handed on (R115). -/
def State.recordResolution (num : Idx) (res : Resolution) (s : State) : State :=
  let rows := s.plan.rows.map (fun r =>
    { r with leading := recordIn num res r.leading, trailing := recordIn num res r.trailing })
  let cut := rows.map Row.cutTest
  let newly := (cut.filter (·.state = .cut)).length - (rows.filter (·.state = .cut)).length
  (s.modPlan (fun p => { p with rows := cut, counters := { p.counters with cut := satAdd Config.max32 p.counters.cut newly } })
    ).handToGrader

end Sys2Proof.Machine
end

