-- ==== Sys2Proof/Machine/CutLink.lean ====
section
/-! DEFINITION. The Cut Link (06): frames, transmit queue, outstanding cut list, answers, readiness. -/

namespace Sys2Proof.Machine

/-! ## Terminals as inputs (R12) -/

def TermFn.isInput : TermFn → Bool
  | .inGeneral | .inCutterReady | .inShiftMark | .inRibbonBreak | .inGantryParked => true
  | .outGeneral | .outStalled | .outInspecting => false

/-- R12: the function input of a terminal: the filtered level is the active level of its polarity. -/
def Terminal.inputActive (t : Terminal) : Bool :=
  match t.filtered with
  | .undetermined => false
  | .high => !t.activeLow
  | .low => t.activeLow

/-- R12: whether a terminal carries a function. -/
def Position.carries (p : Position) (f : TermFn) : Bool := p.terms.toList.any (fun t => t.fn = f)

/-- R12: whether the input of a function is active; it is inactive when no terminal carries the function. -/
def Position.inputOf (p : Position) (f : TermFn) : Bool := p.terms.toList.any (fun t => t.fn = f && t.inputActive)

/-- R137: the IN_CUTTER_READY input, counted active when no terminal carries it. -/
def State.cutterInput (s : State) : Bool := !s.pos.carries .inCutterReady || s.pos.inputOf .inCutterReady

/-- R137: readiness. -/
def State.readiness (s : State) : Bool := s.link.ready && s.cutterInput

/-! ## Frames on the wire (R122, R126) -/

/-- The kind codes of R126. -/
def cutCode : Byte := 0x01
def lanesCode : Byte := 0x02
def acceptCode : Byte := 0x81
def scoredCode : Byte := 0x82
def refuseCode : Byte := 0x83
def readyCode : Byte := 0x84

def TxFrame.code : TxFrame → Byte
  | .cut _ _ _ _ => cutCode
  | .lanes _ => lanesCode

/-- 11.6: the payload of a frame the part sends. -/
def TxFrame.payload : TxFrame → List Byte
  | .cut num line plateEnd repeated =>
    toBytes 2 num.toNat ++ toBytes 5 line
      ++ [BitVec.ofNat 8 (mark plateEnd + 2 * mark (!plateEnd) + 4 * mark repeated)]
  | .lanes edges => edges.flatMap (fun (l, r) => toBytes 2 l ++ toBytes 2 r)

/-- R122: the checksum. -/
def checksum (kind : Byte) (payload : List Byte) : Byte :=
  BitVec.ofNat 8 (255 - (kind.toNat + payload.length + (payload.map (·.toNat)).sum) % 256)

/-- R122: the characters of a frame: delimiter, kind, length, payload, checksum. -/
def frameBytes (kind : Byte) (payload : List Byte) : List Byte :=
  [0xC3, kind, BitVec.ofNat 8 payload.length] ++ payload ++ [checksum kind payload]

/-- R122: the parity bit that makes the number of ones of data and parity even. -/
def parityBit (b : Byte) : Bool := ((List.range 8).filter (fun i => b.getLsbD i)).length % 2 = 1

/-- R122: the levels of one character: start bit low, data least significant bit first, parity, stop bit high. -/
def charBits (b : Byte) : List Bool :=
  false :: ((List.range 8).map (fun i => b.getLsbD i) ++ [parityBit b, true])

/-- R122: the levels of a frame on CUT_TX, one for each bit time: the break, two bit times high, the characters. -/
def frameBits (breakLen : Nat) (kind : Byte) (payload : List Byte) : List Bool :=
  List.replicate breakLen false ++ [true, true] ++ (frameBytes kind payload).flatMap charBits

/-! ## The transmit queue (R127, R128, R130) -/

/-- Changes the cut with a number. -/
def modCut (num : Idx) (f : Cut → Cut) (cs : List Cut) : List Cut := cs.map (fun c => if c.num = num then f c else c)

def findCut (num : Idx) (cs : List Cut) : Option Cut := cs.find? (fun c => c.num = num)

def Cut.isResolved (c : Cut) : Bool := c.status = .scored || c.status = .missed

/-- R130: the CUT frame of a cut. -/
def Cut.frame (c : Cut) : TxFrame := .cut c.num c.line c.plateEnd (0 < c.repeats)

/-- Whether a frame is the CUT frame of a cut. -/
def TxFrame.isCut (num : Idx) : TxFrame → Bool
  | .cut n _ _ _ => n = num
  | .lanes _ => false

def TxFrame.isAnyCut : TxFrame → Bool
  | .cut _ _ _ _ => true
  | .lanes _ => false

/-- R130: UNSENT cuts enter the queue in list order while it has a free place. -/
def Link.queueCuts (l : Link) : Link :=
  l.cuts.foldl (fun l c =>
    if c.status = .unsent ∧ l.txq.length < Config.txMax then
      { l with txq := l.txq ++ [c.frame], cuts := modCut c.num (fun c => { c with status := .queued }) l.cuts }
    else l) l

/-- R127: the queue is filled from its two sources: the pending LANES frame, then UNSENT cuts while readiness is 1. -/
def State.fillQueue (s : State) : State :=
  if !s.link.on then s
  else
    let r := s.readiness
    s.modLink (fun l =>
      let l1 := match l.lanesPending with
        | some e => if l.txq.length < Config.txMax then { l with txq := l.txq ++ [.lanes e], lanesPending := none } else l
        | none => l
      if r then l1.queueCuts else l1)

/-- R127: a CUT frame still in the queue is withdrawn. -/
def Link.withdraw (num : Idx) (l : Link) : Link := { l with txq := l.txq.filter (fun f => !f.isCut num) }

/-- R128: the lane edges of a LANES frame in 0.1 mm. -/
def laneEdges (pp : Nat) (lanes : List Lane) : List (Nat × Nat) :=
  lanes.map (fun l => (min Config.max16 (l.first * pp / 100), min Config.max16 ((l.last + 1) * pp / 100)))

/-- R128: a LANES frame of the ACTIVE campaign is requested. -/
def State.requestLanes (s : State) : State :=
  match s.plan.active with
  | none => s
  | some (_, c) => s.modLink (fun l => { l with lanesPending := some (laneEdges s.ing.pp c.lanes) })

/-! ## Holding and resolving cuts (R129, R137, R138) -/

/-- R137: a cut is held UNSENT because readiness is 0. -/
def State.heldUnsent (num : Idx) (s : State) : State :=
  if s.readiness || s.link.notReady then s
  else (s.modLink (fun l => { l with notReady := true })).raise .cutterNotReady num.toNat
    (mark s.link.ready + 2 * mark s.cutterInput)

/-- R129: resolved cuts leave from the head of the list; an empty list ends the run of cuts missed at once. -/
def Link.popResolved (l : Link) : Link :=
  let cs := l.cuts.dropWhile Cut.isResolved
  { l with cuts := cs, overflow := l.overflow && !cs.isEmpty }

/-- R138: a MISSED resolution is reported. -/
def State.reportMissed (num : Idx) (cause : MissCause) (reason : Nat) (s : State) : State :=
  let s1 := s.recordResolution num .missed
  let s2 := s1.modLink (fun l => { l with counters := { l.counters with missed := upd l.counters.missed cause.code inc32 } })
  (s2.raise .cutMissed num.toNat (cause.code.val + 256 * reason)).tallied (fun t => { t with missed := tallyAdd t.missed 1 })

/-- The signed distance from `b` to `a` as a 32-bit two's complement value, saturating (R134). -/
def signed32 (a b : Nat) : Nat :=
  if b ≤ a then min (2 ^ 31 - 1) (a - b) else (2 ^ 32 - min (2 ^ 31) (b - a)) % 2 ^ 32

/-- The absolute distance of two lines. -/
def absDiff (a b : Nat) : Nat := (a - b) + (b - a)

/-- A cut of the list is resolved MISSED: status, cause, timer, withdrawal, report. It leaves when `popResolved` runs. -/
def State.missCut (num : Idx) (cause : MissCause) (reason : Nat) (s : State) : State :=
  (s.modLink (fun l => ({ l with cuts := modCut num (fun c =>
    { c with status := .missed, timer := none, cause := some cause, reason := reason }) l.cuts } : Link).withdraw num)
    ).reportMissed num cause reason

/-- Misses every cut of a list of numbers, in order. -/
def State.missCuts (nums : List Idx) (cause : MissCause) (s : State) : State :=
  nums.foldl (fun s n => s.missCut n cause 0) s

/-- R134, R138: a cut of the list is resolved SCORED. -/
def State.scoreCut (c : Cut) (actual : Nat) (offset : Bool) (s : State) : State :=
  let s1 := s.modLink (fun l => ({ l with cuts := modCut c.num (fun c =>
    { c with status := .scored, timer := none, actual := actual, offset := offset }) l.cuts } : Link).withdraw c.num)
  let s2 := s1.raiseIf offset .cutOffset c.num.toNat (signed32 actual c.line)
  (s2.recordResolution c.num (.scored actual offset)).tallied (Tallies.cutScored (absDiff actual c.line) offset)

/-- After cuts were resolved: resolved cuts leave, and free places of the queue are filled. -/
def State.settleLink (s : State) : State := (s.modLink Link.popResolved).fillQueue

/-! ## Handing on a cut (R129) -/

/-- R129: a cut handed on at commit. -/
def State.handOn (num : Idx) (line : Nat) (plateEnd : Bool) (gc scoreLate tolerance : Nat) (s : State) : State :=
  let s0 := s.modLink (fun l => { l with next := num + 1 })
  if Config.cutMax ≤ s.link.cuts.length ∨ s.link.overflow then
    (s0.modLink (fun l =>
      { l with overflow := !l.cuts.isEmpty, counters := { l.counters with fullMisses := inc32 l.counters.fullMisses } })
      ).reportMissed num .full 0
  else
    let c : Cut := { num := num, line := line, plateEnd := plateEnd, gc := gc, scoreLate := scoreLate,
                     tolerance := tolerance, status := .unsent, repeats := 0, timer := none, actual := 0, offset := false,
                     cause := none, reason := 0 }
    ((s0.modLink (fun l => { l with cuts := l.cuts ++ [c] })).heldUnsent num).fillQueue

/-- R136: the score deadlines at a line trigger. -/
def State.deadlineTest (s : State) : State :=
  let late := s.link.cuts.filter (fun c => !c.isResolved && c.line + c.gc + c.scoreLate ≤ s.pos.line)
  (s.missCuts (late.map (·.num)) .deadline).settleLink

/-! ## Readiness (R137) -/

/-- R137: readiness fell from 1 to 0: queued CUT frames are withdrawn and their cuts become UNSENT. Where several are
withdrawn together, CUTTER_NOT_READY names the one whose cut stands first in the outstanding list: the spec gives no order
among them, and this one is the model's choice (log 52). -/
def State.readinessFell (s : State) : State :=
  let back := (s.link.cuts.filter (fun c => s.link.txq.any (fun f => f.isCut c.num))).map (·.num)
  let s1 := s.modLink (fun l =>
    { l with txq := l.txq.filter (fun f => !f.isAnyCut),
             cuts := l.cuts.map (fun c =>
               if back.contains c.num ∧ c.status = .queued then { c with status := .unsent } else c) })
  (back.foldl (fun s n => s.heldUnsent n) s1).fillQueue

/-- R137: readiness rose from 0 to 1: the mark clears, UNSENT cuts whose line has reached the cutter are MISSED, a LANES
frame is requested. -/
def State.readinessRose (s : State) : State :=
  let s1 := s.modLink (fun l => { l with notReady := false })
  let gone := s1.link.cuts.filter (fun c => c.status = .unsent && c.line + c.gc ≤ s.pos.line)
  ((s1.missCuts (gone.map (·.num)) .notReady).requestLanes).settleLink

/-- R137: readiness is judged anew after a change; `old` is what it was before. -/
def State.judgeReadiness (old : Bool) (s : State) : State :=
  match old, s.readiness with
  | true, false => s.readinessFell
  | false, true => s.readinessRose
  | _, _ => s

/-! ## Answers (R131 to R135) -/

/-- R131: a late answer of a frame kind. -/
def State.lateAnswer (kind : Byte) (c : Idx) (s : State) : State :=
  (s.modLink (fun l => { l with counters := { l.counters with late := inc32 l.counters.late } })).raise .linkProtocol
    (1 + 256 * kind.toNat) c.toNat

/-- R131: an answer that names no cut of the list: late when the number lies 1 to 256 behind the next number, else
unknown. -/
def State.strangeAnswer (kind : Byte) (c : Idx) (s : State) : State :=
  let d := Idx.ahead s.link.next c
  if 1 ≤ d ∧ d ≤ Config.lateWindow then s.lateAnswer kind c
  else (s.modLink (fun l => { l with counters := { l.counters with unknown := inc32 l.counters.unknown } })).raise
    .linkProtocol (2 + 256 * kind.toNat) c.toNat

/-- R132, R134, R135: a duplicate answer. -/
def State.duplicateAnswer (s : State) : State :=
  s.modLink (fun l => { l with counters := { l.counters with duplicate := inc32 l.counters.duplicate } })

/-- R132: an ACCEPT for cut number `c`. -/
def State.answerAccept (c : Idx) (s : State) : State :=
  match findCut c s.link.cuts with
  | none => s.strangeAnswer acceptCode c
  | some x =>
    match x.status with
    | .unsent | .queued | .sent =>
      (s.modLink (fun l => ({ l with cuts := modCut c (fun x => { x with status := .accepted, timer := none }) l.cuts } :
        Link).withdraw c)).fillQueue
    | .accepted | .scored => s.duplicateAnswer
    | .missed => s.lateAnswer acceptCode c

/-- R134: a SCORED for cut number `c` at an actual line. -/
def State.answerScored (c : Idx) (actual : Nat) (s : State) : State :=
  match findCut c s.link.cuts with
  | none => s.strangeAnswer scoredCode c
  | some x =>
    match x.status with
    | .unsent | .queued | .sent | .accepted =>
      let older := (s.link.cuts.takeWhile (fun y => y.num ≠ c)).filter (fun y => !y.isResolved)
      let s1 := s.missCuts (older.map (·.num)) .skipped
      let d := absDiff actual x.line
      (if 4 * x.tolerance < d then s1.missCut c .implausible 0
       else s1.scoreCut x actual (x.tolerance < d)).settleLink
    | .scored => s.duplicateAnswer
    | .missed => s.lateAnswer scoredCode c

/-- R135: a REFUSE for cut number `c` with a reason. -/
def State.answerRefuse (c : Idx) (reason : Nat) (s : State) : State :=
  match findCut c s.link.cuts with
  | none => s.strangeAnswer refuseCode c
  | some x =>
    match x.status with
    | .unsent | .queued | .sent | .accepted =>
      ((s.modLink (fun l => { l with counters := { l.counters with refused := inc32 l.counters.refused } })).missCut c
        .refused reason).settleLink
    | .scored => s.lateAnswer refuseCode c
    | .missed => s.duplicateAnswer

/-- R137: a READY frame. -/
def State.answerReady (ready : Bool) (s : State) : State :=
  (s.modLink (fun l => { l with ready := ready })).judgeReadiness s.readiness

/-- R133: the ack timer of a SENT cut has expired. -/
def State.ackExpired (c : Cut) (s : State) : State :=
  if c.repeats < s.link.settings.repeats then
    ((s.modLink (fun l =>
      { l with cuts := modCut c.num (fun x => { x with status := .unsent, timer := none, repeats := x.repeats + 1 }) l.cuts,
               counters := { l.counters with repeats := inc32 l.counters.repeats } })).heldUnsent c.num).fillQueue
  else (s.missCut c.num .noAck 0).settleLink

/-- R130: every running ack timer counts an advance of the time of day. -/
def State.countAckTimers (s : State) : State :=
  s.modLink (fun l => { l with cuts := l.cuts.map (fun c =>
    { c with timer := c.timer.map (fun t => { t with count := min t.timeout (t.count + 1) }) }) })

/-- R130: a SENT cut whose timer has reached its timeout. -/
def Cut.expired (c : Cut) : Bool :=
  c.status = .sent && match c.timer with
    | some t => t.timeout ≤ t.count
    | none => false

/-! ## Receiving (R123 to R126) -/

/-- R124: a frame in progress is discarded; the framer goes on in `next`. -/
def State.discardFrame (k : LinkErrorKind) (next : FramerState) (s : State) : State :=
  let n := inc32 s.link.counters.errors[k.code]
  ((s.modLink (fun l =>
    { l with framer := { Framer.hunt with state := next },
             counters := { l.counters with errors := l.counters.errors.set k.code n } })).raise .linkError k.code.val n).tallied
    (fun t => { t with linkErrors := tallyAt t.linkErrors k.code 1 })

/-- R123: the outcome of a character: the byte of a good one, or its error. -/
def charOutcome (c : RxChar) : Byte ⊕ LinkErrorKind :=
  if !c.stop then .inr .framing
  else if c.parity = parityBit c.data then .inl c.data
  else .inr .parity

/-- R124: the framer moves on with new contents. -/
def State.setFramer (f : Framer) (s : State) : State := s.modLink (fun l => { l with framer := f })

def State.stray (n : Nat) (s : State) : State :=
  s.modLink (fun l => { l with counters := { l.counters with stray := satAdd Config.max32 l.counters.stray n } })

/-- R124, R125: the frame is complete: its action begins and the framer is in HUNT. -/
def State.completeFrame (s : State) : State :=
  s.modLink (fun l =>
    { l with framer := .hunt, acting := some { kind := l.framer.kind, payload := l.framer.bytes, done := false } })

/-- R124: a good character taken in a framer state. -/
def State.takeGood (b : Byte) (s : State) : State :=
  let f := s.link.framer
  match f.state with
  | .hunt => s.stray 1
  | .delimiter => if b = 0xC3 then s.setFramer { f with state := .kind } else s.discardFrame .delimiter .hunt
  | .kind => s.setFramer { f with state := .length, kind := b }
  | .length =>
    if 24 < b.toNat then s.discardFrame .length .hunt
    else s.setFramer { f with state := if b.toNat = 0 then .check else .payload, length := b.toNat, bytes := [] }
  | .payload =>
    s.setFramer { f with state := if f.length ≤ f.bytes.length + 1 then .check else .payload, bytes := f.bytes ++ [b] }
  | .check => if b = checksum f.kind f.bytes then s.completeFrame else s.discardFrame .checksum .hunt

/-- R124: the framer takes a character. -/
def State.takeChar (c : RxChar) (s : State) : State :=
  match charOutcome c with
  | .inl b => s.takeGood b
  | .inr k => if s.link.framer.state = .hunt then s.stray 1 else s.discardFrame k .hunt

/-- R124: the framer takes a break. -/
def State.takeBreak (s : State) : State :=
  match s.link.framer.state with
  | .hunt | .delimiter => s.setFramer { Framer.hunt with state := .delimiter }
  | .kind | .length | .payload | .check => s.discardFrame .truncated .delimiter

/-- R125: while a frame is acted on, the receiver holds one character and one break and loses further ones. -/
def State.holdInput (i : RxInput) (s : State) : State :=
  s.modLink (fun l =>
    match i with
    | .char c => if l.heldChar.isSome then { l with lost := l.lost + 1 } else { l with heldChar := some c }
    | .brk => if l.heldBreak then l else { l with heldBreak := true, breakFirst := l.heldChar.isNone })

/-- R123 to R125: a character or break completes on CUT_RX while the link is ON. -/
def State.receive (i : RxInput) (s : State) : State :=
  if !s.link.on then s
  else if s.link.acting.isSome then s.holdInput i
  else match i with
    | .char c => s.takeChar c
    | .brk => s.takeBreak

/-- R125: the framer takes the held character after an action; if characters were lost, a frame in progress is discarded
with OVERRUN, and in HUNT each lost one is stray as well. -/
def State.takeHeldChar (c : RxChar) (lost : Nat) (s : State) : State :=
  if lost = 0 then s.takeChar c
  else if s.link.framer.state = .hunt then (s.takeChar c).stray lost
  else s.discardFrame .overrun .hunt

/-- R125: the action ends and the framer takes what the receiver holds, in the order of completion. -/
def State.endAction (s : State) : State :=
  let l := s.link
  let s1 := s.modLink (fun l => { l with acting := none, heldChar := none, heldBreak := false, breakFirst := false, lost := 0 })
  match l.heldChar, l.heldBreak with
  | none, false => s1
  | none, true => s1.takeBreak
  | some c, false => s1.takeHeldChar c l.lost
  | some c, true =>
    if l.breakFirst then s1.takeBreak.takeHeldChar c l.lost else (s1.takeHeldChar c l.lost).takeBreak

/-- R126: the length a kind the cutter sends has; none for any other kind. -/
def cutterLength (kind : Byte) : Option Nat :=
  if kind = acceptCode then some 2
  else if kind = scoredCode then some 7
  else if kind = refuseCode then some 3
  else if kind = readyCode then some 1
  else none

/-- R126: a well-formed frame. -/
def wellFormedFrame (kind : Byte) (payload : List Byte) : Bool :=
  cutterLength kind = some payload.length && (kind ≠ readyCode || byteAt payload 0 ≤ 1)

/-- R126: the frame that is being acted on, if it has not been acted on and is of a kind, well formed. -/
def State.actingFrame (kind : Byte) (s : State) : Option (List Byte) :=
  match s.link.acting with
  | some a => if a.done = false ∧ a.kind = kind ∧ wellFormedFrame kind a.payload then some a.payload else none
  | none => none

/-- The action on the complete frame has made its changes. -/
def State.actionDone (s : State) : State :=
  s.modLink (fun l => { l with acting := l.acting.map (fun a => { a with done := true }) })

/-- R126: a well-formed frame of a kind is counted. -/
def State.countReceived (i : Fin 4) (s : State) : State :=
  s.modLink (fun l => { l with counters := { l.counters with received := upd l.counters.received i inc32 } })

end Sys2Proof.Machine
end

