-- ==== Sys2Proof/Machine/Planning.lean ====
section
/-! DEFINITION. Planning (05, sections 5.4 to 5.6, 5.8): laying rows, replanning, sealing, shifting, reassigning,
committing, breaks. -/

namespace Sys2Proof.Machine

/-! ## Laying rows (R100 to R106) -/

/-- R101: the leading cut a row takes from the row before it. -/
def Planner.leadingCut (p : Planner) : Option CutRef := p.rows.getLast?.bind (·.trailing)

/-- A lane plate as it is laid (R106). -/
def LanePlate.laid (order : Option Nat) : LanePlate :=
  { order := order, provisional := none, reassigned := false, unsealed := false }

/-- R100 to R102: lays a row at the tail. -/
def State.layRow (kind : RowKind) (slot : Fin 2) (start stop : Nat) (lanes : List LanePlate) (s : State) : State :=
  s.modPlan (fun p =>
    let row : Row :=
      { num := p.nextRow, kind := kind, slot := slot, start := start, stop := stop, state := .planned, unsealed := false,
        shifts := 0, lanes := lanes, leading := p.leadingCut, trailing := none,
        extremes := if start ≤ s.ing.assembled then p.carried else none }
    { p with rows := p.rows ++ [row], nextRow := nextNumber p.nextRow,
             carried := if s.ing.assembled < stop then none else p.carried,
             counters := { p.counters with laid := inc32 p.counters.laid } })

/-- R104: the pending opening row is laid, or, for a CHANGE row that is not needed, dropped. -/
def State.layOpening (o : Opening) (i : Fin 2) (c : Campaign) (s : State) : State :=
  let line := s.pos.line
  let s1 := s.modPlan (fun p => { p with opening := none })
  match s.plan.extent with
  | some x =>
    match o with
    | .change =>
      let s0 := max x (line + c.startGap)
      if x < s0 then s1.layRow .change i x (max s0 (x + c.minCut)) [] else s1
    | .brk => s1.layRow .brk i x (max (line + c.startGap) (x + c.minCut)) []
  | none =>
    let a := s.ing.assembled
    (match o with
     | .change => s1.layRow .head i a (max (line + c.startGap) (a + 1)) []
     | .brk => s1.layRow .brk i a (max (line + c.startGap) (a + c.minCut)) []).giveRetire

/-- R105: the GAP row when the extent is not above the ribbon line number. -/
def State.layGap (i : Fin 2) (c : Campaign) (x : Nat) (s : State) : State :=
  let g := max (s.pos.line + c.startGap) (x + c.minCut)
  let s1 := (s.layRow .gap i x g []).raise .planStarved x (min Config.max32 (g - x))
  s1.modPlan (fun p => { p with counters := { p.counters with starved := inc32 p.counters.starved } })

/-- R106, step 2: the lanes of a row of a length, each lane seeing the planned counts the lanes before it left. -/
def fillLanes (length : Nat) : List Nat → List Order → List LanePlate × List Order
  | [], os => ([], os)
  | i :: rest, os =>
    match bestOrder (fun o => o.state = .active && 1 ≤ o.available && o.length = length && o.allows i) os with
    | some o =>
      let (ls, os') := fillLanes length rest (modOrder o.id (fun o => { o with planned := o.planned + 1 }) os)
      (LanePlate.laid (some o.id) :: ls, os')
    | none =>
      let (ls, os') := fillLanes length rest os
      (LanePlate.laid none :: ls, os')

/-- R106: a plate row laid from the extent. -/
def State.layPlateRow (i : Fin 2) (c : Campaign) (x : Nat) (s : State) : State :=
  match bestOrder (fun o => o.eligible c) s.plan.orders with
  | some o =>
    let (lanes, os) := fillLanes o.length (List.range c.lanes.length) s.plan.orders
    (s.modPlan (fun p => { p with orders := os })).layRow .plate i x (x + o.length) lanes
  | none => s.layRow .plate i x (x + c.spare) (c.lanes.map (fun _ => LanePlate.laid none))

/-- R105, R106: a row from the extent; GAP rows first while the extent is not above the ribbon line number and the table
has room. Two GAP rows always suffice, since each is at least a minimum cut spacing long (R90). -/
def State.layFromExtent (i : Fin 2) (c : Campaign) : Nat → State → State
  | 0, s => s
  | fuel + 1, s =>
    match s.plan.extent with
    | none => s
    | some x =>
      if s.plan.rows.length < Config.rowMax then
        if x ≤ s.pos.line then State.layFromExtent i c fuel (s.layGap i c x) else s.layPlateRow i c x
      else s

/-- R103: planning: rows are laid one at a time while the conditions hold. -/
def State.layLoop : Nat → State → State
  | 0, s => s
  | fuel + 1, s =>
    match s.plan.active with
    | none => s
    | some (i, c) =>
      if s.pos.broken ∨ Config.rowMax ≤ s.plan.rows.length then s
      else match s.plan.opening, s.plan.extent with
        | some o, _ => State.layLoop fuel (s.layOpening o i c)
        | none, some x => if x < s.pos.line + c.planAhead then State.layLoop fuel (State.layFromExtent i c 3 s) else s
        | none, none => s

/-- R103: planning is tested. A row table of 64 rows and one opening row bound the rows one test can lay. -/
def State.runPlanning (s : State) : State := State.layLoop (Config.rowMax + 2) s

/-! ## Replanning (R107) -/

/-- R107: after an order command, the PLANNED rows that start above the ribbon line number are discarded and planning
lays rows afresh. -/
def State.replan (s : State) : State :=
  if s.plan.active.isSome then
    ((s.modPlan (fun p => p.discard (fun r => r.state = .planned && s.pos.line < r.start))).runPlanning).giveRetire
  else s

/-! ## Committing (R112, R113) -/

/-- R112: the counts of the order of a committing lane. -/
def commitLane (os : List Order) (l : LanePlate) : List Order :=
  match l.order with
  | some id => modOrder id (fun o =>
      { o with planned := o.planned - 1, remaining := o.remaining - 1, reserved := o.reserved + 1 }) os
  | none => os

/-- R113: the row behind the committed one takes its trailing cut as leading cut. -/
def giveLeading (num : Nat) (cut : CutRef) : List Row → List Row
  | r :: q :: rest =>
    if r.num = num then r :: { q with leading := some cut } :: rest else r :: giveLeading num cut (q :: rest)
  | rows => rows

/-- R112, R113: a row commits and its trailing cut is handed on. -/
def State.commitRow (r : Row) (c : Campaign) (s : State) : State :=
  let plate : Bool := r.kind = .plate
  let late : Bool := r.state = .planned
  let cut : CutRef := { num := s.plan.nextCut, tolerance := c.tolerance, res := .unresolved }
  let done : Row :=
    { r with state := .committed, unsealed := late,
             lanes := if late then r.lanes.map (fun l => { l with unsealed := true }) else r.lanes,
             trailing := some cut }
  let s1 := s.modPlan (fun p =>
    { p with rows := giveLeading r.num cut (p.rows.map (fun x => if x.num = r.num then done else x)),
             orders := r.lanes.foldl commitLane p.orders, nextCut := p.nextCut + 1,
             counters := { p.counters with
               unsealed := if late && plate then inc32 p.counters.unsealed else p.counters.unsealed } })
  let s2 := s1.raiseIf (late && plate) .rowUnsealed r.num r.stop
  let s3 := s2.tallied (fun t => { t with committed := tallyAdd t.committed 1 })
  s3.handOn cut.num r.stop plate c.gc c.scoreLate c.tolerance

/-- R112: rows commit in turn while the oldest uncommitted one has reached its commit line. -/
def State.commitLoop : Nat → State → State
  | 0, s => s
  | fuel + 1, s =>
    match s.plan.rows.find? Row.uncommitted with
    | none => s
    | some r =>
      match s.campaignOf r.slot with
      | none => s
      | some c =>
        if r.stop + c.commitOffset ≤ s.pos.line then State.commitLoop fuel (s.commitRow r c) else s

def State.commitTest (s : State) : State := State.commitLoop Config.rowMax s

/-! ## Sealing (R108 to R111) -/

/-- Replaces the row with the same number. -/
def putRow (r : Row) (rows : List Row) : List Row := rows.map (fun x => if x.num = r.num then r else x)

def State.setRow (r : Row) (s : State) : State := s.modPlan (fun p => { p with rows := putRow r p.rows })

/-- R110: the highest fatal last line of the lanes that hold an order. -/
def fatalLine (lanes : List LanePlate) (res : List PlateResult) : Option Nat :=
  (lanes.zip res).foldl (fun acc (l, r) =>
    match l.order, r.fatalLast with
    | some _, some n => some (match acc with
      | none => n
      | some m => max m n)
    | _, _ => acc) none

/-- R110: the new start when a row is to be shifted, if it is. -/
def State.shiftStart (s : State) (r : Row) (c : Campaign) (res : List PlateResult) : Option Nat :=
  match fatalLine r.lanes res with
  | none => none
  | some lf =>
    let start := max (lf + 1 + c.clearance) (r.start + c.minCut)
    if c.avoidShift && lf < r.start + c.strip && r.shifts < 3 && s.pos.line < start + c.commitOffset
        && (s.plan.rows.takeWhile (fun x => x.num ≠ r.num)).length + 2 ≤ Config.rowMax
    then some start else none

/-- Puts a row before the row with the same number as `r`, and `r` in that row's place. -/
def insertBefore (x r : Row) (rows : List Row) : List Row :=
  rows.flatMap (fun y => if y.num = r.num then [x, r] else [y])

/-- R110: the shift of a row to a new start. The row keeps its lanes, the provisional grades they store (R109) included, also
where it then commits unsealed: R151 has the lanes of such a row without grades but speaks of a row never graded, so this
reading is the model's (log 53). -/
def State.shiftRow (r : Row) (start : Nat) (s : State) : State :=
  let s1 := s.modPlan (fun p => p.discard (fun x => x.state = .planned && r.start < x.start))
  let cullet : Row :=
    { num := s1.plan.nextRow, kind := .shift, slot := r.slot, start := r.start, stop := start, state := .planned,
      unsealed := false, shifts := 0, lanes := [], leading := r.leading, trailing := none, extremes := r.extremes }
  let moved : Row :=
    { r with start := start, stop := start + (r.stop - r.start), state := .planned, shifts := r.shifts + 1, leading := none }
  let s2 := s1.modPlan (fun p =>
    { p with rows := insertBefore cullet moved p.rows, nextRow := nextNumber p.nextRow,
             counters := { p.counters with laid := inc32 p.counters.laid, shifted := inc32 p.counters.shifted } })
  ((s2.raise .rowShifted r.num start).runPlanning).commitTest

/-- R111: the order a failing lane moves to. -/
def reassignTo (length lane : Nat) (g : Grade) (os : List Order) : Option Order :=
  bestOrder (fun o => o.state = .active && o.length = length && o.allows lane && 1 ≤ o.available && g.meets o.grade) os

/-- R111, step 1: the lanes in ascending number; the count is of the lanes reassigned. -/
def reassignLanes (length : Nat) : List (LanePlate × Nat) → List Order → List LanePlate × List Order × Nat
  | [], os => ([], os, 0)
  | (l, i) :: rest, os =>
    let keep :=
      let (ls, os', n) := reassignLanes length rest os
      (l :: ls, os', n)
    match l.order, l.provisional with
    | some id, some g =>
      match findOrder id os with
      | none => keep
      | some o =>
        if g.meets o.grade then keep
        else match reassignTo length i g os with
          | none => keep
          | some new =>
            let os1 := modOrder new.id (fun o => { o with planned := o.planned + 1 })
              (modOrder id (fun o => { o with planned := o.planned - 1 }) os)
            let (ls, os', n) := reassignLanes length rest os1
            ({ l with order := some new.id, reassigned := true } :: ls, os', n + 1)
    | _, _ => keep

/-- R111: reassignment, when avoid_reassign is on, and acceptance. -/
def State.acceptRow (r : Row) (c : Campaign) (s : State) : State :=
  if c.avoidReassign then
    let (lanes, os, n) := reassignLanes (r.stop - r.start) r.lanes.zipIdx s.plan.orders
    (s.modPlan (fun p =>
      { p with orders := os, counters := { p.counters with reassigned := satAdd Config.max32 p.counters.reassigned n } })
      ).setRow { r with lanes := lanes, state := .sealed }
  else s.setRow { r with state := .sealed }

/-- R109 to R111: a row seals. The Bool is false when a shift returned it to PLANNED and the testing stops. -/
def State.sealRow (r : Row) (c : Campaign) (s : State) : State × Bool :=
  if r.kind ≠ .plate then (s.setRow { r with state := .sealed }, true)
  else
    let res := c.lanes.map (s.gradeProvisional c r)
    let graded : Row := { r with lanes := (r.lanes.zip res).map (fun (l, g) => { l with provisional := some g.grade }) }
    let s1 := (s.modGrader (fun g =>
      { g with counters := { g.counters with provisional := inc32 g.counters.provisional } })).setRow graded
    match s1.shiftStart graded c res with
    | some start => (s1.shiftRow graded start, false)
    | none => (s1.acceptRow graded c, true)

/-- R108: whether the oldest PLANNED row seals at the report that line `n` is done with oldest open first line `f`. -/
def sealsAt (lg n : Nat) (f : Option Nat) (r : Row) : Bool :=
  r.stop + lg + 1 ≤ n && (match f with
    | none => true
    | some x => r.stop ≤ x)

/-- R108: the rows that seal at a report, in order. -/
def State.sealLoop (n : Nat) (f : Option Nat) : Nat → State → State
  | 0, s => s
  | fuel + 1, s =>
    match s.plan.rows.find? (fun r => r.state = .planned) with
    | none => s
    | some r =>
      match s.campaignOf r.slot with
      | none => s
      | some c =>
        if sealsAt s.ing.detect.lg n f r then
          match s.sealRow r c with
          | (s1, true) => State.sealLoop n f fuel s1
          | (s1, false) => s1
        else s

/-- R70, R108: the Blob Tracker reports line `n` done. -/
def State.lineDone (n : Nat) (s : State) : State := State.sealLoop n s.blobs.oldestOpen Config.rowMax s

/-! ## Line triggers and breaks (R103, R112, R117, R118) -/

/-- R3: the Cut Planner checks commits, planning extent and starvation against the new ribbon line number. -/
def State.planTrigger (s : State) : State := s.commitTest.runPlanning

/-- R117: the ribbon breaks. -/
def State.planBreak (s : State) : State := (s.modPlan (fun p => p.discard Row.uncommitted)).giveRetire

/-- R118: the break clears. -/
def State.planClear (s : State) : State :=
  if s.plan.active.isSome then (s.modPlan (fun p => { p with opening := some .brk })).runPlanning else s

end Sys2Proof.Machine
end

