-- ==== Sys2Proof/Machine/Classify.lean ====
section
/-! DEFINITION. Pixel classification of one camera line (03, sections 3.5 to 3.9), as functions of the line's bytes, the
detection parameters, the edges, the columns and the camera's learning state. -/

namespace Sys2Proof.Machine

/-- The last used global column of a camera (R38). -/
def CamSettings.lastCol (c : CamSettings) : Nat := c.offset + (c.last - c.first)

/-- Whether a global range lies within the used range of a camera. -/
def CamSettings.holds (c : CamSettings) (r : Nat × Nat) : Bool := c.enable && c.offset ≤ r.1 && r.2 ≤ c.lastCol

/-- The used pixels of a camera line with their global columns (R38). -/
def CamSettings.pixels (c : CamSettings) (bytes : List Byte) : List (Nat × Nat) :=
  (((bytes.drop c.first).take (c.last + 1 - c.first)).zipIdx).map (fun (b, i) => (c.offset + i, b.toNat))

/-- 8.8 values are clamped to 0–65,280 (R53). -/
def clamp88 (x : Int) : Nat := (max 0 (min 65280 x)).toNat

/-- R52: the threshold of a column. -/
def Detect.threshold (d : Detect) (v : BN) : Nat := max (d.tmin * 256) (d.k * v.n / 16)

inductive PixelClass where | dark | bright | clear
deriving DecidableEq, Repr

/-- R52: the class of pixel `p` against a column. -/
def Detect.pixel (d : Detect) (v : BN) (p : Nat) : PixelClass :=
  let t := d.threshold v
  if 65280 < t then .clear
  else if 256 * p + t < v.b then .dark
  else if v.b + t < 256 * p then .bright
  else .clear

/-- R52: the deviation of a pixel. -/
def deviation (v : BN) (p : Nat) : Nat := absDiff (256 * p) v.b / 256

/-- R53: the update of a column by a CLEAR pixel; both values from the old ones, trunc rounding toward zero. -/
def Detect.update (d : Detect) (v : BN) (p : Nat) : BN :=
  let diff : Int := (256 * p : Int) - v.b
  { b := clamp88 (v.b + diff.tdiv (2 ^ d.alpha)), n := clamp88 (v.n + ((diff.natAbs : Int) - v.n).tdiv (2 ^ d.beta)) }

/-- Sets columns one after another. -/
def Cols.setAll (cs : Cols) (new : List (Nat × BN)) : Cols := new.foldl (fun cs (c, v) => Cols.set c v cs) cs

/-- R57, R58: the runs found so far, newest first. -/
def addFlagged (gc : Nat) (rs : List Run) (col dev : Nat) (dark : Bool) : List Run :=
  let one : Run :=
    { c0 := col, c1 := col, dark := mark dark, bright := mark (!dark), peak := dev, overflow := false, seam := false }
  match rs with
  | [] => [one]
  | r :: rest =>
    let grown : Run := { r with c1 := col, dark := r.dark + one.dark, bright := r.bright + one.bright, peak := max r.peak dev }
    if r.overflow then grown :: rest
    else if col ≤ r.c1 + gc + 1 then grown :: rest
    else if Config.runMax ≤ rs.length then { grown with overflow := true } :: rest
    else one :: r :: rest

/-- R57, R58: the runs of the classified pixels, in ascending column. -/
def Detect.runs (d : Detect) (cols : Cols) (region : List (Nat × Nat)) : List Run :=
  (region.foldl (fun rs (col, p) =>
    let v := cols.get col
    match d.pixel v p with
    | .dark => addFlagged d.gc rs col (deviation v p) true
    | .bright => addFlagged d.gc rs col (deviation v p) false
    | .clear => rs) []).reverse

/-- R51: the pixels of the classified region. -/
def Detect.region (d : Detect) (left right : Nat) (px : List (Nat × Nat)) : List (Nat × Nat) :=
  px.filter (fun (col, _) => left + d.edgeGuard ≤ col && col + d.edgeGuard ≤ right)

/-- R50: the pixels below the edge level in a search range that lies within the camera's used range. -/
def Detect.below (d : Detect) (c : CamSettings) (range : Option (Nat × Nat)) (px : List (Nat × Nat)) : List Nat :=
  match range with
  | none => []
  | some r =>
    if c.holds r then (px.filter (fun (col, p) => r.1 ≤ col && col ≤ r.2 && p < d.edgeLevel)).map (·.1) else []

/-- What the classification of a camera line yields: its result, and its whole effect on the columns and on the camera's
learning (R53, R55). -/
structure Classification where
  res : LineResult
  cols : Cols
  learn : LearnState
  remaining : Nat
deriving DecidableEq, Repr

/-- R50 to R58: the classification of line `line`, the line of capture `q` of a camera. -/
def classifyLine (d : Detect) (left right : Nat) (cols : Cols) (cam : Camera) (line q : Nat) (bytes : List Byte) :
    Classification :=
  let px := cam.cfg.pixels bytes
  let leftCand := (d.below cam.cfg d.left px).head?
  let rightCand := (d.below cam.cfg d.right px).getLast?
  let plain : LineResult :=
    { line := line, runs := [], flagged := 0, learning := true, flood := false, overflow := false, leftCand := leftCand,
      rightCand := rightCand }
  let ordinary : Classification :=
    let region := d.region left right px
    let flagged := (region.filter (fun (col, p) => d.pixel (cols.get col) p ≠ .clear)).length
    let flood : Bool := d.floodFraction * region.length < 256 * flagged
    let updated := region.filter (fun (col, p) => flood || d.pixel (cols.get col) p = .clear)
    let runs := if flood then [] else d.runs cols region
    { res := { line := line, runs := runs, flagged := flagged, learning := false, flood := flood,
               overflow := runs.any (·.overflow), leftCand := leftCand, rightCand := rightCand },
      cols := cols.setAll (updated.map (fun (col, p) => (col, d.update (cols.get col) p))),
      learn := cam.learn, remaining := cam.remaining }
  if q < cam.startCapture then ordinary
  else match cam.learn with
    | .none => ordinary
    | .start =>
      { res := plain, cols := cols.setAll (px.map (fun (col, p) => (col, { b := 256 * p, n := d.initNoise }))),
        learn := .learning, remaining := d.learnLines - 1 }
    | .learning =>
      { res := plain, cols := cols.setAll (px.map (fun (col, p) => (col, d.update (cols.get col) p))),
        learn := if cam.remaining ≤ 1 then .none else .learning, remaining := cam.remaining - 1 }

/-- R59: the runs of two neighbours joined at their seam; `acc` ends at the lower camera's runs and `lower` is that
camera's last used column, absent when it did not deliver the line. -/
def joinSeam (gc : Nat) (lower : Option Nat) (first : Nat) (acc runs : List Run) : List Run :=
  match lower, acc.getLast?, runs with
  | some last, some a, b :: rest =>
    if a.c1 = last ∧ b.c0 = first ∧ first - last ≤ gc + 1 then
      acc.dropLast ++ { c0 := a.c0, c1 := b.c1, dark := a.dark + b.dark, bright := a.bright + b.bright,
                        peak := max a.peak b.peak, overflow := a.overflow || b.overflow, seam := true } :: rest
    else acc ++ runs
  | _, _, _ => acc ++ runs

/-- R59: the runs of a line: the delivered results of the enabled cameras in ascending camera number, joined at seams. -/
def lineRuns (gc : Nat) (cams : Vector Camera 8) (status : Vector CamStatus 8) : List Run :=
  ((List.finRange 8).foldl (fun (acc : List Run × Option Nat) i =>
    let cfg := cams[i].cfg
    if !cfg.enable then acc
    else match status[i] with
      | .delivered r => (joinSeam gc acc.2 cfg.offset acc.1 r.runs, some cfg.lastCol)
      | .off | .pending | .lost => (acc.1, none)) ([], none)).1

end Sys2Proof.Machine
end

