-- ==== Sys2Proof/Machine/Ingest.lean ====
section
/-! DEFINITION. The Ingest Unit (03): pulse list, lost lines, assembly, hand-over, taking capture writes. -/

namespace Sys2Proof.Machine

/-- The enabled cameras in ascending number. -/
def Ingest.enabled (g : Ingest) : List (Fin 8) := (List.finRange 8).filter (fun i => g.cams[i].cfg.enable)

/-! ## Edges (R50) -/

/-- R50: the starting values of the edges: the lowest and the highest used global column. -/
def Ingest.startLeft (g : Ingest) : Nat :=
  ((g.enabled.map (fun i => g.cams[i].cfg.offset)).min?).getD 0

def Ingest.startRight (g : Ingest) : Nat := ((g.enabled.map (fun i => g.cams[i].cfg.lastCol)).max?).getD 0

def Edge.atStart (v : Nat) : Edge := { value := v, lostCount := 0, lostCond := false }

/-- R60: adopts a pending DETECT; a side whose search range changes returns to its starting value. R50 speaks of both sides
and R60 of that side: the other side keeping its value is the model's choice (log 44). -/
def Ingest.adoptDetect (g : Ingest) : Ingest :=
  match g.pendingDetect with
  | none => g
  | some d =>
    { g with detect := d, pendingDetect := none,
             left := if d.left = g.detect.left then g.left else Edge.atStart g.startLeft,
             right := if d.right = g.detect.right then g.right else Edge.atStart g.startRight }

/-- R50: one side's edge after a pulsed line, from the camera that holds the side's search range. -/
def Edge.after (e : Edge) (cand : LineResult → Option Nat) : CamStatus → Edge
  | .delivered r =>
    match cand r with
    | some c => { value := c, lostCount := 0, lostCond := false }
    | none =>
      let n := min Config.edgeLostAt (e.lostCount + 1)
      { e with lostCount := n, lostCond := e.lostCond || Config.edgeLostAt ≤ n }
  | .off | .pending | .lost => e

/-- R50: the camera that holds a search range; none when edge finding is off for the side. -/
def Ingest.sideCamera (g : Ingest) (range : Option (Nat × Nat)) : Option (Fin 8) :=
  match range with
  | none => none
  | some r => g.enabled.find? (fun i => g.cams[i].cfg.holds r)

/-- R50: updates the edges at the assembly of pulsed line `m`; EDGE_LOST when a side's condition is newly set.
That the left side comes first where both are set at one line is the model's choice (log 58). -/
def State.updateEdges (m : Nat) (status : Vector CamStatus 8) (s : State) : State :=
  let g := s.ing
  let left := match g.sideCamera g.detect.left with
    | some i => g.left.after (·.leftCand) status[i]
    | none => g.left
  let right := match g.sideCamera g.detect.right with
    | some i => g.right.after (·.rightCand) status[i]
    | none => g.right
  ((s.modIng (fun g => { g with left := left, right := right })).raiseIf (left.lostCond && !g.left.lostCond) .edgeLost m 0
    ).raiseIf (right.lostCond && !g.right.lostCond) .edgeLost m 1

/-! ## Hand-over and assembly (R48, R49) -/

/-- The results delivered for a line. -/
def Pulse.results (p : Pulse) : List LineResult :=
  p.status.toList.filterMap (fun st => match st with
    | .delivered r => some r
    | .off | .pending | .lost => none)

/-- R49, step 2: the span a pulsed or OVERRUN line needs, if any. -/
def Pulse.spanKind (p : Pulse) : Option SpanKind :=
  if p.capture.isNone || p.status.toList.any (· = .lost) then some .lost
  else if p.results.any (·.flood) then some .flood
  else if p.results.any (·.learning) then some .learn
  else none

/-- R49, R70: the line goes to the Blob Tracker and its report goes to the Cut Planner. -/
def State.trackAndReport (m : Nat) (runs : List Run) (s : State) : State := (s.trackLine m runs).lineDone m

/-- R49: the hand-over of assembled line `m` with its pulse-list entry; a PARKED or BREAK line has none. A pending DETECT
is adopted at any line, pulsed or not (R60). -/
def State.handOver (m : Nat) (entry : Option Pulse) (s : State) : State :=
  let s1 := s.modIng Ingest.adoptDetect
  match entry with
  | none => s1.trackAndReport m []
  | some p =>
    let s2 := match p.spanKind with
      | some k => s1.requestSpan k m (m + 1)
      | none => s1.tallied (fun t => { t with inspected := tallyAdd t.inspected 1 })
    match p.capture with
    | none => s2.trackAndReport m []
    | some _ =>
      let s3 := s2.updateEdges m p.status
      let s4 := s3.recordEdges m s3.ing.left.value s3.ing.right.value
      s4.trackAndReport m (lineRuns s4.ing.detect.gc s4.ing.cams p.status)

/-- R48: whether every enabled camera has delivered or lost the line. -/
def Pulse.complete (p : Pulse) : Bool := !p.status.toList.any (· = .pending)

/-- R48: lines up to line `top` are assembled in ascending order while the next one can be. -/
def State.assembleLoop (top : Nat) : Nat → State → State
  | 0, s => s
  | fuel + 1, s =>
    let m := s.ing.assembled + 1
    if top < m then s
    else
      let found := s.ing.pulses.find? (fun p => p.line = m)
      match found with
      | none => State.assembleLoop top fuel ((s.modIng (fun g => { g with assembled := m })).handOver m none)
      | some p =>
        if p.complete then
          State.assembleLoop top fuel ((s.modIng (fun g =>
            { g with assembled := m, pulses := g.pulses.filter (fun p => p.line ≠ m) })).handOver m (some p))
        else s

/-- R48: assembly of the lines up to `top` is tried. -/
def State.assembleUpTo (top : Nat) (s : State) : State := State.assembleLoop top (top - s.ing.assembled) s

/-- R48: assembly is tried. -/
def State.assemble (s : State) : State := s.assembleUpTo s.pos.line

/-! ## Lost lines (R46) -/

/-- R41, R43: CAPTURE_ORDER with the write's offset and the cause. -/
def State.captureOrder (cam : Fin 8) (off : Nat) (cause : OrderCause) (s : State) : State :=
  s.raise .captureOrder off (cam.val + 16 * cause.code)

def State.camCount (cam : Fin 8) (f : CamCounters → CamCounters) (s : State) : State :=
  s.modCam cam (fun c => { c with counters := f c.counters })

/-- A line buffer of a camera becomes FREE. -/
def Camera.setBuf (c : Camera) (bufB : Bool) (b : Buf) : Camera := if bufB then { c with bufB := b } else { c with bufA := b }

def Camera.buf (c : Camera) (bufB : Bool) : Buf := if bufB then c.bufB else c.bufA

/-- R46: the open line is given up when its capture is declared; its slot becomes the discard slot. INCOMPLETE frees the
buffer and leaves the discard slot to R43. -/
def Camera.giveUp (c : Camera) (cause : LostCause) (declared : Nat → Bool) : Camera :=
  match c.openLine with
  | none => c
  | some o =>
    if declared o.capture then
      { c.setBuf o.bufB .free with openLine := none, discard := if cause = .incomplete then c.discard else some o.slot }
    else c

/-- R46: the captures that satisfy `declared` and are PENDING for the camera are declared LOST, in one act. -/
def State.declareLost (cam : Fin 8) (cause : LostCause) (declared : Nat → Bool) (s : State) : State :=
  let hit (p : Pulse) : Bool := p.status[cam] = .pending && (match p.capture with
    | some q => declared q
    | none => false)
  let gone := s.ing.pulses.filter hit
  match gone with
  | [] => s
  | p :: _ =>
    let top := ((gone.filterMap (·.capture)).max?).getD 0
    let s1 := s.modIng (fun g =>
      { g with pulses := g.pulses.map (fun p => if hit p then { p with status := p.status.set cam .lost } else p) })
    let s2 := s1.modCam cam (fun c =>
      { c.giveUp cause declared with
        expected := max c.expected (top + 1),
        counters := { c.counters with lost := upd c.counters.lost cause.code (fun x => satAdd Config.max32 x gone.length) } })
    s2.raise .captureLost p.line (cam.val + 16 * cause.code.val + 65536 * min Config.max16 gone.length)

/-! ## Line triggers (R40) -/

/-- What the Position Unit hands to Ingest at a trigger (R4): a triggered line, an OVERRUN line, or a line no camera
captures. -/
inductive Trigger where | pulsed | overrun | notCaptured
deriving DecidableEq, Repr

/-- R40: a full pulse list forces out its oldest entry. This stands before the triggered line has its own entry, so that
the assembly it leads to ends at the line before. That its cameras are taken in ascending number is the model's choice
(log 57). -/
def State.forceOut (s : State) : State :=
  if s.ing.pulses.length < Config.pulseMax then s
  else match s.ing.pulses with
    | p :: _ =>
      (s.ing.enabled.foldl (fun s i => s.declareLost i .silent (fun q => p.capture = some q)) s).assembleUpTo
        (s.pos.line - 1)
    | [] => s

/-- R40: the statuses of a new pulsed entry and of an OVERRUN entry. -/
def Ingest.newStatus (g : Ingest) (st : CamStatus) : Vector CamStatus 8 :=
  Vector.ofFn (fun i => if g.cams[i].cfg.enable then st else .off)

/-- R40: the line trigger of line `n` reaches Ingest. That the cameras of an OVERRUN line are taken in ascending number is the
model's choice (log 57). -/
def State.ingestTrigger (n : Nat) (t : Trigger) (s : State) : State :=
  match t with
  | .notCaptured => s.assemble
  | .pulsed =>
    let s1 := s.forceOut
    (s1.modIng (fun g =>
      { g with pulses := g.pulses ++ [{ line := n, capture := some g.captures, status := g.newStatus .pending }],
               captures := g.captures + 1 })).assemble
  | .overrun =>
    let s1 := s.forceOut
    let s2 := s1.modIng (fun g => { g with pulses := g.pulses ++ [{ line := n, capture := none, status := g.newStatus .lost }] })
    (s2.ing.enabled.foldl (fun s i =>
      (s.camCount i (fun c => { c with lost := upd c.lost LostCause.overrun.code inc32 })).raise .captureLost n
        (i.val + 16 * LostCause.overrun.code.val + 65536)) s2).assemble

/-- R54: learning begins in every enabled camera from the next pulse on. That the count of lines remaining stands at what an
abandoned learning left, until the first line of the new one sets it, is the model's choice (log 45). -/
def State.startLearning (s : State) : State :=
  s.modIng (fun g =>
    { g with cams := Vector.ofFn (fun i =>
               if g.cams[i].cfg.enable then { g.cams[i] with learn := .start, startCapture := g.captures } else g.cams[i]) })

/-! ## Taking capture writes (R41 to R45) -/

inductive OfferAnswer where | tap | pass | wait
deriving DecidableEq, Repr

/-- The enabled bytes of a burst with their offsets. -/
def enabledAt : Nat → List (Option Byte) → List (Nat × Byte)
  | _, [] => []
  | o, some b :: bs => (o, b) :: enabledAt (o + 1) bs
  | o, none :: bs => enabledAt (o + 1) bs

/-- R40: the line of a capture, while its entry stands in the pulse list. -/
def Ingest.lineOf (g : Ingest) (q : Nat) : Nat := ((g.pulses.find? (fun p => p.capture = some q)).map (·.line)).getD 0

/-- R45: the open line of a camera is complete: classification begins, with its whole effect (R53). -/
def State.completeLine (cam : Fin 8) (s : State) : State :=
  let c := s.ing.cams[cam]
  match c.openLine with
  | none => s
  | some o =>
    match c.buf o.bufB with
    | .filling q bytes =>
      let k := classifyLine s.ing.detect s.ing.left.value s.ing.right.value s.ing.cols c (s.ing.lineOf q) q bytes
      (s.modIng (fun g => { g with cols := k.cols })).modCam cam (fun c =>
        { c.setBuf o.bufB (.classifying q k.res) with openLine := none, learn := k.learn, remaining := k.remaining })
    | .free | .classifying _ _ => s

/-- R42, R43: pixel bytes (by slot offset) are copied into the open line; slot offset width − 1 completes it. -/
def State.tapBytes (cam : Fin 8) (px : List (Nat × Byte)) (s : State) : State :=
  let s1 := s.modCam cam (fun c =>
    let c1 := match c.openLine with
      | none => c
      | some o =>
        match c.buf o.bufB with
        | .filling q bytes => c.setBuf o.bufB (.filling q (px.foldl (fun bs (o, b) => bs.set o b) bytes))
        | .free | .classifying _ _ => c
    { c1 with counters := { c1.counters with tapped := inc32 c1.counters.tapped } })
  if px.any (fun (o, _) => o + 1 = s.ing.cams[cam].cfg.width) then s1.completeLine cam else s1

/-- R43: a buffer is FREE. -/
def Buf.isFree : Buf → Bool
  | .free => true
  | .filling _ _ | .classifying _ _ => false

def Buf.isClassifying : Buf → Bool
  | .classifying _ _ => true
  | .free | .filling _ _ => false

/-- R43, step 4: a line begins in slot `slot`, `j` captures after the expected one. That it takes buffer A where both are
FREE is the model's choice (log 46). -/
def State.beginLine (cam : Fin 8) (slot j : Nat) (px : List (Nat × Byte)) (s : State) : State :=
  let e := s.ing.cams[cam].expected
  let s1 := match s.ing.cams[cam].openLine with
    | some o =>
      ((s.declareLost cam .incomplete (fun q => q = o.capture)).modCam cam (fun c =>
        match c.openLine with
        | some o => { c.setBuf o.bufB .free with openLine := none }
        | none => c)).assemble
    | none => s
  let s2 := if 0 < j then (s1.declareLost cam .skip (fun q => e ≤ q && q < e + j)).assemble else s1
  let s3 := s2.modCam cam (fun c =>
    let b := !c.bufA.isFree
    { c.setBuf b (.filling (e + j) (List.replicate c.cfg.width 0)) with
      openLine := some { slot := slot, capture := e + j, bufB := b }, expected := e + j + 1, discard := none })
  s3.tapBytes cam px

/-- R43: the slots from the expected one to slot `s`, forward. -/
def Camera.slotsAhead (c : Camera) (slot : Nat) : Nat :=
  (slot + c.cfg.slots - c.expected % c.cfg.slots) % c.cfg.slots

/-- R43: a write whose slot is neither open nor to be discarded. -/
def State.offerNew (cam : Fin 8) (off slot : Nat) (px : List (Nat × Byte)) (s : State) : State × OfferAnswer :=
  let c := s.ing.cams[cam]
  let j := c.slotsAhead slot
  if c.cfg.slots ≤ 2 * j then
    ((s.camCount cam (fun k => { k with stale := inc32 k.stale })).captureOrder cam off .stale, .pass)
  else if s.ing.captures ≤ c.expected + j then
    ((s.camCount cam (fun k => { k with untriggered := inc32 k.untriggered })).captureOrder cam off .untriggered, .pass)
  else if c.openLine.isNone && c.bufA.isClassifying && c.bufB.isClassifying then (s, .wait)
  else (s.beginLine cam slot j px, .tap)

/-- R41 to R43: a capture write is offered: its camera, its offset within the window, its bytes. That the offset which
names the slot is that of the lowest enabled byte, and that a write with bytes in the last slot and beyond the ring counts as
straddling, are the model's choices (log 47). -/
def State.offer (cam : Fin 8) (off : Nat) (bytes : List (Option Byte)) (s : State) : State × OfferAnswer :=
  let c := s.ing.cams[cam]
  let en := enabledAt off bytes
  if s.cp.binding ≠ .ready || !c.cfg.enable then
    (s.camCount cam (fun k => { k with disabled := inc32 k.disabled }), .pass)
  else
    match en.head?, en.getLast? with
    | some (lo, _), some (hi, _) =>
      if c.cfg.slots * c.cfg.stride ≤ lo then (s.camCount cam (fun k => { k with outside := inc32 k.outside }), .pass)
      else if lo / c.cfg.stride ≠ hi / c.cfg.stride then
        ((s.camCount cam (fun k => { k with straddling := inc32 k.straddling })).captureOrder cam off .straddle, .pass)
      else
        let slot := lo / c.cfg.stride
        let px := (en.map (fun (o, b) => (o % c.cfg.stride, b))).filter (fun (o, _) => o < c.cfg.width)
        if px.isEmpty then (s, .pass)
        else if c.openLine.any (fun o => o.slot = slot) then (s.tapBytes cam px, .tap)
        else if c.discard = some slot then (s, .pass)
        else s.offerNew cam off slot px
    | _, _ => (s, .pass)

/-- R44, R48: the capture hold limit of a held write has passed: the write's capture may be declared LOST, and its slot
becomes the discard slot. Assembly is tried at each declaration. -/
def State.captureExpired (cam : Fin 8) (slot : Nat) (s : State) : State :=
  let c := s.ing.cams[cam]
  let j := c.slotsAhead slot
  let e := c.expected
  let s1 :=
    if c.cfg.slots ≤ 2 * j ∨ s.ing.captures ≤ e + j then s
    else
      let s2 := if 0 < j then (s.declareLost cam .skip (fun q => e ≤ q && q < e + j)).assemble else s
      (s2.declareLost cam .expiry (fun q => q = e + j)).modCam cam (fun c => { c with expected := max c.expected (e + j + 1) })
  (s1.modCam cam (fun c => { c with discard := some slot })).assemble

/-! ## The end of a classification (R45, R47, R56) -/

/-- R56, R58: each flood line and each line with RUN_OVERFLOW is counted at the end of its classification, delivered or
not; a flood line sets the flood mark, and raises LIGHT_SHIFT where the mark was clear (log 15). -/
def State.lineMarks (cam : Fin 8) (r : LineResult) (s : State) : State :=
  let was := s.ing.cams[cam].floodMark
  let s1 := s.modCam cam (fun c =>
    { c with floodMark := c.floodMark || r.flood,
             counters := { c.counters with flood := if r.flood then inc32 c.counters.flood else c.counters.flood,
                                           overflow := if r.overflow then inc32 c.counters.overflow
                                                       else c.counters.overflow } })
  s1.raiseIf (r.flood && !was) .lightShift r.line (cam.val + 256 * r.flagged)

/-- R45, R56: a line is delivered: it is counted, and one that is no flood line clears the flood mark. -/
def State.deliver (cam : Fin 8) (line : Nat) (r : LineResult) (s : State) : State :=
  (s.modIng (fun g =>
    { g with pulses := g.pulses.map (fun x => if x.line = line then { x with status := x.status.set cam (.delivered r) }
                                              else x) })).modCam cam (fun c =>
    { c with floodMark := r.flood, counters := { c.counters with delivered := inc32 c.counters.delivered } })

/-- R47: every other enabled camera loses its captures that are 8 or more behind. That the cameras are taken in ascending
number, and that assembly is tried once after all of them, is the model's choice (log 57). -/
def State.lagRule (cam : Fin 8) (q : Nat) (s : State) : State :=
  (s.ing.enabled.filter (· ≠ cam)).foldl (fun s i => s.declareLost i .lag (fun r => r + Config.lagCaptures ≤ q)) s

/-- R45: the classification of a buffer ends: the line is delivered or its result discarded, and the buffer is FREE. The
Bool says whether a classification was under way. -/
def State.endClassification (cam : Fin 8) (bufB : Bool) (s : State) : State × Bool :=
  match s.ing.cams[cam].buf bufB with
  | .free | .filling _ _ => (s, false)
  | .classifying q r =>
    let s1 := (s.modCam cam (fun c => c.setBuf bufB .free)).lineMarks cam r
    match s.ing.pulses.find? (fun p => p.capture = some q && p.status[cam] = .pending) with
    | none => (s1, true)
    | some p => (((s1.deliver cam p.line r).lagRule cam q).assemble, true)

/-! ## GEOMETRY (R39, R71) -/

/-- R39, step 1: the lines above the assembled line number are assembled as LOST: no DETECT, no edges, no runs. -/
def State.flushLines : Nat → State → State
  | 0, s => s
  | fuel + 1, s =>
    let m := s.ing.assembled + 1
    if s.pos.line < m then s
    else
      let pulsed := s.ing.pulses.any (fun p => p.line = m)
      let s1 := s.modIng (fun g => { g with assembled := m, pulses := g.pulses.filter (fun p => p.line ≠ m) })
      let s2 := if pulsed then s1.requestSpan .lost m (m + 1) else s1
      State.flushLines fuel (s2.trackAndReport m [])

/-- R39 step 1, R71: every open line is flushed and every blob closed as if by gap, and the last of the lines is reported
done. -/
def State.flushIngest (s : State) : State :=
  let s1 := State.flushLines (s.pos.line - s.ing.assembled) s
  (s1.closeByGap s1.blobs.entries).lineDone s1.ing.assembled

/-- R39, steps 2 to 5: the new capture geometry. R56: the flood marks are clear after GEOMETRY. The rules speak of the enabled
cameras: that a camera left disabled shows NONE, start capture 0 and expected capture 0 is the model's choice (log 56). -/
def State.newGeometry (cfgs : Vector CamSettings 8) (pp holdLimit : Nat) (s : State) : State :=
  s.modIng (fun g =>
    let cams := Vector.ofFn (fun i : Fin 8 =>
      { g.cams[i] with
        cfg := cfgs[i], expected := 0, bufA := .free, bufB := .free, openLine := none, discard := none,
        learn := if cfgs[i].enable then .start else .none, startCapture := 0, remaining := 0,
        floodMark := false })
    let g1 := { g with captures := 0, pp := pp, holdLimit := holdLimit, pulses := [], cams := cams }
    { g1 with left := Edge.atStart g1.startLeft, right := Edge.atStart g1.startRight })

end Sys2Proof.Machine
end

