-- ==== Sys2Proof/Machine/Position.lean ====
section
/-! DEFINITION. The Position Unit (01): counting, line triggers, stall, park, break, terminals, clock. -/

namespace Sys2Proof.Machine

/-! ## Terminals (R12 to R14) -/

def State.ready (s : State) : Bool := s.cp.binding = .ready

/-- R14: whether OUT_STALLED is driven active. -/
def State.stalledOut (s : State) : Bool := s.pos.run = .stalled && s.ready

/-- R14: whether OUT_INSPECTING is driven active. -/
def State.inspectingOut (s : State) : Bool := s.ready && !s.pos.parked && !s.pos.broken && s.pos.run = .running

/-- R12, R14: the function input or the drive of a terminal. -/
def State.termActive (s : State) (t : Terminal) : Bool :=
  match t.fn with
  | .inGeneral | .inCutterReady | .inShiftMark | .inRibbonBreak | .inGantryParked => t.inputActive
  | .outGeneral => t.genActive
  | .outStalled => s.stalledOut
  | .outInspecting => s.inspectingOut

/-- The level at the pin: what the part drives on an output, what the line gives otherwise (log 31). -/
def State.pinLevel (s : State) (t : Terminal) (line : Bool) : Bool :=
  if t.fn.isInput then line else s.termActive t != t.activeLow

/-! ## Break and park (R7, R10) -/

/-- R10: the break state follows IN_RIBBON_BREAK. -/
def State.followBreak (s : State) : State :=
  let b := s.pos.inputOf .inRibbonBreak
  if b = s.pos.broken then s
  else
    let s1 := (s.modPos (fun p => { p with broken := b })).raise .ribbonBreak s.pos.line (mark b)
    if b then s1.planBreak
    else
      let s2 := s1.planClear
      if s2.pos.parked then s2 else s2.startLearning

/-- R7: the gantry state is re-evaluated; `cause` is 0 for the command and 1 for the terminal. -/
def State.followPark (cause : Nat) (s : State) : State :=
  let b := s.pos.parkCmd || s.pos.inputOf .inGantryParked
  if b = s.pos.parked then s
  else if b then
    (s.modPos (fun p => { p with parked := true, parkTriggers := 0 })).raise .gantryParked s.pos.line cause
  else
    ((s.modPos (fun p => { p with parked := false })).raise .gantryOnGlass s.pos.line s.pos.parkTriggers).startLearning

/-- R12: the users of the function inputs see their changes; the arguments are readiness and IN_SHIFT_MARK before. -/
def State.follow (oldReady oldShift : Bool) (s : State) : State :=
  let s1 := ((s.followBreak).followPark 1).judgeReadiness oldReady
  if !oldShift && s1.pos.inputOf .inShiftMark then s1.closeShift .terminal else s1

/-- The change of a terminal, and what follows from it. -/
def State.changeTerm (t : Fin 6) (f : Terminal → Terminal) (event : State → State) (s : State) : State :=
  (event (s.modTerm t f)).follow s.readiness (s.pos.inputOf .inShiftMark)

/-! ## Sampling (R11, R13) -/

def levelOf (b : Bool) : FLevel := if b then .high else .low

/-- R13: TERMINAL_CHANGE at a change between LOW and HIGH on an input function. -/
def State.termEvent (t : Fin 6) (old : Terminal) (s : State) : State :=
  s.raiseIf (old.fn.isInput && old.filtered != .undetermined) .terminalChange t.val
    (mark (s.pos.terms[t]).inputActive)

/-- R11: one terminal is sampled. -/
def State.sampleTerm (pins : BitVec 6) (s : State) (t : Fin 6) : State :=
  let old := s.pos.terms[t]
  let level := s.pinLevel old (pins.getLsbD t.val)
  if old.sample = some level ∧ old.filtered ≠ levelOf level then
    s.changeTerm t (fun x => { x with sample := some level, filtered := levelOf level }) (State.termEvent t old)
  else s.modTerm t (fun x => { x with sample := some level })

/-- R11: the six terminals are sampled, in ascending number (log 7). -/
def State.sampleAll (pins : BitVec 6) (s : State) : State := (List.finRange 6).foldl (State.sampleTerm pins) s

/-! ## The clock (R17) -/

/-- R17: the time of day advances. -/
def Position.advance (p : Position) : Position :=
  if Config.dayMs ≤ p.tod + 1 then { p with ticks := 0, tod := 0, day := p.day + 1 }
  else { p with ticks := 0, tod := p.tod + 1 }

/-- R6: the stall timer counts a millisecond, and so does the time stalled. -/
def Position.countStall (p : Position) : Position :=
  { p with stallTimer := if p.stallRunning then min p.stallTimeout (p.stallTimer + 1) else p.stallTimer,
           timeStalled := if p.run = .stalled then inc32 p.timeStalled else p.timeStalled }

/-- R17, R6, R11, R130, R163: an advance of the time of day. -/
def State.advanceTime (pins : BitVec 6) (s : State) : State :=
  let s1 := s.modPos Position.advance
  let s2 := if s.ready then s1.modPos Position.countStall else s1
  (s2.countAckTimers.boundaryTest).sampleAll pins

/-- R6: the stall timer has reached the stall timeout. -/
def State.stallTimeoutTaken (s : State) : State :=
  if s.ready && s.pos.stallRunning && s.pos.stallTimeout ≤ s.pos.stallTimer then
    match s.pos.run with
    | .stalled => s.modPos (fun p => { p with stallRunning := false })
    | .running =>
      (s.modPos (fun p => { p with stallRunning := false, run := .stalled, timeStalled := 0 })).raise .ribbonStall
        s.pos.line s.pos.stallTimeout
  else s

/-! ## Line triggers (R3, R4, R6, R9) -/

/-- R4: what the trigger of a line yields: the first matching row of the table. -/
def Position.outcome (p : Position) : Trigger × Option SpanKind :=
  if p.broken then (.notCaptured, some .brk)
  else if p.parked then (.notCaptured, some .parked)
  else if p.ltrig.isSome then (.overrun, none)
  else (.pulsed, none)

/-- R4: the level of LTRIG: high for the first 2 µs of a pulse, low for the rest of the busy time and without a pulse
(log 28). A pulse starts in READY alone, and one in progress at UNBIND completes. -/
def Position.ltrigHigh (p : Position) : Bool :=
  match p.ltrig with
  | some us => us < Config.pulseHighUs
  | none => false

/-- R3, R4, R7: the Position Unit's own part of a trigger. -/
def Position.trigger (p : Position) : Position :=
  { p with line := p.line + 1,
           parkTriggers := if p.parked then inc32 p.parkTriggers else p.parkTriggers,
           overruns := match p.outcome.1 with
             | .overrun => inc16 p.overruns
             | .pulsed | .notCaptured => p.overruns,
           ltrig := match p.outcome.1 with
             | .pulsed => some 0
             | .overrun | .notCaptured => p.ltrig }

/-- R6: the stall timer restarts, and a STALLED ribbon resumes. -/
def State.stallRestart (s : State) : State :=
  let s1 := s.modPos (fun p => { p with stallTimer := 0, stallRunning := true, run := .running })
  s1.raiseIf (s.pos.run = .stalled) .ribbonResume s.pos.line s.pos.timeStalled

/-- R9: the span request for a BREAK or PARKED line. -/
def State.lineSpan (n : Nat) (k : Option SpanKind) (s : State) : State :=
  match k with
  | some k => s.requestSpan k n (n + 1)
  | none => s

/-- R3: a line trigger, handed to every block in one fixed order (log 7). -/
def State.lineTrigger (s : State) : State :=
  let o := s.pos.outcome
  let n := s.pos.line + 1
  let s1 := ((s.modPos Position.trigger).lineSpan n o.2).ingestTrigger n o.1
  let s2 := s1.planTrigger.deadlineTest
  (s2.tallied (fun t => { t with triggered := tallyAdd t.triggered 1 })).stallRestart

/-! ## Counting (R1, R2) -/

/-- The place of a pair in the Gray sequence of R1. -/
def grayPlace (a b : Bool) : Nat :=
  match a, b with
  | false, false => 0
  | true, false => 1
  | true, true => 2
  | false, true => 3

/-- R2: a forward count. -/
def State.forwardCount (s : State) : State :=
  if 0 < s.pos.deficit then s.modPos (fun p => { p with deficit := p.deficit - 1 })
  else if s.pos.phase + 1 < s.pos.dv then s.modPos (fun p => { p with phase := p.phase + 1 })
  else if Config.lineMax ≤ s.pos.line then s
  else (s.modPos (fun p => { p with phase := 0 })).lineTrigger

/-- R2: a backward count. -/
def State.backwardCount (s : State) : State :=
  if Config.max16 ≤ s.pos.deficit then s.modPos (fun p => { p with lostBack := inc16 p.lostBack })
  else
    (s.modPos (fun p => { p with deficit := p.deficit + 1 })).raiseIf (s.pos.deficit = 0) .encoderReverse s.pos.line
      s.pos.phase

/-- R1: the encoder inputs take new levels. -/
def State.encoder (a b : Bool) (s : State) : State :=
  let d := (grayPlace a b + 4 - grayPlace s.pos.pairA s.pos.pairB) % 4
  let s1 := s.modPos (fun p => { p with pairA := a, pairB := b })
  if !s.ready || d = 0 then s1
  else if d = 2 then s1.modPos (fun p => { p with encErr := inc16 p.encErr })
  else if (d = 1) != s.pos.bLeads then s1.forwardCount
  else s1.backwardCount

/-! ## The time base (R17, log 3) -/

/-- One 1 µs tick: the ticks of the millisecond, the hold slot, the pulse output and the gaps count it. -/
def State.tick (s : State) : State :=
  ((s.modPos (fun p => { p with ticks := min 999 (p.ticks + 1), ltrig := p.ltrig.map (· + 1) })).modPath (fun p =>
    { p with hold := p.hold.map (fun h => { h with us := inc32 h.us }) })).modEv (fun e =>
    { e with gaps := Vector.ofFn (fun i => e.gaps[i].map (· + 1)) })

/-! ## The rows -/

/-- ENCODER_TRANSITION (R1 to R4). -/
def execEncoderTransition (a b : Bool) (s : State) : Host.Outcome State Fault Refusal := .next (s.encoder a b)

/-- LTRIG_PULSE_END (R4): the pulse output is free again, 4 µs after the start of the pulse (log 4). -/
def execLtrigPulseEnd (s : State) : Host.Outcome State Fault Refusal :=
  .next (s.modPos (fun p => { p with ltrig := none }))

/-- STALL_TIMEOUT (R6). -/
def execStallTimeout (s : State) : Host.Outcome State Fault Refusal := .next s.stallTimeoutTaken

/-- TIME_OF_DAY_ADVANCE (R17). -/
def execTimeOfDayAdvance (pins : BitVec 6) (s : State) : Host.Outcome State Fault Refusal := .next (s.advanceTime pins)

end Sys2Proof.Machine
end

