-- ==== Sys2Proof/Machine/LivePages.lean ====
section
/-! DEFINITION. The pages of the LIVE window (R195), each as the list of its fields, and the snapshot of R32. A list shows
as many entries as its table has places, which is all of them (R80, R90, R94, R100, R129, R162). -/

namespace Sys2Proof.Machine

/-- The fields of each element of a list, `step` bytes apart from `off` on. -/
def spread {α : Type} (off step : Nat) (f : Nat → α → List Field) (l : List α) : List Field :=
  l.zipIdx.flatMap (fun (x, i) => f (off + step * i) x)

/-! ## Page 0 -/

def WinEntry.fields (o : Nat) (e : WinEntry) : List Field :=
  [⟨o, 1, mark e.enable + 2 * mark e.translate⟩, ⟨o + 1, 1, e.kind.code⟩, ⟨o + 2, 1, e.camera⟩,
   ⟨o + 8, 8, e.base.toNat⟩, ⟨o + 16, 8, e.mask.toNat⟩, ⟨o + 24, 8, e.target.toNat⟩]

/-- R36: the counters in its order. -/
def PathCounters.list (c : PathCounters) : List Nat :=
  [c.readsForwarded, c.writesForwarded, c.tapped, c.untapped, c.captureHolds, c.captureExpiries, c.producerHolds,
   c.producerExpiries, c.liveReads, c.liveWrites, c.guarded, c.consumerRejects, c.crossing, c.memErrors]

/-- The hold slot. Its fields show 0 where they belong to no held write (log 62). -/
def holdFields : Option Hold → List Field
  | none => []
  | some h =>
    [⟨0x010, 1, if h.producer then 2 else 1⟩, ⟨0x011, 1, if h.producer then 0 else h.camera⟩, ⟨0x012, 2, h.limit⟩,
     ⟨0x014, 4, h.us⟩]

def State.page0 (s : State) : List Field :=
  [⟨0x000, 1, s.cp.binding.code⟩, ⟨0x001, 1, s.cp.stage.code⟩, ⟨0x002, 1, s.cp.lastResult.code⟩,
   ⟨0x003, 1, s.path.straps.toNat⟩, ⟨0x004, 2, s.cp.consumer.toNat⟩, ⟨0x006, 2, s.cp.known.toNat⟩,
   ⟨0x008, 4, s.cp.sequence⟩, ⟨0x00C, 2, s.cp.holdLimit⟩, ⟨0x00E, 1, s.path.writes.length⟩,
   ⟨0x00F, 1, s.path.reads.length⟩]
  ++ holdFields s.path.hold ++ countFields 0x020 s.path.counters.list
  ++ spread 0x100 32 WinEntry.fields s.path.window.toList

/-! ## Page 1 -/

def State.termFields (s : State) (o : Nat) (t : Terminal) : List Field :=
  [⟨o, 1, t.fn.code⟩, ⟨o + 1, 1, mark t.activeLow⟩, ⟨o + 2, 1, t.filtered.code⟩, ⟨o + 3, 1, mark (s.termActive t)⟩]

def State.page1 (s : State) : List Field :=
  let p := s.pos
  [⟨0x000, 8, p.line⟩, ⟨0x008, 2, p.phase⟩, ⟨0x00A, 2, p.deficit⟩, ⟨0x00C, 1, mark p.pairA + 2 * mark p.pairB⟩,
   ⟨0x00D, 1, mark (p.run = .stalled)⟩, ⟨0x00E, 1, mark p.parked⟩, ⟨0x00F, 1, mark p.parkCmd⟩, ⟨0x010, 1, mark p.broken⟩,
   ⟨0x012, 2, p.stallTimeout⟩, ⟨0x014, 4, if p.stallRunning then p.stallTimer else Config.max32⟩,
   ⟨0x018, 2, p.encErr⟩, ⟨0x01A, 2, p.lostBack⟩, ⟨0x01C, 2, p.overruns⟩, ⟨0x020, 2, p.day.toNat⟩, ⟨0x024, 4, p.tod⟩]
  ++ spread 0x040 4 s.termFields p.terms.toList

/-! ## Page 2 -/

/-- The search ranges of DETECT: absent ones 0. -/
def rangeFields (o : Nat) : Option (Nat × Nat) → List Field
  | none => []
  | some (a, b) => [⟨o, 2, a⟩, ⟨o + 2, 2, b⟩]

/-- 11.2: the DETECT payload layout. -/
def Detect.fields (o : Nat) (d : Detect) : List Field :=
  [⟨o, 2, d.learnLines⟩, ⟨o + 0x02, 1, d.alpha⟩, ⟨o + 0x03, 1, d.beta⟩, ⟨o + 0x04, 1, d.k⟩, ⟨o + 0x05, 1, d.tmin⟩,
   ⟨o + 0x06, 2, d.initNoise⟩, ⟨o + 0x08, 1, d.floodFraction⟩, ⟨o + 0x09, 1, d.edgeLevel⟩, ⟨o + 0x0A, 1, d.edgeGuard⟩,
   ⟨o + 0x0B, 1, d.gc⟩, ⟨o + 0x0C, 1, d.lg⟩, ⟨o + 0x0E, 2, d.lmax⟩,
   ⟨o + 0x10, 1, mark d.left.isSome + 2 * mark d.right.isSome⟩]
  ++ rangeFields (o + 0x12) d.left ++ rangeFields (o + 0x16) d.right

/-- A buffer's state code. -/
def Buf.code : Buf → Nat
  | .free => 0
  | .filling _ _ => 1
  | .classifying _ _ => 2

/-- A buffer's capture. A FREE buffer holds none, and neither 03 nor 11.8 gives its field a value: 0 is the model's choice
(log 51). -/
def Buf.capture : Buf → Nat
  | .free => 0
  | .filling q _ => q
  | .classifying q _ => q

/-- R62: the counters in its order. -/
def CamCounters.list (c : CamCounters) : List Nat :=
  [c.tapped, c.delivered] ++ c.lost.toList
  ++ [c.stale, c.untriggered, c.straddling, c.outside, c.disabled, c.flood, c.overflow]

/-- R62: the expected line of a camera is the line of the capture it expects. The spec gives no value where that capture has
no pulse yet: 0 there is the model's choice (log 50). That a camera which is not enabled shows the line of capture 0 while that
has its entry is the model's choice too (log 48). -/
def Ingest.expectedLine (g : Ingest) (i : Fin 8) : Nat :=
  match g.pulses.find? (fun p => p.capture = some g.cams[i].expected) with
  | some p => p.line
  | none => 0

/-- The delivered lines of a camera that await assembly. -/
def Ingest.awaiting (g : Ingest) (i : Fin 8) : Nat :=
  (g.pulses.filter (fun p => match p.status[i] with
    | .delivered _ => true
    | .off | .pending | .lost => false)).length

def Ingest.camFields (g : Ingest) (i : Fin 8) : List Field :=
  let c := g.cams[i]
  let o := 0x100 + i.val * 0x80
  [⟨o, 1, mark c.cfg.enable⟩, ⟨o + 0x01, 1, c.learn.code⟩, ⟨o + 0x02, 1, mark c.floodMark⟩, ⟨o + 0x03, 1, g.awaiting i⟩,
   ⟨o + 0x04, 4, c.expected⟩, ⟨o + 0x08, 8, g.expectedLine i⟩, ⟨o + 0x10, 1, c.bufA.code⟩, ⟨o + 0x11, 1, c.bufB.code⟩,
   ⟨o + 0x14, 4, c.bufA.capture⟩, ⟨o + 0x18, 4, c.bufB.capture⟩,
   ⟨o + 0x1C, 2, (c.openLine.map (·.slot)).getD 0xFFFF⟩, ⟨o + 0x1E, 2, c.discard.getD 0xFFFF⟩,
   ⟨o + 0x20, 4, (c.openLine.map (·.capture)).getD 0⟩, ⟨o + 0x24, 4, c.startCapture⟩, ⟨o + 0x28, 2, c.remaining⟩]
  ++ countFields (o + 0x30) c.counters.list

def State.page2 (s : State) : List Field :=
  let g := s.ing
  [⟨0x000, 4, g.captures⟩, ⟨0x004, 2, g.pulses.length⟩, ⟨0x006, 1, mark g.pendingDetect.isSome⟩, ⟨0x007, 1, g.holdLimit⟩,
   ⟨0x008, 8, g.assembled⟩, ⟨0x010, 2, g.left.value⟩, ⟨0x012, 2, g.right.value⟩, ⟨0x014, 1, g.left.lostCount⟩,
   ⟨0x015, 1, g.right.lostCount⟩, ⟨0x016, 1, mark g.left.lostCond + 2 * mark g.right.lostCond⟩, ⟨0x018, 2, g.pp⟩]
  ++ g.detect.fields 0x020 ++ (List.finRange 8).flatMap g.camFields

/-! ## Page 3 -/

/-- 11.2: the CLASSIFY payload layout. -/
def ClassParams.fields (o : Nat) (p : ClassParams) : List Field :=
  [⟨o, 4, p.large⟩, ⟨o + 0x04, 1, p.scratch⟩, ⟨o + 0x05, 1, p.stone⟩]
  ++ spread (o + 0x06) 2 (fun o b => [⟨o, 2, b⟩]) p.bounds.toList

def Retire.form : Retire → Nat
  | .line _ => 0
  | .none => 1
  | .all => 2

/-- The retirement line, 0 where the form is NONE or ALL (log 62). -/
def Retire.lineOr0 : Retire → Nat
  | .line n => n
  | .none => 0
  | .all => 0

def spanFields (o : Nat) (x : Span) : List Field := [⟨o, 1, x.kind.code⟩, ⟨o + 1, 5, x.start⟩, ⟨o + 6, 5, x.stop⟩]

/-- R87: the counters in its order. -/
def State.mapCounters (s : State) : List Nat :=
  [s.blobs.opened, s.blobs.merged, s.blobs.closedByGap, s.blobs.expired, s.blobs.forcedClosures, s.blobs.splits,
   s.map.mapped, s.map.retiredAtCreation, s.map.notMapped, s.map.flawsRetired, s.map.spansRetired, s.map.spanMerges,
   s.map.recordsLost]

def State.page3 (s : State) : List Field :=
  let oldest := s.blobs.oldestOpen
  [⟨0x000, 2, (s.blobs.entries.filter (!·.carried)).length⟩, ⟨0x002, 2, (s.blobs.entries.filter (·.carried)).length⟩,
   ⟨0x004, 2, s.map.flaws.length⟩, ⟨0x006, 1, s.map.spans.length⟩,
   ⟨0x007, 1, mark oldest.isSome + 2 * mark s.map.full + 4 * mark s.map.lossMark⟩, ⟨0x008, 8, oldest.getD 0⟩,
   ⟨0x010, 4, s.map.nextFlaw⟩, ⟨0x014, 1, s.map.retire.form⟩, ⟨0x018, 8, s.map.retire.lineOr0⟩]
  ++ s.blobs.params.fields 0x020 ++ countFields 0x040 s.mapCounters ++ spread 0x100 16 spanFields (s.map.spans.take Config.spanMax)

/-! ## Page 4 -/

def laneFields (o : Nat) (l : Lane) : List Field := [⟨o, 2, l.first⟩, ⟨o + 2, 2, l.last⟩]

/-- The ten distances of a campaign in lines, in CAMPAIGN_BEGIN order. -/
def Campaign.distances (c : Campaign) : List Nat :=
  [c.gc, c.lead, c.minCut, c.strip, c.clearance, c.startGap, c.planAhead, c.spare, c.tolerance, c.scoreLate]

def CampSlot.code : CampSlot → Nat
  | .none => 0
  | .active _ => 1
  | .draining _ => 2

/-- R119: a campaign slot; where it is NONE, every field but its state shows 0 (log 62). -/
def CampSlot.fields (o : Nat) (k : CampSlot) : List Field :=
  ⟨o, 1, k.code⟩ ::
  (match k.campaign with
   | Option.none => []
   | some c =>
     [⟨o + 0x01, 1, c.lanes.length⟩, ⟨o + 0x02, 1, mark c.avoidShift + 2 * mark c.avoidReassign⟩,
      ⟨o + 0x03, 1, c.cap.code⟩, ⟨o + 0x04, 2, c.edgeBandMm⟩]
     ++ spread (o + 0x08) 4 laneFields (c.lanes.take 4) ++ countFields (o + 0x18) c.distances ++ [⟨o + 0x40, 4, c.commitOffset⟩])

/-- R195: an order's entry on page 4. Its fallback is the id that ORDER_ADD stored, 0 where it named none (11.8). That the id
goes on being shown after the named order has left the book is the model's choice (log 55). -/
def Order.fields (o : Nat) (x : Order) : List Field :=
  [⟨o, 2, x.id⟩, ⟨o + 2, 1, x.laneMask.toNat⟩, ⟨o + 3, 1, x.grade.code⟩, ⟨o + 4, 1, x.priority⟩,
   ⟨o + 5, 1, x.state.code + 128 * mark x.endCampaign⟩, ⟨o + 6, 2, x.fallback.getD 0⟩, ⟨o + 8, 4, x.length⟩,
   ⟨o + 12, 2, x.requested⟩, ⟨o + 14, 2, x.made⟩, ⟨o + 16, 2, x.reserved⟩, ⟨o + 18, 2, x.remaining⟩,
   ⟨o + 20, 2, x.planned⟩]

/-- A difference as a 16-bit two's complement value. -/
def signed16 (a b : Nat) : Nat := (a + 2 ^ 16 - b % 2 ^ 16) % 2 ^ 16

/-- A cut as a row shows it: number, resolution, and the offset of a SCORED one from its planned boundary, 0 for another
(log 62). -/
def cutFields (o planned : Nat) : Option CutRef → List Field
  | none => []
  | some c =>
    [⟨o, 2, c.num.toNat⟩, ⟨o + 2, 1, c.res.code⟩,
     ⟨o + 4, 2, match c.res with
       | .scored line _ => signed16 line planned
       | .unresolved => 0
       | .missed => 0⟩]

/-- A grade in bits 0–2, 7 when absent. -/
def gradeBits : Option Grade → Nat
  | some g => g.code
  | none => 7

def lanePlateFields (o : Nat) (l : LanePlate) : List Field :=
  [⟨o, 2, l.order.getD 0⟩, ⟨o + 2, 1, gradeBits l.provisional + 16 * mark l.reassigned + 32 * mark l.unsealed⟩]

def extremeFields (o : Nat) : Option Extremes → List Field
  | none => []
  | some e => [⟨o, 2, e.left⟩, ⟨o + 2, 2, e.right⟩]

def Row.fields (o : Nat) (r : Row) : List Field :=
  [⟨o, 4, r.num⟩, ⟨o + 4, 1, r.kind.code⟩, ⟨o + 5, 1, r.state.code⟩,
   ⟨o + 6, 1, r.slot.val + 2 * mark r.unsealed + 4 * (r.shifts % 4) + 16 * mark r.leading.isSome + 32 * mark r.trailing.isSome
     + 64 * mark r.extremes.isSome⟩,
   ⟨o + 8, 5, r.start⟩, ⟨o + 13, 5, r.stop⟩]
  ++ cutFields (o + 18) r.start r.leading ++ cutFields (o + 24) r.stop r.trailing ++ extremeFields (o + 30) r.extremes
  ++ spread (o + 34) 3 lanePlateFields (r.lanes.take 4)

/-- R119: the counters in its order. -/
def PlanCounters.list (c : PlanCounters) : List Nat :=
  [c.laid, c.discarded, c.starved, c.shifted, c.reassigned, c.unsealed, c.cut, c.retired]

def openingCode : Option Opening → Nat
  | none => 0xFF
  | some .change => RowKind.change.code
  | some .brk => RowKind.brk.code

def Planner.fields (p : Planner) : List Field :=
  [⟨0x090, 1, openingCode p.opening⟩, ⟨0x091, 1, mark p.extent.isSome + 2 * mark p.carried.isSome⟩,
   ⟨0x092, 2, p.nextCut.toNat⟩, ⟨0x094, 4, p.nextRow⟩, ⟨0x098, 8, p.extent.getD 0⟩, ⟨0x0A4, 1, p.orders.length⟩,
   ⟨0x0A5, 1, p.rows.length⟩]
  ++ extremeFields 0x0A0 p.carried ++ countFields 0x0B0 p.counters.list

/-- R158: the counters in its order. -/
def GraderCounters.list (c : GraderCounters) : List Nat :=
  [c.provisional, c.plates, c.cullet, c.regraded, c.rejects, c.stagingWaits]

def Grader.fields (g : Grader) : List Field :=
  spread 0x0D0 1 (fun o w => [⟨o, 1, w⟩]) g.table.weights.toList
  ++ [⟨0x0F8, 5, g.table.fatal.toNat⟩, ⟨0x0FD, 1, g.table.edgeFactor⟩, ⟨0x0FE, 1, mark g.stagingFull⟩,
      ⟨0x0FF, 1, (g.waiting.map (·.need)).getD 0⟩, ⟨0x100, 2, g.table.ta⟩, ⟨0x102, 2, g.table.tb⟩,
      ⟨0x104, 2, g.table.tc⟩, ⟨0x106, 1, mark g.waiting.isSome⟩, ⟨0x108, 4, (g.waiting.map (·.row)).getD 0⟩,
      ⟨0x10C, 4, g.nextPlate⟩]
  ++ countFields 0x110 g.counters.list

def State.page4 (s : State) : List Field :=
  spread 0 0x48 CampSlot.fields s.plan.slots.toList ++ s.plan.fields ++ s.grader.fields
  ++ spread 0x128 22 Order.fields (s.plan.orders.take Config.orderMax)
  ++ spread 0x400 48 Row.fields (s.plan.rows.take Config.rowMax)

/-! ## Page 5 -/

/-- R139: the counters in its order. -/
def LinkCounters.list (c : LinkCounters) : List Nat :=
  [c.sentCut, c.sentLanes, c.repeats] ++ c.received.toList ++ c.errors.toList
  ++ [c.stray, c.malformed, c.late, c.unknown, c.duplicate, c.refused, c.fullMisses] ++ c.missed.toList

/-- R129, R139: a cut of the list. A cause, reason or actual line that it does not have shows 0 (log 62). -/
def Cut.fields (o : Nat) (c : Cut) : List Field :=
  [⟨o, 2, c.num.toNat⟩, ⟨o + 2, 1, c.status.code⟩,
   ⟨o + 3, 1, mark c.plateEnd + 2 * mark (!c.plateEnd) + 4 * mark c.offset⟩, ⟨o + 4, 1, c.repeats⟩,
   ⟨o + 5, 1, (c.cause.map (·.code.val)).getD 0⟩, ⟨o + 6, 1, c.reason⟩, ⟨o + 7, 1, mark c.timer.isSome⟩,
   ⟨o + 8, 5, c.line⟩, ⟨o + 13, 1, (c.timer.map (·.count)).getD 0⟩, ⟨o + 16, 4, c.gc⟩, ⟨o + 20, 4, c.scoreLate⟩,
   ⟨o + 24, 2, c.tolerance⟩, ⟨o + 26, 5, c.actual⟩]

/-- Page 5; the IN_CUTTER_READY input is the function input of R12, inactive when no terminal carries it (log 38). -/
def State.page5 (s : State) : List Field :=
  let l := s.link
  [⟨0x000, 1, mark l.on⟩, ⟨0x001, 1, l.framer.state.code⟩, ⟨0x002, 1, mark l.ready⟩, ⟨0x003, 1, mark (s.pos.inputOf .inCutterReady)⟩,
   ⟨0x004, 1, mark s.readiness⟩, ⟨0x005, 1, mark l.notReady⟩, ⟨0x006, 1, l.txq.length⟩,
   ⟨0x007, 1, (l.shift.map (·.frame.code.toNat)).getD 0⟩, ⟨0x008, 1, mark l.lanesPending.isSome⟩,
   ⟨0x009, 1, l.settings.breakLen⟩, ⟨0x00A, 1, l.settings.ackTimeout⟩, ⟨0x00B, 1, l.settings.repeats⟩,
   ⟨0x00C, 4, l.settings.rate⟩, ⟨0x010, 2, l.next.toNat⟩, ⟨0x012, 1, l.cuts.length⟩]
  ++ countFields 0x040 l.counters.list ++ spread 0x100 32 Cut.fields (l.cuts.take Config.cutMax)

/-! ## Page 6 -/

def ReportSlot.code : ReportSlot → Nat
  | .empty => 0
  | .waiting _ => 1
  | .inFlight _ _ => 2

def ReportSlot.report : ReportSlot → Option Report
  | .empty => none
  | .waiting r => some r
  | .inFlight r _ => some r

/-- R171: the report in the pending slot; without one its fields show 0 (log 62). -/
def pendingFields : Option Report → List Field
  | none => []
  | some r =>
    [⟨0x029, 1, r.flagBits⟩, ⟨0x02C, 4, r.shift⟩, ⟨0x030, 4, r.covered⟩, ⟨0x034, 4, r.endTod⟩,
     ⟨0x038, 2, r.endDay.toNat⟩]

def State.page6 (s : State) : List Field :=
  let t := s.tally
  [⟨0x000, 4, t.shift⟩, ⟨0x004, 2, t.start.day.toNat⟩,
   ⟨0x006, 1, mark t.start.clockSet + 2 * mark t.start.saturated⟩, ⟨0x008, 4, t.start.tod⟩,
   ⟨0x00C, 2, yieldOf t.live.goodArea t.live.gradedArea⟩, ⟨0x00E, 1, t.plan.length⟩, ⟨0x010, 8, t.start.line⟩,
   ⟨0x028, 1, t.slot.code⟩, ⟨0x02A, 1, (t.deferred.map (fun c => c.code + 1)).getD 0⟩]
  ++ countFields 0x018 (t.plan.take 4) ++ pendingFields t.slot.report ++ t.live.fields
  ++ [⟨0x180, 4, t.closed⟩, ⟨0x184, 4, t.merged⟩, ⟨0x188, 4, t.written⟩]

/-! ## Page 7 -/

/-- The occupancy of a ring's staging; REPORT's is the pending slot. -/
def State.occupancy (s : State) (r : Fin 4) : Nat :=
  if r = reportRing then mark s.tally.slot.report.isSome else s.rings[r].staging.length

def State.ringFields (s : State) (r : Fin 4) : List Field :=
  let g := s.rings[r]
  let o := 0x100 + r.val * 0x40
  [⟨o, 1, g.state.code⟩, ⟨o + 1, 1, s.occupancy r⟩, ⟨o + 2, 2, g.issue.toNat⟩, ⟨o + 4, 2, g.published.toNat⟩,
   ⟨o + 6, 2, g.written.toNat⟩, ⟨o + 8, 2, g.consumer.toNat⟩, ⟨o + 10, 2, g.notify⟩, ⟨o + 12, 4, g.capacity⟩,
   ⟨o + 16, 8, g.base⟩, ⟨o + 24, 4, g.discarded⟩]

def Events.kindByte (e : Events) (k : Fin 32) : Nat :=
  mark (e.pending.getLsbD k) + 2 * mark (e.enable.getLsbD k) + 4 * mark (e.log.getLsbD k) + 16 * e.routes[k].val

def Events.lineByte (e : Events) : Nat :=
  ((List.finRange 4).map (fun i => 2 ^ i.val * (mark (e.level i) + 16 * mark e.gaps[i].isSome))).sum

def State.page7 (s : State) : List Field :=
  (List.finRange 32).map (fun k => ⟨k.val, 1, s.ev.kindByte k⟩)
  ++ (List.finRange 4).map (fun i => ⟨0x020 + i.val, 1, mark s.ev.pulsed[i]⟩)
  ++ [⟨0x024, 1, s.ev.lineByte⟩, ⟨0x028, 4, s.ev.seq⟩, ⟨0x02C, 4, s.ev.lost⟩, ⟨0x030, 1, s.rings[eventRing].staging.length⟩]
  ++ (List.finRange 4).flatMap s.ringFields

/-! ## Snapshots (R32) -/

/-- The fields of a page; offsets of 32 KiB and above lie outside the pages. -/
def State.page (s : State) : Nat → List Field
  | 0 => s.page0
  | 1 => s.page1
  | 2 => s.page2
  | 3 => s.page3
  | 4 => s.page4
  | 5 => s.page5
  | 6 => s.page6
  | 7 => s.page7
  | _ => []

/-- R32: the bytes that a burst of `len` bytes at an offset of the window reads. -/
def State.snapshot (s : State) (offset len : Nat) : List Byte :=
  layoutFrom (s.page (offset / Config.pageSize)) (offset % Config.pageSize) len

end Sys2Proof.Machine
end

