-- ==== Sys2Proof/Machine/Path.lean ====
section
/-! DEFINITION. The Path Unit (02): arrival and classification, ring guards, the write queue's head, held writes, reads,
forwarded answers. -/

namespace Sys2Proof.Machine

/-! ## Classification (R21, R22) -/

/-- R22: whether an address hits an entry. -/
def WinEntry.hits (a : Addr) (e : WinEntry) : Bool := e.enable && (a &&& e.mask) == e.base

/-- R22: the translated address. -/
def WinEntry.translated (a : Addr) (e : WinEntry) : Addr := e.target ||| (a &&& ~~~e.mask)

/-- R21: a burst that would cross a 4 KiB boundary. -/
def crossesPage (a : Addr) (len : Nat) : Bool := Config.pageSize < a.toNat % Config.pageSize + len

/-- R22: the governing entry of an address. -/
def Path.govern (p : Path) (a : Addr) : Option WinEntry := p.window.toList.find? (WinEntry.hits a)

/-- R22: translation has no effect on a LIVE entry. -/
def WinEntry.moves (e : WinEntry) : Bool := e.translate && e.kind != .live

/-- R21, R22: what a burst is classified as at its arrival. A crossing burst is not classified. -/
def Path.classify (p : Path) (a : Addr) (len : Nat) : Classified :=
  let plain : Classified := { crossing := false, kind := .pass, camera := 0, translated := false, down := a, offset := 0 }
  if crossesPage a len then { plain with crossing := true }
  else match p.govern a with
    | none => plain
    | some e =>
      { crossing := false, kind := e.kind, camera := e.camera, translated := e.moves,
        down := if e.moves then e.translated a else a, offset := (a &&& ~~~e.mask).toNat }

/-! ## The bytes a write enables -/

/-- The byte that a burst at `a` writes at address `x`. -/
def burstByte (a : Nat) (bytes : List (Option Byte)) (x : Nat) : Option Byte :=
  if a ≤ x then (bytes[x - a]?).join else none

/-- Whether a burst at `a` enables a byte of [lo, hi). -/
def touches (a : Nat) (bytes : List (Option Byte)) (lo hi : Nat) : Bool :=
  (enabledAt a bytes).any (fun (x, _) => lo ≤ x && x < hi)

/-- The word of four bytes at `w` after a burst at `a`, its value before being `old` (R27, R175). -/
def wordAfter (old a : Nat) (bytes : List (Option Byte)) (w : Nat) : Nat :=
  mergeWord old 4 ((List.range 4).map (fun i => burstByte a bytes (w + i)))

/-- R31: a CONTROL write that enables a byte of the header's word at `off`. -/
def State.touchesHeader (s : State) (w : QueuedWrite) (off : Nat) : Bool :=
  !w.cls.crossing && w.cls.kind == .control
    && touches w.burst.addr.toNat w.burst.bytes (s.controlBase.toNat + off) (s.controlBase.toNat + off + 4)

def State.isProducer (s : State) (w : QueuedWrite) : Bool := s.touchesHeader w 0x00
def State.isFaultAck (s : State) (w : QueuedWrite) : Bool := s.touchesHeader w 0x08

/-- R27: whether a write enables a byte of the consumer word of a RUNNING ring, at its downstream address (log 12). -/
def State.touchesConsumer (s : State) (w : QueuedWrite) (r : Fin 4) : Bool :=
  s.rings[r].state = .running
    && touches w.cls.down.toNat w.burst.bytes (s.rings[r].base + 4) (s.rings[r].base + 8)

/-! ## Ring guards (R25, R26) -/

/-- R25: the end of a ring's record area. -/
def Ring.areaEnd (g : Ring) (r : Fin 4) : Nat := g.base + 64 + g.capacity * recordSize r

/-- R25, R26: whether a burst at `a` enables a byte of the guard of a ring. -/
def Ring.guardTouched (g : Ring) (r : Fin 4) (a : Nat) (bytes : List (Option Byte)) : Bool :=
  g.state = .running && (touches a bytes g.base (g.base + 4) || touches a bytes (g.base + 64) (g.areaEnd r))

/-- R26: the lowest ring whose guard a write hits, under its upstream address or its translated address. -/
def State.guardHit (s : State) (w : QueuedWrite) : Option (Fin 4) :=
  if w.cls.crossing then none
  else (List.finRange 4).find? (fun r =>
    s.rings[r].guardTouched r w.burst.addr.toNat w.burst.bytes
      || (w.cls.translated && s.rings[r].guardTouched r w.cls.down.toNat w.burst.bytes))

/-! ## Leaving the write queue (R28, R29) -/

/-- The head write leaves the queue, and the hold slot is empty. -/
def State.popWrite (s : State) : State := s.modPath (fun p => { p with writes := p.writes.tail, hold := none })

/-- The head write is answered with an error and not forwarded. -/
def State.refuseHead (w : QueuedWrite) (s : State) : State :=
  s.popWrite.answer { axi := w.burst.id, read := false, okay := false, data := [] }

/-- R21: a crossing write at the head. -/
def State.refuseCrossing (w : QueuedWrite) (s : State) : State :=
  (s.refuseHead w).count (fun c => { c with crossing := inc32 c.crossing })

/-- R26: a guard hit. -/
def State.refuseGuarded (w : QueuedWrite) (r : Fin 4) (s : State) : State :=
  ((s.refuseHead w).count (fun c => { c with guarded := inc32 c.guarded })).raise .guardViolation w.burst.addr.toNat r.val

/-- R27: the consumer value that lies between the observed consumer and the producer written. -/
def Ring.adopts (g : Ring) (v : Idx) : Bool := Idx.ahead v g.consumer ≤ Idx.ahead g.written g.consumer

/-- R27: the RUNNING rings whose consumer word a write covers, each with the address of that word. -/
def State.consumersTouched (s : State) (w : QueuedWrite) : List (Fin 4 × Nat) :=
  (List.finRange 4).filterMap (fun r => if s.touchesConsumer w r then some (r, s.rings[r].base + 4) else none)

/-- R27: the rings that take a consumer value from the head write: those it covered when it became the head, which is now
unless it has been held. -/
def State.consumersOf (s : State) (w : QueuedWrite) : List (Fin 4 × Nat) :=
  match s.path.hold with
  | some h => h.consumers
  | none => s.consumersTouched w

/-- R27: the consumer value that one ring takes from a forwarded write, its consumer word lying at `x.2`. -/
def State.observe (w : QueuedWrite) (s : State) (x : Fin 4 × Nat) : State :=
  let g := s.rings[x.1]
  let v : Idx := BitVec.ofNat 16 (wordAfter g.consumer.toNat w.cls.down.toNat w.burst.bytes x.2)
  if g.adopts v then s.modRing x.1 (fun g => { g with consumer := v })
  else s.count (fun c => { c with consumerRejects := inc32 c.consumerRejects })

/-- The head write is issued downstream at its own or translated address, and the Ring Writer sees it (R27, R28). -/
def State.forwardHead (w : QueuedWrite) (what : AccessFor) (s : State) : State :=
  (s.consumersOf w).foldl (State.observe w) (s.popWrite.issue what w.cls.down w.burst.bytes 0)

/-- R28: a PASS or CONTROL write is forwarded; memory's response will answer it. -/
def State.forwardPlain (w : QueuedWrite) (s : State) : State :=
  (s.forwardHead w (.fwdWrite w.burst.id)).count (fun c => { c with writesForwarded := inc32 c.writesForwarded })

/-- R30: a capture write is forwarded and answered OKAY at once. -/
def State.forwardPosted (w : QueuedWrite) (s : State) : State :=
  (s.forwardHead w (.posted w.burst.id)).answer { axi := w.burst.id, read := false, okay := true, data := [] }

/-- R26: a write is tested against the guards, and dealt with by `k` when it hits none. -/
def State.guarded (w : QueuedWrite) (k : State → State) (s : State) : State :=
  match s.guardHit w with
  | some r => s.refuseGuarded w r
  | none => k s

/-! ## The Command Processor's side (R31, R175, R180) -/

/-- R31: a held producer write is released or expires: it is tested again and forwarded. -/
def State.forwardHeldProducer (s : State) : State :=
  match s.path.writes with
  | w :: _ => s.guarded w (State.forwardPlain w)
  | [] => s

/-- R180: the notice of a fault-ack write; `before` is the serial number of the first access that need not be answered
before slots are read. -/
def State.faultAckNotice (before : Nat) (s : State) : State :=
  if s.cp.stage = .fault then
    let s1 := (s.modCp (fun c => { c with stage := .idle, lastResult := .ok, barrier := before })).writeStateWord
    if Config.slotCount < s1.cp.announced then s1.chainFault .producer [] else s1
  else s

/-- R175: the known producer takes the value of a producer write. -/
def State.learnProducer (w : QueuedWrite) (s : State) : State :=
  s.modCp (fun c =>
    { c with known := BitVec.ofNat 16 (wordAfter c.known.toNat w.burst.addr.toNat w.burst.bytes s.controlBase.toNat) })

/-- R31: the producer write is held with the command hold limit, and every upstream write forwarded so far must be
answered before slots are read. -/
def State.holdProducer (w : QueuedWrite) (s : State) : State :=
  ((s.modPath (fun p =>
    { p with hold := some { producer := true, camera := 0, limit := s.cp.holdLimit, us := 0, serial := p.nextAccess,
                            consumers := s.consumersOf w } })
    ).count (fun c => { c with producerHolds := inc32 c.producerHolds })).modCp (fun c =>
    { c with barrier := s.path.nextAccess })

/-- R31, R175: a producer write in the stage that stands. -/
def State.producerTaken (w : QueuedWrite) (s : State) : State :=
  let s1 := s.learnProducer w
  match s.cp.stage with
  | .fault => s1.forwardPlain w
  | .idle | .gather =>
    let s2 := s1.holdProducer w
    if s2.cp.announced = 0 then s2.forwardHeldProducer
    else if Config.slotCount < s2.cp.announced then s2.chainFault .producer []
    else s2

/-! ## The head of the write queue (R29) -/

/-- Which row of the table deals with the head write. -/
inductive HeadKind where | plain | capture | producer | faultAck | consumer | live
deriving DecidableEq, Repr

/-- The rows part the head writes among them: crossing bursts and PASS and CONTROL writes without more are plain. -/
def State.headKind (s : State) (w : QueuedWrite) : HeadKind :=
  if w.cls.crossing then .plain
  else match w.cls.kind with
    | .live => .live
    | .capture => .capture
    | .control | .pass =>
      if s.isProducer w then .producer
      else if s.isFaultAck w then .faultAck
      else if (List.finRange 4).any (s.touchesConsumer w) then .consumer
      else .plain

/-- Acts on the head write when nothing is held and the head is of a kind; otherwise the row has no occasion (log 2). -/
def State.onHead (k : HeadKind) (act : QueuedWrite → State → State) (s : State) : State :=
  match s.path.hold, s.path.writes with
  | none, w :: _ => if s.headKind w = k then act w s else s
  | _, _ => s

/-- R21, R26, R28: a crossing, PASS or CONTROL write. -/
def State.plainHead (w : QueuedWrite) (s : State) : State :=
  if w.cls.crossing then s.refuseCrossing w else s.guarded w (State.forwardPlain w)

/-- The camera of a CAPTURE access. -/
def Classified.cam (c : Classified) : Fin 8 := Fin.ofNat 8 c.camera

/-- R30: the Path Unit acts on the answer to an offer. -/
def State.offerWrite (w : QueuedWrite) (s : State) : State :=
  match s.offer w.cls.cam w.cls.offset w.burst.bytes with
  | (s1, .tap) => (s1.forwardPosted w).count (fun c => { c with tapped := inc32 c.tapped })
  | (s1, .pass) => (s1.forwardPosted w).count (fun c => { c with untapped := inc32 c.untapped })
  | (s1, .wait) =>
    (s1.modPath (fun p =>
      { p with hold := some { producer := false, camera := w.cls.camera, limit := s1.ing.holdLimit, us := 0,
                              serial := p.nextAccess, consumers := s1.consumersOf w } })).count (fun c =>
      { c with captureHolds := inc32 c.captureHolds })

/-- R30: a CAPTURE write at the head. -/
def State.captureHead (w : QueuedWrite) (s : State) : State := s.guarded w (State.offerWrite w)

/-- The capture write that is held, with its camera. -/
def State.heldCapture (s : State) : Option QueuedWrite :=
  match s.path.hold, s.path.writes with
  | some h, w :: _ => if h.producer then none else some w
  | _, _ => none

/-- R30, R44: the held capture write is offered again. That the guards are tested before the offer (R26), so that a write that
hits one is refused without being offered or tapped, is the model's choice (log 64). -/
def State.reoffer (s : State) : State :=
  match s.heldCapture with
  | some w => s.guarded w (State.offerWrite w)
  | none => s

/-- R30, R44: a buffer of a camera has become FREE. -/
def State.reofferFor (cam : Fin 8) (s : State) : State :=
  match s.heldCapture with
  | some w => if w.cls.cam = cam then s.reoffer else s
  | none => s

/-- R44: the slot of the ring in which a capture write begins. -/
def State.slotOf (w : QueuedWrite) (s : State) : Nat :=
  (((enabledAt w.cls.offset w.burst.bytes).map (·.1)).headD 0) / (s.ing.cams[w.cls.cam]).cfg.stride

/-- R30, R44: the capture hold limit passes. A write that hits a guard at that moment is refused and not forwarded; that
Ingest is told of the expiry all the same is the model's choice (log 36). -/
def State.captureExpiry (w : QueuedWrite) (s : State) : State :=
  let slot := s.slotOf w
  let s1 := s.count (fun c => { c with captureExpiries := inc32 c.captureExpiries })
  (s1.guarded w (State.forwardPosted w)).captureExpired w.cls.cam slot

/-- R31: a fault-ack write is forwarded and the Command Processor is told of it. -/
def State.faultAckHead (w : QueuedWrite) (s : State) : State :=
  s.guarded w (fun s => (s.forwardPlain w).faultAckNotice s.path.nextAccess)

/-- R31: a producer write; one that writes the fault-ack word too is passed on as that first (log 33). -/
def State.producerHead (w : QueuedWrite) (s : State) : State :=
  s.guarded w (fun s =>
    (if s.isFaultAck w then s.faultAckNotice s.path.nextAccess else s).producerTaken w)

/-- R33: a LIVE write. -/
def State.liveHead (w : QueuedWrite) (s : State) : State :=
  s.guarded w (fun s =>
    ((s.refuseHead w).count (fun c => { c with liveWrites := inc32 c.liveWrites })).raise .guardViolation
      w.burst.addr.toNat 4)

/-! ## Reads (R28, R29, R32) -/

/-- A read leaves the queue. -/
def State.popRead (pos : Nat) (s : State) : State := s.modPath (fun p => { p with reads := p.reads.eraseIdx pos })

/-- R29: whether a write still in the queue enables a byte that a read covers, by downstream addresses. A LIVE write and one that
crosses a page have none, since they are never forwarded: that they are compared at their own address is the model's choice
(log 63). -/
def State.overlapsWrite (s : State) (r : QueuedRead) : Bool :=
  s.path.writes.any (fun w =>
    touches w.cls.down.toNat w.burst.bytes r.cls.down.toNat (r.cls.down.toNat + r.burst.len))

/-- R29: whether an earlier read with the same AXI ID waits. -/
def State.earlierSameId (s : State) (pos : Nat) (r : QueuedRead) : Bool :=
  (s.path.reads.take pos).any (fun q => q.burst.id == r.burst.id)

/-- R21, R28, R32: a queued read whose conditions hold. -/
def State.releaseRead (pos : Nat) (r : QueuedRead) (s : State) : State :=
  if r.cls.crossing then
    ((s.popRead pos).answer { axi := r.burst.id, read := true, okay := false, data := [] }).count (fun c =>
      { c with crossing := inc32 c.crossing })
  else if r.cls.kind = .live then
    ((s.popRead pos).answer { axi := r.burst.id, read := true, okay := true, data := r.snapshot }).count (fun c =>
      { c with liveReads := inc32 c.liveReads })
  else if s.overlapsWrite r then s
  else
    ((s.popRead pos).issue (.fwdRead r.burst.id) r.cls.down [] r.burst.len).count (fun c =>
      { c with readsForwarded := inc32 c.readsForwarded })

/-! ## The rows -/

/-- UPSTREAM_WRITE_ARRIVAL (R21, R22): while the queue holds 32 bursts, the fabric waits. -/
def execUpstreamWriteArrival (w : WriteBurst) (s : State) : Host.Outcome State Fault Refusal :=
  if burstLenOk w.bytes.length then
    if s.path.writes.length < Config.queueDepth then
      .next (s.modPath (fun p =>
        { p with writes := p.writes ++ [{ burst := w, cls := p.classify w.addr w.bytes.length }] }))
    else .next s
  else .fault .malformedOperand

/-- UPSTREAM_READ_ARRIVAL (R21, R22, R32): a LIVE read takes its snapshot now. That the read queue occupancy it shows does
not count the arriving read itself is the model's choice (log 42). -/
def execUpstreamReadArrival (r : ReadBurst) (s : State) : Host.Outcome State Fault Refusal :=
  if burstLenOk r.len then
    if s.path.reads.length < Config.queueDepth then
      let c := s.path.classify r.addr r.len
      let live : Bool := c.kind = .live
      .next (s.modPath (fun p =>
        { p with reads := p.reads ++ [{ burst := r, cls := c,
                                        snapshot := if live then s.snapshot c.offset r.len else [] }] }))
    else .next s
  else .fault .malformedOperand

/-- WRITE_AT_HEAD (R21, R26, R28, R29). -/
def execWriteAtHead (s : State) : Host.Outcome State Fault Refusal := .next (s.onHead .plain State.plainHead)

/-- CAPTURE_WRITE (R30, R41 to R46). -/
def execCaptureWrite (s : State) : Host.Outcome State Fault Refusal := .next (s.onHead .capture State.captureHead)

/-- CLASSIFICATION_DONE (R45): the freed buffer causes a held capture write of the camera to be offered again (R44). -/
def execClassificationDone (cam : Fin 8) (bufB : Bool) (s : State) : Host.Outcome State Fault Refusal :=
  match s.endClassification cam bufB with
  | (s1, true) => .next (s1.reofferFor cam)
  | (s1, false) => .next s1

/-- PRODUCER_WRITE (R31, R175). -/
def execProducerWrite (s : State) : Host.Outcome State Fault Refusal := .next (s.onHead .producer State.producerHead)

/-- FAULT_ACK (R31, R180). -/
def execFaultAck (s : State) : Host.Outcome State Fault Refusal := .next (s.onHead .faultAck State.faultAckHead)

/-- CONSUMER_WORD_WRITE (R27): forwarded by its window kind, and taken by the Ring Writer. -/
def execConsumerWordWrite (s : State) : Host.Outcome State Fault Refusal := .next (s.onHead .consumer State.plainHead)

/-- LIVE_WRITE (R33). -/
def execLiveWrite (s : State) : Host.Outcome State Fault Refusal := .next (s.onHead .live State.liveHead)

/-- READ_RELEASE (R29). -/
def execReadRelease (pos : Nat) (s : State) : Host.Outcome State Fault Refusal :=
  match s.path.reads[pos]? with
  | none => .next s
  | some r => if s.earlierSameId pos r then .next s else .next (s.releaseRead pos r)

/-- CAPTURE_HOLD_EXPIRY (R30, R44). -/
def execCaptureHoldExpiry (s : State) : Host.Outcome State Fault Refusal :=
  match s.heldCapture with
  | some w => .next (s.captureExpiry w)
  | none => .next s

/-- PRODUCER_HOLD_EXPIRY (R31). -/
def execProducerHoldExpiry (s : State) : Host.Outcome State Fault Refusal :=
  match s.path.hold with
  | some h =>
    if h.producer then
      .next ((s.count (fun c => { c with producerExpiries := inc32 c.producerExpiries })).forwardHeldProducer)
    else .next s
  | none => .next s

end Sys2Proof.Machine
end

