-- ==== Sys2Proof/Machine/Rings.lean ====
section
/-! DEFINITION. The Ring Writer (02, section 2.9; 09, section 9.5), memory errors (R35), the write-back (R177). -/

namespace Sys2Proof.Machine

/-! ## Indices (R34) -/

/-- R34: the published index advances over accepted records in index order. -/
def coverFrom : Nat → Idx → List Idx → Idx × List Idx
  | 0, p, acc => (p, acc)
  | fuel + 1, p, acc => if acc.contains p then coverFrom fuel (p + 1) (acc.filter (· ≠ p)) else (p, acc)

/-- R34: a record is accepted and leaves staging. -/
def Ring.accept (i : Idx) (g : Ring) : Ring :=
  let c := coverFrom (g.accepted.length + 1) g.published (g.accepted ++ [i])
  { g with published := c.1, accepted := c.2, staging := g.staging.filter (fun e => e.issued ≠ some i) }

/-- R34: room for one more record. -/
def Ring.hasRoom (g : Ring) : Bool := Idx.ahead g.issue g.consumer < g.capacity - 1

/-- R25: the address of the record at an index. -/
def Ring.recordAddr (g : Ring) (r : Fin 4) (i : Idx) : Addr :=
  BitVec.ofNat 40 (g.base + 64 + i.toNat % g.capacity * recordSize r)

/-- The oldest staged record gets its index. -/
def markIssued (i : Idx) : List Staged → List Staged
  | [] => []
  | e :: es => if e.issued.isNone then { e with issued := some i } :: es else e :: markIssued i es

/-- R34: the oldest record of a ring's staging is issued. -/
def State.issueRecord (r : Fin 4) (s : State) : State :=
  let g := s.rings[r]
  match g.staging.find? (fun e => e.issued.isNone) with
  | none => s
  | some e =>
    (s.issueWrite (.record r g.issue .live) (g.recordAddr r g.issue) e.record.bytes).modRing r (fun g =>
      { g with issue := g.issue + 1, staging := markIssued g.issue g.staging })

/-- R34, R169: the WAITING report is issued as two 256-byte bursts. -/
def State.issueReport (s : State) : State :=
  match s.tally.slot with
  | .waiting r =>
    let g := s.rings[reportRing]
    let a := g.recordAddr reportRing g.issue
    let what : AccessFor := .record reportRing g.issue .live
    (((s.issueWrite what a (r.bytes.take 256)).issueWrite what (a + 256) (r.bytes.drop 256)).modRing reportRing (fun g =>
      { g with issue := g.issue + 1 })).modTally (fun t => { t with slot := .inFlight r .accept })
  | .empty => s
  | .inFlight _ _ => s

/-! ## Accesses in flight of one ring -/

/-- Whether an access is a live record write of a ring at an index. -/
def InFlight.isLiveRecord (r : Fin 4) (i : Idx) (a : InFlight) : Bool := a.what == .record r i .live

/-- Whether an access is a record or producer word write of a ring, with its life. -/
def InFlight.ringLife (r : Fin 4) (a : InFlight) : Option Life :=
  match a.what with
  | .record q _ l => if q = r then some l else none
  | .prodWord q _ l => if q = r then some l else none
  | .fwdRead _ | .fwdWrite _ | .posted _ | .ringHeader _ | .result _ | .header _ => none

/-- The index of a live record write of a ring. -/
def InFlight.liveIndex (r : Fin 4) (a : InFlight) : Option Idx :=
  match a.what with
  | .record q i .live => if q = r then some i else none
  | _ => none

/-- The value of a live producer word write of a ring. -/
def InFlight.liveValue (r : Fin 4) (a : InFlight) : Option Idx :=
  match a.what with
  | .prodWord q v .live => if q = r then some v else none
  | _ => none

def AccessFor.isProdWord (r : Fin 4) : AccessFor → Bool
  | .prodWord q _ _ => q = r
  | _ => false

/-- A live record write of a ring, at any index. -/
def AccessFor.isRecordOf (r : Fin 4) : AccessFor → Bool
  | .record q _ .live => q = r
  | _ => false

/-- A live producer word write of a ring. -/
def AccessFor.isWordOf (r : Fin 4) : AccessFor → Bool
  | .prodWord q _ .live => q = r
  | _ => false

/-- A record or producer word write of a ring. -/
def AccessFor.isRing (r : Fin 4) : AccessFor → Bool
  | .record q _ _ => q = r
  | .prodWord q _ _ => q = r
  | _ => false

/-- A ring's write in another life. -/
def AccessFor.withLife (l : Life) : AccessFor → AccessFor
  | .record r i _ => .record r i l
  | .prodWord r v _ => .prodWord r v l
  | a => a

/-- The ring writes in flight that satisfy `q` go on in another life. -/
def State.relive (q : AccessFor → Bool) (l : Life) (s : State) : State :=
  s.modPath (fun p => { p with down := p.down.map (fun a => if q a.what then { a with what := a.what.withLife l } else a) })

/-! ## Rings that stop or are reset (R35, R185) -/

/-- R35, R170: the IN_FLIGHT report of the REPORT ring is discarded, and a deferred close is performed. -/
def State.dropReport (s : State) : State :=
  match s.tally.slot with
  | .inFlight _ .accept => (s.modTally (fun t => { t with slot := .empty })).performDeferred
  | _ => s

/-- What follows a change of a ring's state or staging: the Grader tests its waiting row (R152). -/
def State.ringChanged (r : Fin 4) (s : State) : State := if r = plateRing then s.testWaiting else s

/-- R35: the indices and staging of a ring that stops. That the discarded-record count holds at 2^32 - 1 is the model's choice
(log 54). -/
def Ring.stop (g : Ring) : Ring :=
  { g with state := .stopped, accepted := [], staging := g.staging.filter (fun e => e.issued.isNone),
           discarded := satAdd Config.max32 g.discarded (Idx.ahead g.issue g.published) }

/-- R35: MEM_ERROR with the downstream address and the source. -/
def State.memError (addr : Addr) (source : Nat) (s : State) : State := s.raise .memError addr.toNat source

/-- R35: a ring becomes STOPPED at an error answered to a write of its own, and MEM_ERROR and RING_STOPPED are raised. The
answers to its records in flight no longer count; that to a producer word write does (R34). -/
def State.stopRing (r : Fin 4) (addr : Addr) (source : Nat) (s : State) : State :=
  let s1 := (((s.relive (AccessFor.isRecordOf r) .stopped).modRing r Ring.stop).memError addr source).raise .ringStopped
    r.val s.rings[r].written.toNat
  (if r = reportRing then s1.dropReport else s1).ringChanged r

/-- R185: what RING_RESET leaves of a ring. That the discarded-record count holds at 2^32 - 1 is the model's choice (log 54).
-/
def Ring.reset (r : Fin 4) (g : Ring) : Ring :=
  { Ring.initial with
    discarded := if r = reportRing then g.discarded else satAdd Config.max32 g.discarded g.staging.length }

/-- R185: an IN_FLIGHT report will wait again. -/
def ReportSlot.waitAgain : ReportSlot → ReportSlot
  | .inFlight r .accept => .inFlight r .wait
  | x => x

/-- R185: RING_RESET acts on a ring, and the answers to its writes in flight are discarded. That an error among them raises no
MEM_ERROR, also where the ring had been STOPPED before, is the model's choice (log 43). -/
def State.resetRing (r : Fin 4) (s : State) : State :=
  if s.rings[r].state = .unset then s
  else
    let s1 := (s.relive (AccessFor.isRing r) .discarded).modRing r (Ring.reset r)
    (if r = reportRing then s1.modTally (fun t => { t with slot := t.slot.waitAgain }) else s1).ringChanged r

/-- R184: a ring takes its new settings, and the zeroes of its header words are written. The answer to a producer word
write of the ring as it stood before no longer counts (log 20). -/
def State.setupRing (r : Fin 4) (base capacity notify : Nat) (s : State) : State :=
  ((s.relive (AccessFor.isWordOf r) .stopped).modRing r (fun g =>
    { g with base := base, capacity := capacity, notify := notify, issue := 0, published := 0, written := 0, consumer := 0,
             accepted := [] })).issueWrite (.ringHeader r) (BitVec.ofNat 40 base) (List.replicate 8 0)

/-- R184: memory has answered the header write; the ring is RUNNING and the command is answered. -/
def State.headerAnswered (r : Fin 4) (s : State) : State :=
  (((s.landAll (fun a => a.what == .ringHeader r)).modRing r (fun g => { g with state := .running })).ringChanged r
    ).finish .ok false

/-! ## The write-back (R176, R177) -/

/-- The oldest header write in flight, with its purpose. -/
def State.headerInFlight (s : State) : Option (Nat × HeaderFor) :=
  s.path.down.findSome? (fun a => match a.what with
    | .header w => some (a.serial, w)
    | _ => none)

/-- R176: CMD_DONE for the NOTIFY command whose first slot is `first`, once no write of its result is in flight. Its first
argument is the slot index of the first slot (10.1, 11.3, log 9). -/
def State.raiseDone (first : Idx) (s : State) : State :=
  if s.path.down.any (fun a => a.what == .result first) then s
  else
    ((s.cp.notify.filter (fun n => n.first = first)).foldl (fun s n => s.raise .cmdDone n.first.toNat n.code.code) s).modCp
      (fun c => { c with notify := c.notify.filter (fun n => n.first ≠ first) })

/-- R176, R177: memory answers a result write OKAY. -/
def State.resultAnswered (serial : Nat) (first : Idx) (s : State) : State :=
  (((s.landed serial).raiseDone first)).writeBackIfDue

/-- R177: the held producer write with a serial number is released. -/
def State.releaseHeld (serial : Option Nat) (s : State) : State :=
  match s.path.hold, serial with
  | some h, some n => if h.producer && h.serial == n then s.forwardHeldProducer else s
  | _, _ => s

/-- R177, step 3: a header write is over. -/
def State.headerDone (serial : Nat) (why : HeaderFor) (s : State) : State :=
  let s1 := s.landed serial
  match why with
  | .initial => s1
  | .faultAck => s1
  | .writeBack hold => s1.releaseHeld hold

/-! ## Memory errors (R35) -/

/-- Whether the Command Processor is due to read a slot (R175): not in FAULT, slots announced, no command unfinished,
every upstream write forwarded ahead answered, no write-back due or under way (log 10). -/
def State.slotDue (s : State) : Bool :=
  s.cp.stage != .fault && s.cp.dispatched.isNone && s.cp.backDue.isNone && 1 ≤ s.cp.announced && s.cp.announced ≤ Config.slotCount
    && !s.path.down.any (fun a => match a.what with
      | .fwdWrite _ => a.serial < s.cp.barrier
      | .posted _ => a.serial < s.cp.barrier
      | .header (.writeBack _) => true
      | .header .initial | .header .faultAck | .fwdRead _ | .record _ _ _ | .prodWord _ _ _ | .ringHeader _
      | .result _ => false)

/-- R35: every error response is counted. -/
def State.countError (s : State) : State := s.count (fun c => { c with memErrors := inc32 c.memErrors })

/-- R35: the error answered to a ring's write of a life; `source` is 1 for a record and 2 for a producer word. A ring that
is STOPPED already is not stopped again. -/
def State.ringError (r : Fin 4) (life : Life) (a : InFlight) (source : Nat) (s : State) : State :=
  match life with
  | .live => if s.rings[r].state = .running then s.stopRing r a.addr source else s.memError a.addr source
  | .stopped => s.memError a.addr source
  | .discarded => s

/-- R35, R177, R184: the access that memory answers with an error. A result that is not in memory raises no CMD_DONE
(log 9). -/
def State.accessError (a : InFlight) (s : State) : State :=
  let s1 := (s.landed a.serial).countError
  match a.what with
  | .fwdRead axi => s1.answer { axi := axi, read := true, okay := false, data := [] }
  | .fwdWrite axi => s1.answer { axi := axi, read := false, okay := false, data := [] }
  | .posted _ => s1.memError a.addr 0
  | .record r _ life => s1.ringError r life a 1
  | .prodWord r _ life => s1.ringError r life a 2
  | .ringHeader r => (s1.stopRing r a.addr 2).finish .ok false
  | .result first =>
    ((s1.memError a.addr 4).modCp (fun c =>
      { c with notify := c.notify.filter (fun n => n.first ≠ first) })).writeBackIfDue
  | .header why => (s1.memError a.addr 4).headerDone a.serial why

/-- R177: the read of the next slot is answered with an error. -/
def State.slotReadError (s : State) : State :=
  ((s.countError).memError (s.slotAddr s.cp.consumer) 3).chainFault .readError []

/-! ## The rows -/

/-- MEM_ERROR (R35). -/
def execMemError (at_ : ErrorAt) (s : State) : Host.Outcome State Fault Refusal :=
  match at_ with
  | .slotRead => if s.slotDue then .next s.slotReadError else .next s
  | .access serial =>
    match s.inFlight serial with
    | some a => .next (s.accessError a)
    | none => .next s

/-- FORWARDED_RESPONSE (R28, R30, R176, R177): memory answers a forwarded access OKAY; the answer of a posted write goes no
further. The table has no row for the OKAY answer to a result write, so this row stands for it too (log 41). -/
def execForwardedResponse (serial : Nat) (data : List Byte) (s : State) : Host.Outcome State Fault Refusal :=
  match s.inFlight serial with
  | none => .next s
  | some a =>
    match a.what with
    | .fwdRead axi => .next ((s.landed serial).answer { axi := axi, read := true, okay := true, data := data })
    | .fwdWrite axi => .next ((s.landed serial).answer { axi := axi, read := false, okay := true, data := [] })
    | .posted _ => .next (s.landed serial)
    | .result first => .next (s.resultAnswered serial first)
    | .record _ _ _ | .prodWord _ _ _ | .ringHeader _ | .header _ => .next s

/-- RECORD_ISSUE (R34, R169). -/
def execRecordIssue (ring : Fin 4) (s : State) : Host.Outcome State Fault Refusal :=
  if s.rings[ring].state = .running ∧ s.rings[ring].hasRoom then
    if ring = reportRing then .next s.issueReport else .next (s.issueRecord ring)
  else .next s

/-- RECORD_ACCEPTED (R34): a FLAW, PLATE or EVENT record; a report's acceptance is REPORT_ACCEPTED. -/
def execRecordAccepted (ring : Fin 4) (index : Idx) (s : State) : Host.Outcome State Fault Refusal :=
  if ring ≠ reportRing ∧ s.path.down.any (InFlight.isLiveRecord ring index) then
    .next (((s.landAll (InFlight.isLiveRecord ring index)).modRing ring (Ring.accept index)).ringChanged ring)
  else .next s

/-- PRODUCER_WORD_WRITE (R34). -/
def execProducerWordWrite (ring : Fin 4) (s : State) : Host.Outcome State Fault Refusal :=
  let g := s.rings[ring]
  if g.state = .running ∧ g.published ≠ g.written ∧ !s.path.down.any (fun a => a.what.isProdWord ring) then
    .next (s.issueWrite (.prodWord ring g.published .live) (BitVec.ofNat 40 g.base) (toBytes 4 g.published.toNat))
  else .next s

/-- R34, R192: the producer written takes a value, and RING_READY is judged. -/
def State.wordAnswered (ring : Fin 4) (v : Idx) (s : State) : State :=
  let g := s.rings[ring]
  let before := Idx.ahead g.written g.consumer
  let after := Idx.ahead v g.consumer
  (s.modRing ring (fun g => { g with written := v })).raiseIf (g.notify ≤ after && before < g.notify) .ringReady ring.val
    after

/-- PRODUCER_WORD_ANSWERED (R34, R192). -/
def execProducerWordAnswered (ring : Fin 4) (s : State) : Host.Outcome State Fault Refusal :=
  match s.path.down.findSome? (InFlight.liveValue ring) with
  | some v => .next ((s.landAll (fun a => (a.liveValue ring).isSome)).wordAnswered ring v)
  | none => .next s

/-- REPORT_ACCEPTED (R34, R169, R170). -/
def execReportAccepted (s : State) : Host.Outcome State Fault Refusal :=
  match s.tally.slot, s.path.down.findSome? (InFlight.liveIndex reportRing) with
  | .inFlight _ .accept, some i =>
    let s1 := (s.landAll (InFlight.isLiveRecord reportRing i)).modRing reportRing (Ring.accept i)
    .next ((s1.modTally (fun t => { t with slot := .empty, written := inc32 t.written })).performDeferred)
  | _, _ => .next s

/-- WRITE_BACK_DONE (R177, R174, R180): memory answers the oldest header write. -/
def execWriteBackDone (s : State) : Host.Outcome State Fault Refusal :=
  match s.headerInFlight with
  | some (serial, why) => .next (s.headerDone serial why)
  | none => .next s

/-- RING_HEADER_WRITTEN (R184). -/
def execRingHeaderWritten (s : State) : Host.Outcome State Fault Refusal :=
  match s.cp.wait with
  | some (.header r) => .next (s.headerAnswered r)
  | _ => .next s

/-- R185, R173: what becomes of the report whose bursts are complete, their answers discarded. -/
def State.reportBurstsOver (s : State) : State :=
  match s.tally.slot with
  | .inFlight r .wait => (s.modTally (fun t => { t with slot := .waiting r })).performDeferred
  | .inFlight _ .drop => (s.modTally (fun t => { t with slot := .empty })).performDeferred
  | _ => s

/-- IN_FLIGHT_BURSTS_COMPLETE (R37, R185, R173): the discarded writes of a ring complete. -/
def execInFlightBurstsComplete (ring : Fin 4) (s : State) : Host.Outcome State Fault Refusal :=
  let s1 := s.landAll (fun a => match a.ringLife ring with
    | some .stopped => true
    | some .discarded => true
    | some .live => false
    | none => false)
  .next (if ring = reportRing then s1.reportBurstsOver else s1)

end Sys2Proof.Machine
end

