-- ==== Sys2Proof/Machine/FinalGrading.lean ====
section
/-! DEFINITION. The final grading of a row and the retirement of rows (07, section 7.6; 05, R115, R116). -/

namespace Sys2Proof.Machine

/-! ## The boundaries of a row (R142) -/

/-- R142: the actual line range of a row. -/
def Row.actualStart (r : Row) : Nat := boundaryLine r.start r.leading
def Row.actualStop (r : Row) : Nat := boundaryLine r.stop r.trailing

/-- R142: either cut that the row holds is MISSED, or SCORED with OFFSET. -/
def Row.anyMissed (r : Row) : Bool := cutMissed r.leading || cutMissed r.trailing
def Row.anyOffset (r : Row) : Bool := cutOffset r.leading || cutOffset r.trailing

/-! ## Grades and outcomes (R153) -/

/-- R153, step 1: the final grading of one lane. -/
def State.gradeFinal (s : State) (c : Campaign) (row : Row) (lane : Lane) (l : LanePlate) : PlateResult :=
  gradePlate s.grader.table s.map (rectOf s.lp s.ing.pp c lane row.actualStart row.actualStop) c.cap l.unsealed
    row.anyMissed row.extremes

/-- R153, step 3: the outcome of one lane. -/
def State.laneOutcome (s : State) (l : LanePlate) (g : Grade) : State × OutcomeKind :=
  match l.order with
  | some id => s.settle id g
  | none => (s, .spare)

/-- R153, step 3: each lane's report is applied before the next lane's. -/
def State.outcomes (s : State) : List (LanePlate × PlateResult) → State × List OutcomeKind
  | [] => (s, [])
  | (l, g) :: rest =>
    let o := s.laneOutcome l g.grade
    let os := State.outcomes o.1 rest
    (os.1, o.2 :: os.2)

/-! ## Records (R154, R155) -/

/-- What a lane brings to its record. -/
structure LaneFinal where
  index : Nat
  plate : LanePlate
  lane : Lane
  result : PlateResult
  outcome : OutcomeKind
deriving DecidableEq, Repr

def LaneFinal.regraded (x : LaneFinal) : Bool :=
  match x.plate.provisional with
  | some g => g ≠ x.result.grade
  | none => false

/-- R154: the plate record of a lane. -/
def plateRecord (row : Row) (num : Nat) (day : BitVec 16) (tod : Nat) (x : LaneFinal) : PlateRec :=
  { num := num, row := row.num, lane := some x.index, kind := .plate, order := x.plate.order, start := row.start,
    stop := row.stop, actualStart := row.actualStart, actualStop := row.actualStop, provisional := x.plate.provisional,
    grade := some x.result.grade, score := x.result.score, flaws := x.result.flaws, fatal := x.result.fatal,
    flags := { uninspected := x.result.uninspected, mapFull := x.result.mapFull, unsealed := x.plate.unsealed,
               cutMissed := row.anyMissed, cutOffset := row.anyOffset, edgeShort := x.result.edgeShort,
               regraded := x.regraded, reassigned := x.plate.reassigned, shifted := 0 < row.shifts },
    outcome := x.outcome, day := day, tod := tod }

/-- R155: the distinct flaws attributed to any lane's columns over the row's lines. -/
def culletFlaws (m : FlawMap) (lanes : List Lane) (start stop : Nat) : Nat :=
  if stop ≤ start then 0
  else min Config.max16 (m.flaws.filter (fun f =>
    f.first < stop && start ≤ f.last && lanes.any (fun l => f.c0 ≤ l.last && l.first ≤ f.c1))).length

/-- R155: the record of a cullet row. -/
def culletRecord (row : Row) (c : Campaign) (m : FlawMap) (num : Nat) (day : BitVec 16) (tod : Nat) : PlateRec :=
  let kinds := if row.actualStop ≤ row.actualStart then [] else m.spanQuery row.actualStart row.actualStop
  { num := num, row := row.num, lane := none, kind := row.kind, order := none, start := row.start, stop := row.stop,
    actualStart := row.actualStart, actualStop := row.actualStop, provisional := none, grade := none, score := 0,
    flaws := culletFlaws m c.lanes row.actualStart row.actualStop, fatal := 0,
    flags := { uninspected := kinds.any SpanKind.uninspected, mapFull := kinds.any SpanKind.isMapFull,
               unsealed := row.unsealed, cutMissed := row.anyMissed, cutOffset := row.anyOffset, edgeShort := false,
               regraded := false, reassigned := false, shifted := false },
    outcome := .cullet, day := day, tod := tod }

/-- R156: a record joins PLATE staging, or none is requested while the ring is UNSET. The number is taken all the same
(R154). -/
def State.placePlate (p : PlateRec) (s : State) : State :=
  let s1 := s.modGrader (fun g => { g with nextPlate := nextNumber g.nextPlate })
  if s.rings[plateRing].state = .unset then s1
  else s1.modRing plateRing (fun g => { g with staging := g.staging ++ [{ record := .plate p, issued := none }] })

def Lane.cols (l : Lane) : Nat := l.last + 1 - l.first

/-- R154, R156: one plate: its record, its report to the Tally Unit, its counts. -/
def State.finishPlate (row : Row) (s : State) (x : LaneFinal) : State :=
  let s1 := s.placePlate (plateRecord row s.grader.nextPlate s.pos.day s.pos.tod x)
  let s2 := s1.tallied (Tallies.plate x.result.grade x.outcome ((row.actualStop - row.actualStart) * x.lane.cols))
  s2.modGrader (fun g =>
    { g with counters := { g.counters with
               plates := inc32 g.counters.plates,
               regraded := if x.regraded then inc32 g.counters.regraded else g.counters.regraded } })

/-- R157: PLATE_REJECT for a plate with its number. -/
def State.rejectEvent (row : Row) (s : State) (p : LaneFinal × Nat) : State :=
  if p.1.result.grade = .reject then
    (s.raise .plateReject p.2 row.num).modGrader (fun g =>
      { g with counters := { g.counters with rejects := inc32 g.counters.rejects } })
  else s

/-- The plate numbers that follow a number. -/
def numbersFrom (n : Nat) : Nat → List Nat
  | 0 => []
  | k + 1 => n :: numbersFrom (nextNumber n) k

/-- R153 to R157 for a plate row. -/
def State.gradePlateRow (row : Row) (c : Campaign) (s : State) : State :=
  let pairs := (row.lanes.zip c.lanes).map (fun (l, lane) => (l, lane, s.gradeFinal c row lane l))
  let o := s.outcomes (pairs.map (fun (l, _, g) => (l, g)))
  let finals := (pairs.zip o.2).zipIdx.map (fun (((l, lane, g), k), i) =>
    { index := i, plate := l, lane := lane, result := g, outcome := k : LaneFinal })
  let placed := finals.foldl (State.finishPlate row) o.1
  (finals.zip (numbersFrom s.grader.nextPlate finals.length)).foldl (State.rejectEvent row) placed

/-- R155, R156 for a cullet row. -/
def State.gradeCulletRow (row : Row) (c : Campaign) (s : State) : State :=
  let lines := row.actualStop - row.actualStart
  let s1 := s.placePlate (culletRecord row c s.map s.grader.nextPlate s.pos.day s.pos.tod)
  (s1.tallied (Tallies.cullet lines (lines * ((c.lanes.map Lane.cols).sum)))).modGrader (fun g =>
    { g with counters := { g.counters with cullet := inc32 g.counters.cullet } })

/-! ## Retirement (R93, R116) -/

/-- R93: a DRAINING slot without a row becomes NONE. -/
def Planner.freeSlot (i : Fin 2) (p : Planner) : Planner :=
  match p.slots[i] with
  | .draining _ => if p.rows.any (fun r => r.slot = i) then p else { p with slots := p.slots.set i .none }
  | .none => p
  | .active _ => p

/-- R116: the FINAL rows at the head of the table retire in turn. -/
def State.retireLoop : Nat → State → State
  | 0, s => s
  | fuel + 1, s =>
    match s.plan.rows with
    | r :: rest =>
      if r.state = .final then
        State.retireLoop fuel (((s.modPlan (fun p =>
          ({ p with rows := rest, counters := { p.counters with retired := inc32 p.counters.retired } } : Planner).freeSlot
            r.slot |>.tidyCarried)).giveRetire).runPlanning)
      else s
    | [] => s

/-- R115, R153 step 5: the row is done: it becomes FINAL, rows retire, and the next CUT row is handed on. -/
def State.rowDone (num : Nat) (s : State) : State :=
  let s1 := (s.modGrader (fun g => { g with waiting := none, stagingFull := false })).modPlan (fun p =>
    { p with rows := p.rows.map (fun r => if r.num = num then { r with state := .final } else r) })
  (State.retireLoop Config.rowMax s1).handToGrader

/-- R153: the final grading of the waiting row. A row whose campaign is gone cannot be in the table (R89). -/
def State.gradeRow (row : Row) (s : State) : State :=
  match s.campaignOf row.slot with
  | none => s
  | some c => (if row.kind = .plate then s.gradePlateRow row c else s.gradeCulletRow row c).rowDone row.num

/-- R152: the waiting row is tested, and graded when its records have room. -/
def State.finalGrading (w : Waiting) (s : State) : State :=
  if s.plateRoom w.need then
    match s.plan.rows.find? (fun r => r.num = w.row) with
    | some row => s.gradeRow row
    | none => s
  else s.testWaiting

/-- FINAL_GRADING (R152 to R157, R116). -/
def execFinalGrading (s : State) : Host.Outcome State Fault Refusal :=
  match s.grader.waiting with
  | some w => .next (s.finalGrading w)
  | none => .next s

end Sys2Proof.Machine
end

