-- ==== Sys2Proof/Machine/Operands.lean ====
section
/-! DEFINITION. What the payloads of the commands hold (11, section 11.2), and the checks that the commands make of them
in the order their rules give. A check answers the code of the first failure, and none when all hold. -/

namespace Sys2Proof.Machine

/-- The first check that fails decides the result. -/
def firstFailure : List (Bool × ResultCode) → Option ResultCode
  | [] => none
  | (ok, code) :: rest => if ok then firstFailure rest else some code

def within (lo hi x : Nat) : Bool := lo ≤ x && x ≤ hi

/-! ## BIND (R24, R181) -/

/-- The low 12 bits of an address. -/
def lowPage (a : Addr) : Nat := a.toNat % Config.pageSize

/-- The code of the window kind of entry `e` (1 to 15). -/
def bindKind (p : List Byte) (e : Nat) : Option WinKind := WinKind.ofCode (byteAt p ((e - 1) * 18 + 1))

/-- 11.2: entry `e` of BIND. A kind code that names no kind has failed its check before the entry is used. Bits 2 to 7 of its
first byte are ignored (log 61). -/
def bindEntry (p : List Byte) (e : Nat) : WinEntry :=
  let o := (e - 1) * 18
  { enable := bit (byteAt p o) 0, translate := bit (byteAt p o) 1, kind := (bindKind p e).getD .pass,
    camera := byteAt p (o + 2), base := BitVec.ofNat 40 (field p (o + 3) 5), mask := BitVec.ofNat 40 (field p (o + 8) 5),
    target := BitVec.ofNat 40 (field p (o + 13) 5) }

def bindHold (p : List Byte) : Nat := field p 0x10E 2

/-- The table that BIND would load, entry 0 standing. -/
def bindTable (zero : WinEntry) (p : List Byte) : Vector WinEntry 16 :=
  Vector.ofFn (fun i => if i.val = 0 then zero else bindEntry p i.val)

def WinEntry.isCapture (e : WinEntry) : Bool := e.enable && e.kind == .capture
def WinEntry.isLive (e : WinEntry) : Bool := e.enable && e.kind == .live

/-- R24: two entries overlap. -/
def WinEntry.overlaps (a b : WinEntry) : Bool := ((a.base ^^^ b.base) &&& a.mask &&& b.mask) == 0

/-- The pairs of places of the table, the lower number first. -/
def entryPairs : List (Fin 16 × Fin 16) :=
  (List.finRange 16).flatMap (fun j => ((List.finRange 16).filter (fun i => i < j)).map (fun i => (i, j)))

/-- R24, R181: the checks of BIND. -/
def bindCheck (zero : WinEntry) (p : List Byte) : Option ResultCode :=
  let t := bindTable zero p
  let es := (t.toList).tail
  firstFailure
    [(1 ≤ bindHold p, .range),
     ((List.range 15).all (fun i => match bindKind p (i + 1) with
        | some .capture | some .live | some .pass => true
        | some .control | none => false), .range),
     (es.all (fun e => e.kind != .capture || e.camera ≤ 7), .range),
     (es.all (fun e => lowPage e.mask = 0), .range),
     (es.all (fun e => (e.base &&& ~~~e.mask) == 0 && (!e.translate || (e.target &&& ~~~e.mask) == 0)), .range),
     (entryPairs.all (fun (i, j) => !(t[i].isCapture && t[j].isCapture && t[i].camera == t[j].camera)), .conflict),
     (entryPairs.all (fun (i, j) =>
        !((t[j].isCapture || t[j].isLive) && t[i].enable && t[i].overlaps t[j])), .conflict)]

/-! ## GEOMETRY (R5, R38) -/

def geoE (p : List Byte) : Nat := byteAt p 0x00
def geoDirection (p : List Byte) : Nat := byteAt p 0x01
def geoDv (p : List Byte) : Nat := field p 0x02 2
def geoStallTens (p : List Byte) : Nat := byteAt p 0x04
def geoPp (p : List Byte) : Nat := field p 0x06 2

/-- R38: the capture hold limit; 0 means not given. -/
def geoHold (p : List Byte) : Nat := if byteAt p 0x05 = 0 then Config.captureHoldDefault else byteAt p 0x05

/-- 11.2: the entry of camera `c`. -/
def geoCam (p : List Byte) (c : Fin 8) : CamSettings :=
  let o := 0x08 + c.val * 16
  { enable := byteAt p o = 1, width := field p (o + 2) 2, first := field p (o + 4) 2, last := field p (o + 6) 2,
    offset := field p (o + 8) 2, slots := field p (o + 10) 2, stride := field p (o + 12) 4 }

def geoCams (p : List Byte) : Vector CamSettings 8 := Vector.ofFn (geoCam p)

/-- R38: the ranges and relations of a camera entry. -/
def CamSettings.ok (c : CamSettings) : Bool :=
  within 512 4096 c.width && c.width % 64 = 0 && c.first ≤ c.last && c.last + 1 ≤ c.width
    && c.offset + (c.last - c.first) ≤ 32767 && within 4 256 c.slots && c.stride % 64 = 0 && c.width ≤ c.stride

/-- R38: the size of a window, taken over 40 bits. -/
def WinEntry.size (e : WinEntry) : Nat := (~~~e.mask).toNat + 1

/-- R38: an enabled camera has its CAPTURE window, and its ring fits into it. -/
def camWindowOk (t : Vector WinEntry 16) (i : Fin 8) (c : CamSettings) : Bool :=
  match t.toList.find? (fun e => e.isCapture && e.camera == i.val) with
  | some e => c.slots * c.stride ≤ e.size
  | none => false

/-- R38: the used ranges of the enabled cameras ascend and are disjoint. -/
def ascending : List (Nat × Nat) → Bool
  | a :: b :: rest => a.2 < b.1 && ascending (b :: rest)
  | _ => true

/-- R38: the enabled cameras of a geometry, in ascending number. -/
def geoEnabled (p : List Byte) : List (Fin 8) := (List.finRange 8).filter (fun i => (geoCam p i).enable)

/-- R5, R38: the checks of GEOMETRY on its payload, against the window table (log 17). -/
def geoCheck (t : Vector WinEntry 16) (p : List Byte) : Option ResultCode :=
  let on := geoEnabled p
  firstFailure
    [(within 1 100 (geoE p) && geoDirection p ≤ 1 && within 1 1024 (geoDv p) && 1 ≤ geoStallTens p
        && within 20 2000 (geoE p * geoDv p), .range),
     (within 20 400 (geoPp p), .range),
     ((List.finRange 8).all (fun i => byteAt p (0x08 + i.val * 16) ≤ 1 && (geoCam p i).ok), .range),
     (!on.isEmpty, .range),
     (on.all (fun i => camWindowOk t i (geoCam p i)), .range),
     (ascending (on.map (fun i => ((geoCam p i).offset, (geoCam p i).lastCol))), .conflict)]

/-! ## DETECT (R60) -/

/-- A search range, present by its bit; the other bits of byte 0x10 are ignored (log 61). -/
def detectRange (p : List Byte) (i o : Nat) : Option (Nat × Nat) :=
  if bit (byteAt p 0x10) i then some (field p o 2, field p (o + 2) 2) else none

/-- 11.2: the parameters of DETECT. -/
def detectOf (p : List Byte) : Detect :=
  { learnLines := field p 0x00 2, alpha := byteAt p 0x02, beta := byteAt p 0x03, k := byteAt p 0x04, tmin := byteAt p 0x05,
    initNoise := field p 0x06 2, floodFraction := byteAt p 0x08, edgeLevel := byteAt p 0x09, edgeGuard := byteAt p 0x0A,
    gc := byteAt p 0x0B, lg := byteAt p 0x0C, lmax := field p 0x0E 2, left := detectRange p 0 0x12,
    right := detectRange p 1 0x16 }

/-- R60: a search range is ordered and lies within the used range of one enabled camera. -/
def Ingest.rangeOk (g : Ingest) (r : Option (Nat × Nat)) : Bool :=
  match r with
  | none => true
  | some x => x.1 ≤ x.2 && (g.sideCamera (some x)).isSome

/-- R60: the range check of DETECT. -/
def Detect.ok (g : Ingest) (d : Detect) : Bool :=
  within 16 1024 d.learnLines && within 1 10 d.alpha && within 1 10 d.beta && 16 ≤ d.k && within 1 64 d.tmin
    && d.initNoise ≤ 65280 && 1 ≤ d.floodFraction && d.gc ≤ 7 && within 1 15 d.lg && within 64 4096 d.lmax
    && g.rangeOk d.left && g.rangeOk d.right
    && (match d.left, d.right with
        | some l, some r => l.2 < r.1
        | _, _ => true)

/-! ## CLASSIFY (R74) -/

def classifyOf (p : List Byte) : ClassParams :=
  { large := field p 0x00 4, scratch := byteAt p 0x04, stone := byteAt p 0x05,
    bounds := Vector.ofFn (fun i => field p (0x06 + 2 * i.val) 2) }

/-- Strictly ascending. -/
def rising : List Nat → Bool
  | a :: b :: rest => a < b && rising (b :: rest)
  | _ => true

def ClassParams.ok (c : ClassParams) : Bool :=
  within 100 1000000 c.large && 17 ≤ c.scratch && 1 ≤ c.stone && 1 ≤ c.bounds[0] && rising c.bounds.toList

/-! ## GRADE_TABLE (R141) -/

def gradeTableOf (p : List Byte) : GradeTable :=
  { weights := Vector.ofFn (fun i => byteAt p i.val), fatal := BitVec.ofNat 40 (field p 0x28 5), ta := field p 0x2E 2,
    tb := field p 0x30 2, tc := field p 0x32 2, edgeFactor := byteAt p 0x2D }

def GradeTable.check (t : GradeTable) : Option ResultCode :=
  firstFailure [(t.edgeFactor ≤ 4, .range), (t.ta ≤ t.tb && t.tb ≤ t.tc, .range)]

/-! ## CAMPAIGN_BEGIN (R90) -/

/-- The distances in mm: 0 gc, 1 lead, 2 minimum cut spacing, 3 strip maximum, 4 clearance, 5 start gap, 6 plan ahead,
7 spare length, 8 cut tolerance, 9 score late, 10 edge band. -/
def campMm (p : List Byte) (i : Nat) : Nat := field p (0x14 + 2 * i) 2

/-- R194: lanes beyond the count are ignored. -/
def campLanes (p : List Byte) : List Lane :=
  (List.range (min 4 (byteAt p 0x00))).map (fun i =>
    { first := field p (0x04 + 4 * i) 2, last := field p (0x06 + 4 * i) 2 })

/-- R90: the relations of a campaign's settings, in millimetres. -/
def campRelations (p : List Byte) : Bool :=
  within 1 4 (byteAt p 0x00) && (campLanes p).all (fun l => l.first ≤ l.last && l.last ≤ 32767)
    && within 2000 60000 (campMm p 0) && within 200 10000 (campMm p 1) && campMm p 1 < campMm p 0
    && within 100 2000 (campMm p 2) && within 50 2000 (campMm p 3) && campMm p 4 ≤ 500 && campMm p 5 ≤ 20000
    && campMm p 5 < campMm p 6 && within 1000 30000 (campMm p 6) && within 200 9000 (campMm p 7)
    && campMm p 2 ≤ campMm p 7 && within 1 50 (campMm p 8) && 8 * campMm p 8 ≤ campMm p 2
    && within 100 5000 (campMm p 9) && campMm p 10 ≤ 200 && within 1 3 (byteAt p 0x02)

/-- R90: the relation of lead and gc in lines. -/
def campLeadOk (lp : Nat) (p : List Byte) : Bool := mmToLines lp (campMm p 1) < mmToLines lp (campMm p 0)

/-- R90: the campaign, its distances converted with the line pitch in effect. Bits 2 to 7 of byte 0x01 are ignored (log 61). -/
def campaignFrom (lp : Nat) (p : List Byte) : Campaign :=
  let ln (i : Nat) : Nat := mmToLines lp (campMm p i)
  { lanes := campLanes p, gc := ln 0, lead := ln 1, minCut := ln 2, strip := ln 3, clearance := ln 4, startGap := ln 5,
    planAhead := ln 6, spare := ln 7, tolerance := ln 8, scoreLate := ln 9, commitOffset := ln 0 - ln 1,
    avoidShift := bit (byteAt p 0x01) 0, avoidReassign := bit (byteAt p 0x01) 1,
    cap := (Grade.ofCode (byteAt p 0x02)).getD .reject, edgeBandMm := campMm p 10 }

/-- R90: the checks of CAMPAIGN_BEGIN after STATE and BUSY. -/
def campCheck (lp : Nat) (p : List Byte) : Option ResultCode :=
  firstFailure
    [(campRelations p && campLeadOk lp p, .range),
     (ascending ((campLanes p).map (fun l => (l.first, l.last))), .conflict)]

/-! ## ORDER_ADD (R95) -/

/-- 11.2: whether a fallback is given, and its id. -/
def orderFallback (p : List Byte) : Option Nat := if bit (byteAt p 0x09) 1 then some (field p 0x0A 2) else none

/-- R95: the order as it enters the book, its length converted with the line pitch in effect. Bits 2 to 7 of byte 0x09 are
ignored (log 61). -/
def orderFrom (lp : Nat) (p : List Byte) : Order :=
  { id := field p 0x00 2, laneMask := BitVec.ofNat 4 (byteAt p 0x02), length := mmToLines lp (field p 0x04 2),
    requested := field p 0x06 2, grade := (Grade.ofCode (byteAt p 0x03)).getD .c, priority := byteAt p 0x08,
    fallback := orderFallback p, endCampaign := bit (byteAt p 0x09) 0, state := .active, made := 0, reserved := 0,
    remaining := field p 0x06 2, planned := 0 }

/-- R94, R95: the ranges of an order's fields. -/
def orderRanges (p : List Byte) : Bool :=
  1 ≤ field p 0x00 2 && within 1 15 (byteAt p 0x02) && within 200 9000 (field p 0x04 2) && 1 ≤ field p 0x06 2
    && byteAt p 0x03 ≤ 2 && byteAt p 0x08 ≤ 7
    && (match orderFallback p with
        | some f => 1 ≤ f
        | none => true)

/-- R95: a given fallback names an order in the book with the same length and lane mask. -/
def fallbackOk (os : List Order) (o : Order) : Bool :=
  match o.fallback with
  | none => true
  | some f => os.any (fun x => x.id = f && x.length = o.length && x.laneMask = o.laneMask)

/-- R95: the checks of ORDER_ADD after STATE. -/
def orderCheck (lp : Nat) (plan : Planner) (p : List Byte) : Option ResultCode :=
  let o := orderFrom lp p
  firstFailure
    [(orderRanges p, .range),
     (match plan.active with
      | some (_, c) => c.minCut ≤ o.length
      | none => true, .range),
     (plan.orders.length < Config.orderMax, .full),
     (!plan.orders.any (fun x => x.id = o.id), .conflict),
     (fallbackOk plan.orders o, .conflict)]

/-- 11.2: the order id of ORDER_CANCEL, ORDER_HOLD and ORDER_RELEASE. -/
def orderId (p : List Byte) : Nat := field p 0x00 2

/-! ## RING_SETUP (R184) -/

def setupBase (p : List Byte) : Nat := field p 0x04 5
def setupCapacity (p : List Byte) : Nat := field p 0x0C 4
def setupNotify (p : List Byte) : Nat := field p 0x10 2

/-- R184: a power of two, 16 to 65,536. -/
def capacityOk (n : Nat) : Bool := [16, 32, 64, 128, 256, 512, 1024, 2048, 4096, 8192, 16384, 32768, 65536].contains n

/-- R184: the end of the ring's memory. -/
def setupEnd (r : Fin 4) (p : List Byte) : Nat := setupBase p + 64 + setupCapacity p * recordSize r

/-- R184, check 4. -/
def setupRelations (r : Fin 4) (p : List Byte) : Bool :=
  capacityOk (setupCapacity p) && 1 ≤ setupNotify p && setupNotify p < setupCapacity p && setupBase p % 64 = 0
    && (r ≠ reportRing || (setupBase p + 64) % 256 = 0) && setupEnd r p ≤ 2 ^ 40

/-- The lowest number of `k` bits, not below `lo`, whose bits under the mask `m` are those of `b`. -/
def lowestMatch (m b : Nat) : Nat → Nat → Option Nat
  | 0, lo => if lo = 0 then some 0 else none
  | k + 1, lo =>
    let low := if (bit m k && bit b k) || 2 ^ k ≤ lo then none else lowestMatch m b k lo
    match low with
    | some x => some x
    | none => if bit m k && !bit b k then none else (lowestMatch m b k (lo - 2 ^ k)).map (· + 2 ^ k)

/-- R184: whether a window shares an address with [lo, hi). -/
def WinEntry.meets (e : WinEntry) (lo hi : Nat) : Bool :=
  match lowestMatch e.mask.toNat e.base.toNat 40 lo with
  | some x => x < hi
  | none => false

/-- Two ranges share an address. -/
def rangesMeet (a b c d : Nat) : Bool := a < d && c < b

/-- R184, check 5. -/
def State.setupFree (s : State) (r : Fin 4) (lo hi : Nat) : Bool :=
  !rangesMeet lo hi s.controlBase.toNat (s.controlBase.toNat + Config.controlSize)
    && !s.path.window.toList.any (fun e => e.isLive && e.meets lo hi)
    && !(List.finRange 4).any (fun q =>
      q ≠ r && s.rings[q].state ≠ .unset && rangesMeet lo hi s.rings[q].base (s.rings[q].areaEnd q))

/-! ## EVENT_SETUP, SHIFT_PLAN, LINK_SETUP (R188, R162, R121) -/

/-- A bit of the 32 kind bytes of EVENT_SETUP, as a mask; bits 4 to 7 of a kind byte are ignored (log 61). -/
def kindMask (p : List Byte) (i : Nat) : BitVec 32 :=
  (List.finRange 32).foldl (fun m k => if bit (byteAt p k.val) i then m ||| (1#32 <<< k.val) else m) 0

def kindRoute (p : List Byte) (k : Fin 32) : Fin 4 := Fin.ofNat 4 (byteAt p k.val / 4)

def lineMode (p : List Byte) (i : Fin 4) : Nat := byteAt p (0x20 + i.val)

/-- R188: every line mode is LEVEL or PULSED. -/
def modesOk (p : List Byte) : Bool := (List.finRange 4).all (fun i => lineMode p i ≤ 1)

/-- R162, R194: the boundaries of a shift plan, those beyond the count ignored. -/
def planOf (p : List Byte) : List Nat := (List.range (min 4 (byteAt p 0x00))).map (fun j => field p (0x04 + 4 * j) 4)

def planOk (p : List Byte) : Bool := byteAt p 0x00 ≤ 4 && (planOf p).all (· ≤ 86399) && rising (planOf p)

/-- R121: the settings of LINK_SETUP, absent ones at their values. -/
def linkOf (p : List Byte) : LinkSettings :=
  { rate := field p 0x00 4, breakLen := byteAt p 0x04, ackTimeout := if byteAt p 0x05 = 0 then 20 else byteAt p 0x05,
    repeats := if byteAt p 0x06 = 0xFF then 1 else byteAt p 0x06 }

def LinkSettings.ok (l : LinkSettings) : Bool :=
  within 9600 1000000 l.rate && within 13 16 l.breakLen && within 1 255 l.ackTimeout && l.repeats ≤ 3

end Sys2Proof.Machine
end

