-- ==== Sys2Proof/Machine/Commands.lean ====
section
/-! DEFINITION. The Command Processor (09): taking slots, the chain stage machine, and the commands but UNBIND. Each
command row acts on the command that SLOT_TAKE dispatched (log 1). -/

namespace Sys2Proof.Machine

/-! ## Taking slots (R175, R178) -/

/-- R176, R183: a command is dispatched: it is counted, its kind and its number of slots are checked, and its owning block
takes it. -/
def State.applyChain (chain : List ChainSlot) (s : State) : State :=
  match chain with
  | [] => s
  | first :: _ =>
    let s1 := s.tallied (fun t => { t with commands := tallyAdd t.commands 1 })
    match CmdKind.ofCode first.kind.toNat with
    | none => s1.answerCommand first.index first.tag chain.length first.notify .unknown false
    | some k =>
      if k.slots = chain.length then
        s1.modCp (fun c =>
          { c with dispatched := some { kind := k, first := first.index, tag := first.tag, slots := chain.length,
                                        notify := first.notify, payload := chain.flatMap (·.payload) } })
      else s1.answerCommand first.index first.tag chain.length first.notify .range false

/-- R177: a write-back when the announced slots have run out. -/
def State.writeBackIfDone (s : State) : State := if s.cp.allTaken then s.writeBack else s

/-- R178: a slot joins the chain buffer. -/
def State.bufferSlot (slot : ChainSlot) (s : State) : State :=
  (s.modCp (fun c => { c with stage := .gather, chain := c.chain ++ [slot] })).writeBackIfDone

/-- R178: the chain stage machine; `chained` is the slot's CHAIN flag. -/
def State.chainStage (slot : ChainSlot) (chained : Bool) (s : State) : State :=
  match s.cp.stage with
  | .fault => s
  | .idle =>
    if slot.kind = contCode then s.chainFault .contInIdle [slot.index]
    else if chained then s.bufferSlot slot
    else s.applyChain [slot]
  | .gather =>
    if slot.kind ≠ contCode then s.chainFault .newInGather [slot.index]
    else if Config.chainMax ≤ s.cp.chain.length then s.chainFault .tooLong [slot.index]
    else if chained then s.bufferSlot slot
    else (s.modCp (fun c => { c with stage := .idle, chain := [] })).applyChain (s.cp.chain ++ [slot])

/-- 11.1: the slot that 64 bytes hold. Bits 2 to 7 of the flags byte are ignored (log 61). -/
def slotFrom (index : Idx) (bytes : List Byte) : ChainSlot :=
  { index := index, kind := bytes.headD 0, tag := field bytes 2 2, notify := bit (byteAt bytes 1) 1,
    payload := bytes.drop 16 }

/-- R175: a slot is taken. -/
def State.takeSlot (bytes : List Byte) (s : State) : State :=
  (s.modCp (fun c => { c with consumer := c.consumer + 1 })).chainStage (slotFrom s.cp.consumer bytes)
    (bit (byteAt bytes 1) 0)

/-- SLOT_TAKE (R175, R178, R183). -/
def execSlotTake (bytes : List Byte) (s : State) : Host.Outcome State Fault Refusal :=
  if bytes.length = Config.slotSize then
    if s.slotDue then .next (s.takeSlot bytes) else .next s
  else .fault .malformedOperand

/-! ## Acting on a dispatched command -/

/-- The dispatched command of a kind, when it has not acted yet, acts with its payload; otherwise the row has no
occasion (log 2). -/
def State.onCommand (k : CmdKind) (act : List Byte → State → State) (s : State) : State :=
  match s.cp.dispatched, s.cp.wait with
  | some c, none => if c.kind = k then act c.payload s else s
  | _, _ => s

/-- The command is answered with a code and changes nothing. -/
def State.answerWith (code : ResultCode) (s : State) : State := s.finish code false

/-- The command is refused where a check has failed, and taken otherwise. -/
def State.unlessFails (check : Option ResultCode) (take : State → State) (s : State) : State :=
  match check with
  | some code => s.answerWith code
  | none => (take s).answerWith .ok

/-- R183: the binding state is tested before any payload field. -/
def State.readyOnly (k : State → State) (s : State) : State := if s.ready then k s else s.answerWith .state

def State.boundOrReady (k : State → State) (s : State) : State :=
  if s.cp.binding = .unbound then s.answerWith .state else k s

/-- A check that answers RANGE. -/
def orRange (ok : Bool) : Option ResultCode := if ok then none else some .range

/-! ## BIND and GEOMETRY (R181) -/

/-- R24, R181: BIND is taken. -/
def State.loadTable (p : List Byte) (s : State) : State :=
  (s.modPath (fun x => { x with window := bindTable x.window[0] p })).modCp (fun c =>
    { c with binding := .bound, holdLimit := bindHold p })

/-- R181: BIND. -/
def State.bind (p : List Byte) (s : State) : State :=
  if s.cp.binding = .unbound then s.unlessFails (bindCheck s.path.window[0] p) (State.loadTable p)
  else s.answerWith .state

def CampSlot.isNone : CampSlot → Bool
  | .none => true
  | .active _ => false
  | .draining _ => false

/-- R181: where GEOMETRY is accepted. -/
def State.geometryAccepted (s : State) : Bool :=
  match s.cp.binding with
  | .unbound => false
  | .bound => true
  | .ready => s.plan.slots.toList.all CampSlot.isNone && s.plan.orders.isEmpty

/-- R5: the Position Unit's part; `entering` says that the part becomes READY. -/
def Position.geometry (p : List Byte) (entering : Bool) (x : Position) : Position :=
  { x with pitchE := geoE p, dv := geoDv p, bLeads := geoDirection p = 1, stallTimeout := geoStallTens p * 10, phase := 0,
           deficit := 0, stallTimer := 0, stallRunning := true, timeStalled := if entering then 0 else x.timeStalled }

/-- R5, R39, R71, R44, R181: GEOMETRY is taken. Blobs are closed under the old pitches first (log 16). -/
def State.takeGeometry (p : List Byte) (s : State) : State :=
  let entering : Bool := s.cp.binding = .bound
  ((((s.flushIngest).modPos (Position.geometry p entering)).newGeometry (geoCams p) (geoPp p) (geoHold p)).modCp (fun c =>
    { c with binding := .ready })).reoffer

/-- R181, R5, R38: GEOMETRY. -/
def State.geometry (p : List Byte) (s : State) : State :=
  if s.geometryAccepted then s.unlessFails (geoCheck s.path.window p) (State.takeGeometry p) else s.answerWith .state

/-! ## Parameters (R60, R74, R141) -/

/-- R60: DETECT. -/
def State.detect (p : List Byte) (s : State) : State :=
  s.readyOnly (fun s => s.unlessFails (orRange ((detectOf p).ok s.ing)) (fun s =>
    s.modIng (fun g => { g with pendingDetect := some (detectOf p) })))

/-- R74: CLASSIFY. -/
def State.classifyCmd (p : List Byte) (s : State) : State :=
  s.readyOnly (fun s => s.unlessFails (orRange (classifyOf p).ok) (fun s =>
    s.modBlobs (fun b => { b with params := classifyOf p })))

/-- R141: GRADE_TABLE. -/
def State.gradeTable (p : List Byte) (s : State) : State :=
  s.readyOnly (fun s => s.unlessFails (gradeTableOf p).check (fun s =>
    s.modGrader (fun g => { g with table := gradeTableOf p })))

/-! ## Campaigns (R90 to R92) -/

/-- R91: the slot that was NONE when the command was taken, the lower-numbered if both were. -/
def Planner.freeCampSlot (p : Planner) : Option (Fin 2) := (List.finRange 2).find? (fun i => p.slots[i].isNone)

/-- R91, R103: CAMPAIGN_BEGIN is taken: the steps of R91 in order, and planning is tested. -/
def State.beginCampaign (i : Fin 2) (p : List Byte) (s : State) : State :=
  let s1 := s.endCampaign.modPlan (fun x =>
    { x with slots := x.slots.set i (.active (campaignFrom s.lp p)), opening := some .change })
  ((((s1.startLearning).requestLanes).fillQueue).giveRetire).runPlanning

/-- R90: CAMPAIGN_BEGIN. -/
def State.campaignBegin (p : List Byte) (s : State) : State :=
  s.readyOnly (fun s =>
    match s.plan.freeCampSlot with
    | none => s.answerWith .busy
    | some i => s.unlessFails (campCheck s.lp p) (State.beginCampaign i p))

/-- R92: CAMPAIGN_END. -/
def State.campaignEnd (s : State) : State :=
  s.readyOnly (fun s => if s.plan.active.isSome then s.endCampaign.answerWith .ok else s.answerWith .state)

/-! ## Orders (R95 to R97) -/

/-- R95: ORDER_ADD. -/
def State.orderAdd (p : List Byte) (s : State) : State :=
  s.readyOnly (fun s => s.unlessFails (orderCheck s.lp s.plan p) (fun s =>
    (s.modPlan (fun x => { x with orders := x.orders ++ [orderFrom s.lp p] })).replan))

/-- R96: an order in one state takes another, and replanning follows. -/
def State.moveOrder (id : Nat) (old new : OrderState) (s : State) : State :=
  s.readyOnly (fun s =>
    match findOrder id s.plan.orders with
    | none => s.answerWith .notFound
    | some o =>
      if o.state = old then
        ((s.modPlan (fun x => { x with orders := modOrder id (fun o => { o with state := new }) x.orders })).replan
          ).answerWith .ok
      else s.answerWith .state)

/-- R97: a lane of an uncommitted row assigned to the order becomes SPARE. -/
def LanePlate.spare (id : Nat) (l : LanePlate) : LanePlate := if l.order = some id then { l with order := none } else l

/-- R97: the lanes of a cancelled order become SPARE; its planned count falls by one for each. -/
def Planner.spareOrder (id : Nat) (p : Planner) : Planner :=
  let lanes := ((p.rows.filter Row.uncommitted).flatMap (·.lanes)).filter (fun l => l.order = some id)
  { p with
    rows := p.rows.map (fun r => if r.uncommitted then { r with lanes := r.lanes.map (LanePlate.spare id) } else r),
    orders := modOrder id (fun o => { o with planned := o.planned - lanes.length }) p.orders }

def Planner.removeOrder (id : Nat) (p : Planner) : Planner := { p with orders := p.orders.filter (fun o => o.id ≠ id) }

/-- R97: an ACTIVE or HELD order is cancelled. -/
def State.cancelOrder (o : Order) (s : State) : State :=
  (s.modPlan (fun p =>
    let p1 := p.spareOrder o.id
    if o.reserved = 0 then p1.removeOrder o.id
    else { p1 with orders := modOrder o.id (fun o => { o with state := .cancelled }) p1.orders })).replan

/-- R97: ORDER_CANCEL. That a DONE order's removal is followed by the replanning too is the model's reading of R107, which names
every ORDER_CANCEL taken, where R97's table names the replanning for an ACTIVE or HELD order alone (log 59). -/
def State.orderCancel (p : List Byte) (s : State) : State :=
  s.readyOnly (fun s =>
    match findOrder (orderId p) s.plan.orders with
    | none => s.answerWith .notFound
    | some o =>
      match o.state with
      | .active | .held => (s.cancelOrder o).answerWith .ok
      | .done => ((s.modPlan (Planner.removeOrder o.id)).replan).answerWith .ok
      | .cancelled => s.answerWith .state)

/-! ## Rings (R184, R185) -/

/-- R184: the checks of RING_SETUP after STATE and NOT_FOUND. -/
def State.setupCheck (s : State) (r : Fin 4) (p : List Byte) : Option ResultCode :=
  firstFailure
    [(s.rings[r].state ≠ .running, .state), (setupRelations r p, .range),
     (s.setupFree r (setupBase p) (setupEnd r p), .conflict)]

/-- R184: RING_SETUP; it is answered once its header write is. -/
def State.ringSetup (p : List Byte) (s : State) : State :=
  s.boundOrReady (fun s =>
    match ringOfNat (byteAt p 0x00) with
    | none => s.answerWith .notFound
    | some r =>
      match s.setupCheck r p with
      | some code => s.answerWith code
      | none =>
        (s.setupRing r (setupBase p) (setupCapacity p) (setupNotify p)).modCp (fun c => { c with wait := some (.header r) }))

/-- R185: RING_RESET. -/
def State.ringReset (p : List Byte) (s : State) : State :=
  s.boundOrReady (fun s =>
    match ringOfNat (byteAt p 0x00) with
    | none => s.answerWith .notFound
    | some r => (s.resetRing r).answerWith .ok)

/-! ## Events (R188, R189) -/

/-- R188: the whole configuration of the Event Unit. -/
def Events.setup (p : List Byte) (e : Events) : Events :=
  e.change (fun e =>
    { e with enable := kindMask p 0, log := kindMask p 1, routes := Vector.ofFn (kindRoute p),
             pulsed := Vector.ofFn (fun i => lineMode p i = 1) })

/-- R188: EVENT_SETUP. -/
def State.eventSetup (p : List Byte) (s : State) : State :=
  s.boundOrReady (fun s => s.unlessFails (orRange (modesOk p)) (State.modEv (Events.setup p)))

/-- R189: EVENT_ACK. -/
def State.eventAck (p : List Byte) (s : State) : State :=
  s.boundOrReady (fun s => (s.modEv (Events.ack (BitVec.ofNat 32 (field p 0x00 4)))).answerWith .ok)

/-! ## Clock and shifts (R18, R162 to R165) -/

/-- R164: whether the new clock value is later than the old. -/
def later (d1 t1 d2 t2 : Nat) : Bool := d1 < d2 || (d1 = d2 && t1 < t2)

/-- R18, R164: SET_TIME is taken. -/
def State.setClock (day tod : Nat) (s : State) : State :=
  let d1 := s.pos.day.toNat
  let t1 := s.pos.tod
  let s1 := s.modPos (fun p => { p with day := BitVec.ofNat 16 day, tod := tod, ticks := 0 })
  let s2 := if later d1 t1 day tod && boundaryBetween s.tally.plan d1 t1 day tod then s1.closeShift .clock else s1
  s2.modTally (fun t => { t with start := { t.start with clockSet := true } })

/-- R18: SET_TIME. -/
def State.setTime (p : List Byte) (s : State) : State :=
  s.boundOrReady (fun s =>
    s.unlessFails (orRange (field p 0x04 4 < Config.dayMs)) (State.setClock (field p 0x00 2) (field p 0x04 4)))

/-- R162: SHIFT_PLAN. -/
def State.shiftPlan (p : List Byte) (s : State) : State :=
  s.boundOrReady (fun s => s.unlessFails (orRange (planOk p)) (fun s =>
    s.modTally (fun t => { t with plan := planOf p })))

/-- R165, R170: SHIFT_END; a deferred close is answered when it has been performed. -/
def State.shiftEnd (s : State) : State :=
  s.boundOrReady (fun s =>
    if s.tally.reportInFlight then
      (s.closeShift .command).modCp (fun c => { c with wait := some .close })
    else (s.closeShift .command).answerWith .ok)

/-! ## Gantry, link, terminals (R8, R121, R15, R16) -/

/-- R8: GANTRY. -/
def State.gantry (p : List Byte) (s : State) : State :=
  s.readyOnly (fun s => s.unlessFails (orRange (byteAt p 0x00 ≤ 1)) (fun s =>
    (s.modPos (fun x => { x with parkCmd := byteAt p 0x00 = 1 })).followPark 0))

/-- R121: a frame that the receiver has only partly taken is dropped: what the framer holds, and what the receiver holds
of it while an earlier frame is acted on (R125). That a held character or break of no frame, and the characters lost, are
dropped with it and counted nowhere is the model's reading (log 60). -/
def Link.dropReceived (l : Link) : Link :=
  { l with framer := .hunt, heldChar := none, heldBreak := false, breakFirst := false, lost := 0 }

/-- R121: LINK_SETUP. -/
def State.linkSetup (p : List Byte) (s : State) : State :=
  s.readyOnly (fun s => s.unlessFails (orRange (linkOf p).ok) (fun s =>
    (s.modLink (fun l => { l.dropReceived with on := true, settings := linkOf p })).fillQueue))

/-- A terminal given in a payload. -/
def termOfNat (n : Nat) : Option (Fin 6) := if h : n < 6 then some ⟨n, h⟩ else none

/-- R15: whether a function may stand on a terminal while others carry what they carry. -/
def Position.fnFree (p : Position) (t : Fin 6) (f : TermFn) : Bool :=
  !f.isInput || f = .inGeneral || !(List.finRange 6).any (fun u => u ≠ t && p.terms[u].fn = f)

/-- R15: the terminal as TERMINAL_SETUP gives it. -/
def Terminal.setup (f : TermFn) (p : List Byte) (t : Terminal) : Terminal :=
  { t with fn := f, activeLow := byteAt p 0x02 = 1, genActive := f = .outGeneral && byteAt p 0x03 = 1 }

/-- R15: TERMINAL_SETUP. -/
def State.terminalSetup (p : List Byte) (s : State) : State :=
  s.boundOrReady (fun s =>
    match termOfNat (byteAt p 0x00), TermFn.ofCode (byteAt p 0x01) with
    | some t, some f =>
      s.unlessFails (orRange (byteAt p 0x02 ≤ 1 && s.pos.fnFree t f)) (State.changeTerm t (Terminal.setup f p) id)
    | _, _ => s.answerWith .range)

/-- R16: TERMINAL_SET. -/
def State.terminalSet (p : List Byte) (s : State) : State :=
  s.boundOrReady (fun s =>
    match termOfNat (byteAt p 0x00) with
    | none => s.answerWith .range
    | some t =>
      s.unlessFails (orRange (s.pos.terms[t].fn = .outGeneral))
        (State.modTerm t (fun x => { x with genActive := byteAt p 0x01 = 1 })))

/-! ## The rows -/

/-- BIND (R24, R181). -/
def execBind (s : State) : Host.Outcome State Fault Refusal := .next (s.onCommand .bind State.bind)
/-- GEOMETRY (R5, R38, R39, R71, R181). -/
def execGeometry (s : State) : Host.Outcome State Fault Refusal := .next (s.onCommand .geometry State.geometry)
/-- DETECT (R60). -/
def execDetect (s : State) : Host.Outcome State Fault Refusal := .next (s.onCommand .detect State.detect)
/-- CLASSIFY (R74). -/
def execClassify (s : State) : Host.Outcome State Fault Refusal := .next (s.onCommand .classify State.classifyCmd)
/-- GRADE_TABLE (R141). -/
def execGradeTable (s : State) : Host.Outcome State Fault Refusal := .next (s.onCommand .gradeTable State.gradeTable)
/-- CAMPAIGN_BEGIN (R90, R91). -/
def execCampaignBegin (s : State) : Host.Outcome State Fault Refusal :=
  .next (s.onCommand .campaignBegin State.campaignBegin)
/-- CAMPAIGN_END (R92). -/
def execCampaignEnd (s : State) : Host.Outcome State Fault Refusal :=
  .next (s.onCommand .campaignEnd (fun _ => State.campaignEnd))
/-- ORDER_ADD (R95, R107). -/
def execOrderAdd (s : State) : Host.Outcome State Fault Refusal := .next (s.onCommand .orderAdd State.orderAdd)
/-- ORDER_CANCEL (R97, R107). -/
def execOrderCancel (s : State) : Host.Outcome State Fault Refusal := .next (s.onCommand .orderCancel State.orderCancel)
/-- ORDER_HOLD (R96, R107). -/
def execOrderHold (s : State) : Host.Outcome State Fault Refusal :=
  .next (s.onCommand .orderHold (fun p => State.moveOrder (orderId p) .active .held))
/-- ORDER_RELEASE (R96, R107). -/
def execOrderRelease (s : State) : Host.Outcome State Fault Refusal :=
  .next (s.onCommand .orderRelease (fun p => State.moveOrder (orderId p) .held .active))
/-- RING_SETUP (R184). -/
def execRingSetup (s : State) : Host.Outcome State Fault Refusal := .next (s.onCommand .ringSetup State.ringSetup)
/-- RING_RESET (R185). -/
def execRingReset (s : State) : Host.Outcome State Fault Refusal := .next (s.onCommand .ringReset State.ringReset)
/-- EVENT_SETUP (R188). -/
def execEventSetup (s : State) : Host.Outcome State Fault Refusal := .next (s.onCommand .eventSetup State.eventSetup)
/-- EVENT_ACK (R189). -/
def execEventAck (s : State) : Host.Outcome State Fault Refusal := .next (s.onCommand .eventAck State.eventAck)
/-- SET_TIME (R18, R164). -/
def execSetTime (s : State) : Host.Outcome State Fault Refusal := .next (s.onCommand .setTime State.setTime)
/-- SHIFT_PLAN (R162). -/
def execShiftPlan (s : State) : Host.Outcome State Fault Refusal := .next (s.onCommand .shiftPlan State.shiftPlan)
/-- SHIFT_END (R165, R170). -/
def execShiftEnd (s : State) : Host.Outcome State Fault Refusal := .next (s.onCommand .shiftEnd (fun _ => State.shiftEnd))
/-- GANTRY (R7, R8). -/
def execGantry (s : State) : Host.Outcome State Fault Refusal := .next (s.onCommand .gantry State.gantry)
/-- LINK_SETUP (R121). -/
def execLinkSetup (s : State) : Host.Outcome State Fault Refusal := .next (s.onCommand .linkSetup State.linkSetup)
/-- TERMINAL_SETUP (R15). -/
def execTerminalSetup (s : State) : Host.Outcome State Fault Refusal :=
  .next (s.onCommand .terminalSetup State.terminalSetup)
/-- TERMINAL_SET (R16). -/
def execTerminalSet (s : State) : Host.Outcome State Fault Refusal := .next (s.onCommand .terminalSet State.terminalSet)

end Sys2Proof.Machine
end

