-- ==== Sys2Proof/Machine/Reset.lean ====
section
/-! DEFINITION. POWER_ON_RESET and UNBIND: what every block returns to, and what is kept (R19, R37, R61, R88, R120, R139,
R159, R173, R182, R185, R193). -/

namespace Sys2Proof.Machine

/-- R37: a write that waits, classified CAPTURE or PASS, is a PASS write at its own address. -/
def QueuedWrite.unbound (w : QueuedWrite) : QueuedWrite :=
  if w.cls.crossing then w
  else match w.cls.kind with
    | .capture | .pass =>
      { w with cls := { crossing := false, kind := .pass, camera := 0, translated := false, down := w.burst.addr,
                        offset := 0 } }
    | .control | .live => w

/-- R19, R11: what a terminal keeps. -/
def Terminal.unbound (t : Terminal) : Terminal := Terminal.initial t.filtered t.sample

/-- R19: the Position Unit. -/
def Position.unbound (p : Position) : Position :=
  { Position.initial p.pairA p.pairB with
    ltrig := p.ltrig, terms := Vector.ofFn (fun i => (p.terms[i]).unbound), ticks := p.ticks, tod := p.tod, day := p.day }

/-- R37: the Path Unit, but for the held capture write and the counters. -/
def Path.unbound (p : Path) : Path :=
  { p with window := (Vector.replicate 16 WinEntry.disabled).set 0 (WinEntry.control p.straps),
           writes := p.writes.map QueuedWrite.unbound,
           hold := p.hold.map (fun h => { h with consumers := [] }),
           down := p.down.map (fun a => { a with what := a.what.withLife .discarded }) }

/-- R173: the pending slot: a report in flight completes its bursts and is dropped. -/
def ReportSlot.unbound : ReportSlot → ReportSlot
  | .inFlight r _ => .inFlight r .drop
  | .empty => .empty
  | .waiting _ => .empty

/-- R173: the Tally Unit. -/
def Tally.unbound (p : Position) (t : Tally) : Tally :=
  { Tally.initial with
    shift := t.shift, slot := t.slot.unbound,
    start := { day := p.day, tod := p.tod, line := 0, clockSet := false, saturated := false } }

/-- R182: the Command Processor. -/
def CmdProc.unbound (c : CmdProc) : CmdProc :=
  { c with binding := .unbound, stage := .idle, chain := [], holdLimit := Config.holdDefault }

/-- R182: every block returns to its reset state. -/
def State.blocksReset (s : State) : State :=
  { pos := s.pos.unbound, path := s.path.unbound, ing := .initial, blobs := .initial, map := .initial, plan := .initial,
    link := .initial, grader := .initial, tally := s.tally.unbound s.pos, cp := s.cp.unbound, ev := .initial,
    rings := Vector.replicate 4 .initial, pending := s.pending }

/-- R37: a capture write that is held is forwarded untapped, as a PASS write at its own address (log 34). -/
def State.forwardHeldCapture (s : State) : State :=
  match s.heldCapture with
  | some w => s.guarded w (State.forwardPlain w)
  | none => s

/-- R182: UNBIND. -/
def State.unbind (s : State) : State :=
  ((s.blocksReset.forwardHeldCapture).count (fun _ => PathCounters.zero)).finish .ok true

/-- UNBIND (R182). -/
def execUnbind (s : State) : Host.Outcome State Fault Refusal := .next (s.onCommand .unbind (fun _ => State.unbind))

/-- POWER_ON_RESET (R37, R174 and the reset rule of each block): the straps are read, and what was under way is lost. The
queue of waiting commands is the model's own and stays. -/
def execPowerOnReset (straps : BitVec 4) (encA encB : Bool) (s : State) : Host.Outcome State Fault Refusal :=
  .next { State.powerOn straps encA encB with pending := s.pending }

end Sys2Proof.Machine
end

