-- ==== Sys2Proof/Machine/LinkRows.lean ====
section
/-! DEFINITION. The rows of the Cut Link (06) and of the interrupt lines (10). -/

namespace Sys2Proof.Machine

/-! ## Sending (R127, R130) -/

/-- R127: the oldest frame in the queue moves into the shift stage and its break begins. -/
def State.sendStart (s : State) : State :=
  if s.link.on && s.link.shift.isNone then
    match s.link.txq with
    | [] => s
    | f :: rest =>
      (s.modLink (fun l =>
        { l with txq := rest,
                 shift := some { frame := f, rate := l.settings.rate, breakLen := l.settings.breakLen,
                                 wire := frameBits l.settings.breakLen f.code f.payload } })).fillQueue
  else s

/-- R130: a cut that is still QUEUED becomes SENT and its ack timer starts. -/
def Link.sentCut (num : Idx) (l : Link) : Link :=
  { l with cuts := modCut num (fun c =>
             if c.status = .queued then
               { c with status := .sent, timer := some { count := 0, timeout := l.settings.ackTimeout } }
             else c) l.cuts,
           counters := { l.counters with sentCut := inc32 l.counters.sentCut } }

/-- R127: the stop bit of the checksum has left CUT_TX. -/
def State.sendComplete (s : State) : State :=
  match s.link.shift with
  | none => s
  | some st =>
    s.modLink (fun l =>
      let l1 := { l with shift := none }
      match st.frame with
      | .cut num _ _ _ => l1.sentCut num
      | .lanes _ => { l1 with counters := { l.counters with sentLanes := inc32 l.counters.sentLanes } })

/-! ## Receiving (R124 to R126) -/

/-- A well-formed frame of a kind that has not been acted on is acted on. -/
def State.onFrame (kind : Byte) (i : Fin 4) (act : List Byte → State → State) (s : State) : State :=
  match s.actingFrame kind with
  | some p => (act p (s.countReceived i)).actionDone
  | none => s

/-- The cut number of an answer. -/
def answerNum (p : List Byte) : Idx := BitVec.ofNat 16 (field p 0 2)

/-- R126: the first two payload bytes, or 0 when there are fewer (log 19). -/
def firstTwo (p : List Byte) : Nat := if p.length < 2 then 0 else field p 0 2

/-- R126: a malformed frame. -/
def State.malformed (a : ActingFrame) (s : State) : State :=
  ((s.modLink (fun l => { l with counters := { l.counters with malformed := inc32 l.counters.malformed } })).raise
    .linkProtocol (256 * a.kind.toNat) (firstTwo a.payload)).actionDone

/-- R124: whether the framer's response to a good character is a discard. -/
def Framer.discardsGood (f : Framer) (b : Byte) : Bool :=
  match f.state with
  | .delimiter => b ≠ 0xC3
  | .length => 24 < b.toNat
  | .check => b ≠ checksum f.kind f.bytes
  | .hunt | .kind | .payload => false

/-- R124: whether the framer's response to an input is a discard. -/
def Framer.discards (f : Framer) : RxInput → Bool
  | .brk => f.state ≠ .hunt && f.state ≠ .delimiter
  | .char c =>
    match charOutcome c with
    | .inl b => f.discardsGood b
    | .inr _ => f.state ≠ .hunt

/-! ## The rows -/

/-- FRAME_SEND_START (R127). -/
def execFrameSendStart (s : State) : Host.Outcome State Fault Refusal := .next s.sendStart

/-- FRAME_SEND_COMPLETE (R127, R130). -/
def execFrameSendComplete (s : State) : Host.Outcome State Fault Refusal := .next s.sendComplete

/-- ACCEPT (R132). -/
def execAccept (s : State) : Host.Outcome State Fault Refusal :=
  .next (s.onFrame acceptCode 0 (fun p => State.answerAccept (answerNum p)))

/-- SCORED (R134). -/
def execScored (s : State) : Host.Outcome State Fault Refusal :=
  .next (s.onFrame scoredCode 1 (fun p => State.answerScored (answerNum p) (field p 2 5)))

/-- REFUSE (R135). -/
def execRefuse (s : State) : Host.Outcome State Fault Refusal :=
  .next (s.onFrame refuseCode 2 (fun p => State.answerRefuse (answerNum p) (byteAt p 2)))

/-- READY (R137). -/
def execReady (s : State) : Host.Outcome State Fault Refusal :=
  .next (s.onFrame readyCode 3 (fun p => State.answerReady (byteAt p 0 = 1)))

/-- MALFORMED_FRAME (R126). -/
def execMalformedFrame (s : State) : Host.Outcome State Fault Refusal :=
  match s.link.acting with
  | some a => if a.done || wellFormedFrame a.kind a.payload then .next s else .next (s.malformed a)
  | none => .next s

/-- FRAME_DISCARD (R124): an input on which the framer discards its frame (log 24). -/
def execFrameDiscard (i : RxInput) (s : State) : Host.Outcome State Fault Refusal :=
  if s.link.acting.isNone && s.link.framer.discards i then .next (s.receive i) else .next s

/-- FRAME_GAP_TIMEOUT (R124). -/
def execFrameGapTimeout (s : State) : Host.Outcome State Fault Refusal :=
  if s.link.on && s.link.framer.state ≠ .hunt then .next (s.discardFrame .gap .hunt) else .next s

/-- CHARACTER_COMPLETE (R123, R124, R125). -/
def execCharacterComplete (c : RxChar) (s : State) : Host.Outcome State Fault Refusal := .next (s.receive (.char c))

/-- BREAK_TAKEN (R123, R124, R125). -/
def execBreakTaken (s : State) : Host.Outcome State Fault Refusal := .next (s.receive .brk)

/-- FRAME_ACTION_END (R125): every change the complete frame causes has been made. -/
def execFrameActionEnd (s : State) : Host.Outcome State Fault Refusal :=
  match s.link.acting with
  | some a => if a.done then .next s.endAction else .next s
  | none => .next s

/-- ACK_TIMEOUT (R133). -/
def execAckTimeout (cut : Idx) (s : State) : Host.Outcome State Fault Refusal :=
  match findCut cut s.link.cuts with
  | some c => if c.expired then .next (s.ackExpired c) else .next s
  | none => .next s

/-- IRQ_GAP_END (R191). -/
def execIrqGapEnd (line : Fin 4) (s : State) : Host.Outcome State Fault Refusal := .next (s.modEv (Events.endGap line))

end Sys2Proof.Machine
end

