-- ==== Sys2Proof/Machine/Dispatch.lean ====
section
/-! DEFINITION. The dispatch: one arm for each constructor of Instr, one direct call of its meaning. -/

namespace Sys2Proof.Machine

open Sys2Proof

def exec (i : Instr) (s : State) : Host.Outcome State Fault Refusal :=
  match i with
  | .powerOnReset straps encA encB => Sys2Proof.Machine.execPowerOnReset straps encA encB s
  | .encoderTransition a b => Sys2Proof.Machine.execEncoderTransition a b s
  | .ltrigPulseEnd => Sys2Proof.Machine.execLtrigPulseEnd s
  | .stallTimeout => Sys2Proof.Machine.execStallTimeout s
  | .timeOfDayAdvance pins => Sys2Proof.Machine.execTimeOfDayAdvance pins s
  | .upstreamWriteArrival w => Sys2Proof.Machine.execUpstreamWriteArrival w s
  | .upstreamReadArrival r => Sys2Proof.Machine.execUpstreamReadArrival r s
  | .writeAtHead => Sys2Proof.Machine.execWriteAtHead s
  | .captureWrite => Sys2Proof.Machine.execCaptureWrite s
  | .classificationDone cam bufB => Sys2Proof.Machine.execClassificationDone cam bufB s
  | .producerWrite => Sys2Proof.Machine.execProducerWrite s
  | .faultAck => Sys2Proof.Machine.execFaultAck s
  | .consumerWordWrite => Sys2Proof.Machine.execConsumerWordWrite s
  | .liveWrite => Sys2Proof.Machine.execLiveWrite s
  | .readRelease pos => Sys2Proof.Machine.execReadRelease pos s
  | .forwardedResponse serial data => Sys2Proof.Machine.execForwardedResponse serial data s
  | .captureHoldExpiry => Sys2Proof.Machine.execCaptureHoldExpiry s
  | .producerHoldExpiry => Sys2Proof.Machine.execProducerHoldExpiry s
  | .memError at_ => Sys2Proof.Machine.execMemError at_ s
  | .recordIssue ring => Sys2Proof.Machine.execRecordIssue ring s
  | .recordAccepted ring index => Sys2Proof.Machine.execRecordAccepted ring index s
  | .producerWordWrite ring => Sys2Proof.Machine.execProducerWordWrite ring s
  | .producerWordAnswered ring => Sys2Proof.Machine.execProducerWordAnswered ring s
  | .reportAccepted => Sys2Proof.Machine.execReportAccepted s
  | .slotTake bytes => Sys2Proof.Machine.execSlotTake bytes s
  | .writeBackDone => Sys2Proof.Machine.execWriteBackDone s
  | .ringHeaderWritten => Sys2Proof.Machine.execRingHeaderWritten s
  | .finalGrading => Sys2Proof.Machine.execFinalGrading s
  | .frameSendStart => Sys2Proof.Machine.execFrameSendStart s
  | .frameSendComplete => Sys2Proof.Machine.execFrameSendComplete s
  | .accept => Sys2Proof.Machine.execAccept s
  | .scored => Sys2Proof.Machine.execScored s
  | .refuse => Sys2Proof.Machine.execRefuse s
  | .ready => Sys2Proof.Machine.execReady s
  | .malformedFrame => Sys2Proof.Machine.execMalformedFrame s
  | .frameDiscard x => Sys2Proof.Machine.execFrameDiscard x s
  | .frameGapTimeout => Sys2Proof.Machine.execFrameGapTimeout s
  | .ackTimeout cut => Sys2Proof.Machine.execAckTimeout cut s
  | .irqGapEnd line => Sys2Proof.Machine.execIrqGapEnd line s
  | .bind => Sys2Proof.Machine.execBind s
  | .unbind => Sys2Proof.Machine.execUnbind s
  | .geometry => Sys2Proof.Machine.execGeometry s
  | .detect => Sys2Proof.Machine.execDetect s
  | .classify => Sys2Proof.Machine.execClassify s
  | .gradeTable => Sys2Proof.Machine.execGradeTable s
  | .campaignBegin => Sys2Proof.Machine.execCampaignBegin s
  | .campaignEnd => Sys2Proof.Machine.execCampaignEnd s
  | .orderAdd => Sys2Proof.Machine.execOrderAdd s
  | .orderCancel => Sys2Proof.Machine.execOrderCancel s
  | .orderHold => Sys2Proof.Machine.execOrderHold s
  | .orderRelease => Sys2Proof.Machine.execOrderRelease s
  | .ringSetup => Sys2Proof.Machine.execRingSetup s
  | .ringReset => Sys2Proof.Machine.execRingReset s
  | .eventSetup => Sys2Proof.Machine.execEventSetup s
  | .eventAck => Sys2Proof.Machine.execEventAck s
  | .setTime => Sys2Proof.Machine.execSetTime s
  | .shiftPlan => Sys2Proof.Machine.execShiftPlan s
  | .shiftEnd => Sys2Proof.Machine.execShiftEnd s
  | .gantry => Sys2Proof.Machine.execGantry s
  | .linkSetup => Sys2Proof.Machine.execLinkSetup s
  | .terminalSetup => Sys2Proof.Machine.execTerminalSetup s
  | .terminalSet => Sys2Proof.Machine.execTerminalSet s
  | .characterComplete c => Sys2Proof.Machine.execCharacterComplete c s
  | .breakTaken => Sys2Proof.Machine.execBreakTaken s
  | .frameActionEnd => Sys2Proof.Machine.execFrameActionEnd s
  | .inFlightBurstsComplete ring => Sys2Proof.Machine.execInFlightBurstsComplete ring s

end Sys2Proof.Machine
end

