-- ==== Sys2Proof/Safety.lean ====
section
/-! DEFINITION. The invariants that the spec gives the block, and the words in which the statements speak of a state. -/

namespace Sys2Proof.Machine

/-! ## Invariants -/

/-- R23: entry 0 of the window table is the CONTROL window at the strapped base. -/
def State.entryZero (s : State) : Prop := s.path.window[0] = WinEntry.control s.path.straps

/-- R21: neither queue holds more than 32 bursts. -/
def State.queuesBounded (s : State) : Prop := s.path.writes.length ≤ 32 ∧ s.path.reads.length ≤ 32

/-- R17: the time of day is below 86,400,000. -/
def State.clockInDay (s : State) : Prop := s.pos.tod < 86400000

/-- The column store has its canonical form (log 30). -/
def State.colsCanonical (s : State) : Prop := s.ing.cols.wf = true

/-- R2: in READY the phase runs from 0 to Dv − 1; the deficit never exceeds 65,535. -/
def State.countsInRange (s : State) : Prop :=
  (s.cp.binding = .ready → s.pos.phase < s.pos.dv) ∧ s.pos.deficit ≤ 65535

/-- R89: at most one campaign slot is ACTIVE. -/
def State.oneActive (s : State) : Prop :=
  ∀ c d, ¬ (s.plan.slots[0] = .active c ∧ s.plan.slots[1] = .active d)

/-- R29, R22, R27: a write is held only at the head of the write queue, what is held does not cross a page, and no ring is
named twice among those whose consumer word it writes; a queued write that no entry translates goes downstream at its own
address. -/
def State.queueSound (s : State) : Prop :=
  (s.path.hold.isSome → ∃ w ws, s.path.writes = w :: ws ∧ w.cls.crossing = false)
    ∧ (∀ w ∈ s.path.writes, w.cls.translated = false → w.cls.down = w.burst.addr)
    ∧ ∀ h, s.path.hold = some h → (h.consumers.map Prod.fst).Nodup

/-- R40, R48: the pulse list is in rising order of line, above the assembled line number and not above the ribbon line
number; its capture numbers lie below the next one. -/
def State.pulsesSound (s : State) : Prop :=
  s.ing.assembled ≤ s.pos.line ∧ s.ing.pulses.Pairwise (fun p q => p.line < q.line)
    ∧ ∀ p ∈ s.ing.pulses, s.ing.assembled < p.line ∧ p.line ≤ s.pos.line ∧ ∀ q, p.capture = some q → q < s.ing.captures

/-- R76, R94, R127, R129, R78, R187: the depths of the flaw map, the order book, the outstanding cut list, the transmit
queue, and of FLAW and EVENT staging. -/
def State.tablesBounded (s : State) : Prop :=
  s.map.flaws.length ≤ 4096 ∧ s.plan.orders.length ≤ 32 ∧ s.link.cuts.length ≤ 16 ∧ s.link.txq.length ≤ 8
    ∧ s.rings[flawRing].staging.length ≤ 8 ∧ s.rings[eventRing].staging.length ≤ 8

/-- R80: the spans of the list are not empty, in ascending order and disjoint. -/
def spansOrdered (ss : List Span) : Prop :=
  ss.Pairwise (fun x y => x.stop ≤ y.start) ∧ ∀ x ∈ ss, x.start < x.stop

/-- A line lies in a span of the list. -/
def covered (ss : List Span) (n : Nat) : Prop := ∃ x ∈ ss, x.start ≤ n ∧ n < x.stop

/-! ## Occasions -/

/-- The pair of ENC_A and ENC_B that follows a pair in the Gray sequence of R1. -/
def grayNext (p : Bool × Bool) : Bool × Bool := (!p.2, p.1)

/-- A command of a kind with this payload has been dispatched and has not acted (log 1). -/
def State.given (k : CmdKind) (p : List Byte) (s : State) : Prop :=
  s.cp.wait = none ∧ ∃ c, s.cp.dispatched = some c ∧ c.kind = k ∧ c.payload = p

/-- Nothing is held, and the head of the write queue is `w`, which row `k` deals with. -/
def State.heads (k : HeadKind) (w : QueuedWrite) (s : State) : Prop :=
  s.path.hold = none ∧ (∃ ws, s.path.writes = w :: ws) ∧ s.headKind w = k

/-- The row that deals with a head write of a kind. -/
def HeadKind.row : HeadKind → Instr
  | .plain => .writeAtHead
  | .capture => .captureWrite
  | .producer => .producerWrite
  | .faultAck => .faultAck
  | .consumer => .consumerWordWrite
  | .live => .liveWrite

/-- R25: an address lies in the guard of ring `r`: its producer word, or its record area, while it is RUNNING. -/
def Ring.guards (g : Ring) (r : Fin 4) (x : Nat) : Prop :=
  g.state = .running
    ∧ (g.base ≤ x ∧ x < g.base + 4 ∨ g.base + 64 ≤ x ∧ x < g.base + 64 + g.capacity * recordSize r)

/-- A burst at `a` enables a byte at address `x`. -/
def enables (a : Addr) (bytes : List (Option Byte)) (x : Nat) : Prop := ∃ y, (x, y) ∈ enabledAt a.toNat bytes

/-- R26: a write enables a byte of the guard of ring `r`, under its upstream or its translated address. -/
def State.hitsGuard (w : QueuedWrite) (r : Fin 4) (s : State) : Prop :=
  ∃ x, s.rings[r].guards r x
    ∧ (enables w.burst.addr w.burst.bytes x ∨ w.cls.translated = true ∧ enables w.cls.down w.burst.bytes x)

/-- R27: a write enables a byte of the consumer word of ring `r` while it is RUNNING. -/
def State.writesConsumer (w : QueuedWrite) (r : Fin 4) (s : State) : Prop :=
  s.rings[r].state = .running
    ∧ ∃ x, s.rings[r].base + 4 ≤ x ∧ x < s.rings[r].base + 8 ∧ enables w.cls.down w.burst.bytes x

/-- R27: when the head write `w` is forwarded, ring `r` takes a value from it, its consumer word lying at `a`: the ring was
RUNNING, and `w` covered the word, when `w` became the head; that is now, unless `w` has been held since. -/
def State.takesConsumer (w : QueuedWrite) (r : Fin 4) (a : Nat) (s : State) : Prop :=
  s.path.hold = none ∧ s.writesConsumer w r ∧ a = s.rings[r].base + 4
    ∨ ∃ h, s.path.hold = some h ∧ (r, a) ∈ h.consumers

/-- The number of captures from `lo` to below `hi` that are PENDING for a camera. -/
def Ingest.pendingIn (g : Ingest) (cam : Fin 8) (lo hi : Nat) : Nat :=
  (g.pulses.filter (fun p => p.status[cam] = .pending && p.capture.any (fun q => lo ≤ q && q < hi))).length

/-- R46: a lost-line counter after `n` captures were declared in one act. -/
def lostAfter (old n : Nat) : Nat := if n = 0 then old else satAdd Config.max32 old n

/-- A complete frame of a kind with this payload is acted on, well formed by R126, its changes still to be made. -/
def State.framed (kind : Byte) (p : List Byte) (s : State) : Prop :=
  s.link.acting = some { kind := kind, payload := p, done := false } ∧ wellFormedFrame kind p = true

/-! ## Answers -/

/-- An OKAY or error answer to the write with an AXI ID. -/
def writeAnswer (axi : Nat) (okay : Bool) : Answer := { axi := axi, read := false, okay := okay, data := [] }

/-- The write queue without its head, and the hold slot empty. -/
def Path.popped (p : Path) : Path := { p with writes := p.writes.tail, hold := none }

/-- The head of the write queue answered with an error and not forwarded. -/
def Path.refused (w : QueuedWrite) (p : Path) : Path :=
  { p.popped with answers := p.answers ++ [writeAnswer w.burst.id false] }

/-- The head of the write queue issued downstream, at its own or its translated address. -/
def Path.sent (w : QueuedWrite) (what : AccessFor) (p : Path) : Path :=
  { p.popped with
    down := p.down ++ [{ serial := p.nextAccess, what := what, addr := w.cls.down, bytes := w.burst.bytes, len := 0 }],
    nextAccess := p.nextAccess + 1 }

/-- R176, 11.1: slot bytes 4 to 15 of a result: result code, detail, completion sequence. Bytes 12 to 15 are written too, with 0,
by the model's choice (log 66). -/
def resultArea (code : ResultCode) (detail seq : Nat) : List Byte :=
  [BitVec.ofNat 8 code.code, 0] ++ toBytes 2 detail ++ toBytes 4 seq ++ [0, 0, 0, 0]

/-- R174, R176: the result writes of the slots `first + i` from the `i`-th on, `left` of them, in index order, from serial
number `serial` on. -/
def resultWrites (control : Addr) (first : Idx) (code : ResultCode) (n seq : Nat) : Nat → Nat → Nat → List InFlight
  | 0, _, _ => []
  | left + 1, i, serial =>
    { serial := serial, what := .result first,
      addr := control + BitVec.ofNat 40 (0x2000 + (first + BitVec.ofNat 16 i).toNat % 128 * 64) + 4,
      bytes := (resultArea code n seq).map some, len := 0 }
      :: resultWrites control first code n seq left (i + 1) (serial + 1)

/-- R174, R176, R179: the result writes of a list of slots under one completion sequence value, in its order, from serial
number `serial` on. -/
def slotWrites (control : Addr) (slots : List Idx) (code : ResultCode) (detail seq serial : Nat) : List InFlight :=
  slots.zipIdx.map (fun (x, i) =>
    { serial := serial + i, what := .result (slots.headD 0),
      addr := control + BitVec.ofNat 40 (0x2000 + x.toNat % 128 * 64) + 4,
      bytes := (resultArea code detail seq).map some, len := 0 })

/-- R177, 11.1: the header write of a write-back: the reported consumer index and the state word, the fault-ack word between
them not enabled. -/
def headerWrite (s : State) (index : Idx) (hold : Option Nat) : InFlight :=
  { serial := s.path.nextAccess, what := .header (.writeBack hold), addr := s.controlBase + 4,
    bytes := (toBytes 4 index.toNat).map some ++ List.replicate 4 none
      ++ [some (BitVec.ofNat 8 s.cp.binding.code), some (BitVec.ofNat 8 s.cp.stage.code),
          some (BitVec.ofNat 8 s.cp.lastResult.code), some 0],
    len := 0 }

/-- The answer to a command: its result is written, and it is no longer dispatched. -/
def State.answeredWith (code : ResultCode) (s t : State) : Prop :=
  t.cp.dispatched = none ∧ t.cp.wait = none ∧ t.cp.lastResult = code ∧ t.cp.sequence = (s.cp.sequence + 1) % 2 ^ 32

/-- An order but for its planned count, which planning moves. -/
def Order.unplanned (o : Order) : Order := { o with planned := 0 }

/-! ## The LIVE pages (11.8) -/

/-- A mark as a LIVE page shows it. -/
def shown (b : Bool) : Nat := if b then 1 else 0

/-- R160, R195, 11.5: the tallies at their places in a report and on page 6. -/
def Tallies.laidOut (t : Tallies) (u : List Byte) : Prop :=
  field u 0x40 4 = t.triggered % 2 ^ 32 ∧ field u 0x44 4 = t.inspected % 2 ^ 32
  ∧ (∀ i : Fin 6, field u (0x48 + 4 * i) 4 = t.uninspected[i] % 2 ^ 32)
  ∧ field u 0x60 4 = t.flaws % 2 ^ 32 ∧ field u 0x64 4 = t.notMapped % 2 ^ 32
  ∧ (∀ i : Fin 4, field u (0x68 + 4 * i) 4 = t.grades[i] % 2 ^ 32 ∧ field u (0x78 + 4 * i) 4 = t.outcomes[i] % 2 ^ 32)
  ∧ field u 0x88 4 = t.culletRows % 2 ^ 32 ∧ field u 0x8C 4 = t.culletLines % 2 ^ 32
  ∧ field u 0x90 4 = t.committed % 2 ^ 32 ∧ field u 0x94 4 = t.scored % 2 ^ 32 ∧ field u 0x98 4 = t.missed % 2 ^ 32
  ∧ field u 0x9C 4 = t.offset % 2 ^ 32 ∧ field u 0xA0 4 = t.maxOffset % 2 ^ 32
  ∧ (∀ i : Fin 8, field u (0xA4 + 4 * i) 4 = t.linkErrors[i] % 2 ^ 32)
  ∧ field u 0xC4 4 = t.commands % 2 ^ 32 ∧ field u 0xC8 8 = t.goodArea % 2 ^ 64 ∧ field u 0xD0 8 = t.gradedArea % 2 ^ 64
  ∧ ∀ i : Fin 40, field u (0xD8 + 4 * i) 4 = t.byClass[i] % 2 ^ 32

/-- Bytes that no entry of a list occupies: `n` bytes from `o` on read 0. -/
def reads0 (u : List Byte) (o n : Nat) : Prop := ∀ i, i < n → byteAt u (o + i) = 0

/-- R62, R195: page 2, with the detection parameters as DETECT lays them out (11.2). The expected line of a camera that is not
enabled, and of one whose expected capture has no pulse, and the capture of a FREE buffer, are the model's choices (logs 48,
50, 51). -/
def State.showsPage2 (s : State) : Prop :=
  let u := s.snapshot 0x2000 4096
  let g := s.ing
  let d := g.detect
  let range (bit o : Nat) (r : Option (Nat × Nat)) : Prop :=
    (r = none → (byteAt u 0x030).testBit bit = false ∧ field u o 4 = 0)
    ∧ ∀ x, r = some x → (byteAt u 0x030).testBit bit = true ∧ field u o 2 = x.1 % 2 ^ 16 ∧ field u (o + 2) 2 = x.2 % 2 ^ 16
  let buffer (o k : Nat) (b : Buf) : Prop :=
    (b = .free → byteAt u o = 0 ∧ field u k 4 = 0)
    ∧ (∀ q bytes, b = .filling q bytes → byteAt u o = 1 ∧ field u k 4 = q % 2 ^ 32)
    ∧ ∀ q r, b = .classifying q r → byteAt u o = 2 ∧ field u k 4 = q % 2 ^ 32
  field u 0x000 4 = g.captures % 2 ^ 32 ∧ field u 0x004 2 = g.pulses.length % 2 ^ 16
  ∧ byteAt u 0x006 = shown g.pendingDetect.isSome ∧ byteAt u 0x007 = g.holdLimit % 2 ^ 8
  ∧ field u 0x008 8 = g.assembled % 2 ^ 64 ∧ field u 0x010 2 = g.left.value % 2 ^ 16
  ∧ field u 0x012 2 = g.right.value % 2 ^ 16 ∧ byteAt u 0x014 = g.left.lostCount % 2 ^ 8
  ∧ byteAt u 0x015 = g.right.lostCount % 2 ^ 8 ∧ byteAt u 0x016 = shown g.left.lostCond + 2 * shown g.right.lostCond
  ∧ field u 0x018 2 = g.pp % 2 ^ 16
  ∧ field u 0x020 2 = d.learnLines % 2 ^ 16 ∧ byteAt u 0x022 = d.alpha % 2 ^ 8 ∧ byteAt u 0x023 = d.beta % 2 ^ 8
  ∧ byteAt u 0x024 = d.k % 2 ^ 8 ∧ byteAt u 0x025 = d.tmin % 2 ^ 8 ∧ field u 0x026 2 = d.initNoise % 2 ^ 16
  ∧ byteAt u 0x028 = d.floodFraction % 2 ^ 8 ∧ byteAt u 0x029 = d.edgeLevel % 2 ^ 8 ∧ byteAt u 0x02A = d.edgeGuard % 2 ^ 8
  ∧ byteAt u 0x02B = d.gc % 2 ^ 8 ∧ byteAt u 0x02C = d.lg % 2 ^ 8 ∧ field u 0x02E 2 = d.lmax % 2 ^ 16
  ∧ range 0 0x032 d.left ∧ range 1 0x036 d.right
  ∧ ∀ i : Fin 8,
      let c := g.cams[i]
      let k := c.counters
      let o := 0x100 + 0x80 * i.val
      byteAt u o = shown c.cfg.enable ∧ byteAt u (o + 0x01) = c.learn.code ∧ byteAt u (o + 0x02) = shown c.floodMark
      ∧ byteAt u (o + 0x03) = (g.pulses.filter (fun p =>
          !(p.status[i] = .off || p.status[i] = .pending || p.status[i] = .lost))).length % 2 ^ 8
      ∧ field u (o + 0x04) 4 = c.expected % 2 ^ 32
      ∧ (∀ before p after, g.pulses = before ++ p :: after → p.capture = some c.expected →
          (∀ x ∈ before, x.capture ≠ some c.expected) → field u (o + 0x08) 8 = p.line % 2 ^ 64)
      ∧ ((∀ p ∈ g.pulses, p.capture ≠ some c.expected) → field u (o + 0x08) 8 = 0)
      ∧ buffer (o + 0x10) (o + 0x14) c.bufA ∧ buffer (o + 0x11) (o + 0x18) c.bufB
      ∧ (c.openLine = none → field u (o + 0x1C) 2 = 0xFFFF ∧ field u (o + 0x20) 4 = 0)
      ∧ (∀ x, c.openLine = some x → field u (o + 0x1C) 2 = x.slot % 2 ^ 16 ∧ field u (o + 0x20) 4 = x.capture % 2 ^ 32)
      ∧ (c.discard = none → field u (o + 0x1E) 2 = 0xFFFF)
      ∧ (∀ x, c.discard = some x → field u (o + 0x1E) 2 = x % 2 ^ 16)
      ∧ field u (o + 0x24) 4 = c.startCapture % 2 ^ 32 ∧ field u (o + 0x28) 2 = c.remaining % 2 ^ 16
      ∧ field u (o + 0x30) 4 = k.tapped % 2 ^ 32 ∧ field u (o + 0x34) 4 = k.delivered % 2 ^ 32
      ∧ (∀ j : Fin 6, field u (o + 0x38 + 4 * j) 4 = k.lost[j] % 2 ^ 32)
      ∧ field u (o + 0x50) 4 = k.stale % 2 ^ 32 ∧ field u (o + 0x54) 4 = k.untriggered % 2 ^ 32
      ∧ field u (o + 0x58) 4 = k.straddling % 2 ^ 32 ∧ field u (o + 0x5C) 4 = k.outside % 2 ^ 32
      ∧ field u (o + 0x60) 4 = k.disabled % 2 ^ 32 ∧ field u (o + 0x64) 4 = k.flood % 2 ^ 32
      ∧ field u (o + 0x68) 4 = k.overflow % 2 ^ 32

/-- R87, R195: page 3, with the classification parameters as CLASSIFY lays them out (11.2). That the retirement line shows 0
while the form is NONE or ALL is the model's choice (log 62). -/
def State.showsPage3 (s : State) : Prop :=
  let u := s.snapshot 0x3000 4096
  let b := s.blobs
  let m := s.map
  let p := b.params
  field u 0x000 2 = (b.entries.filter (fun e => !e.carried)).length % 2 ^ 16
  ∧ field u 0x002 2 = (b.entries.filter (fun e => e.carried)).length % 2 ^ 16
  ∧ field u 0x004 2 = m.flaws.length % 2 ^ 16 ∧ byteAt u 0x006 = m.spans.length % 2 ^ 8
  ∧ byteAt u 0x007 = shown b.oldestOpen.isSome + 2 * shown m.full + 4 * shown m.lossMark
  ∧ field u 0x008 8 = b.oldestOpen.getD 0 % 2 ^ 64 ∧ field u 0x010 4 = m.nextFlaw % 2 ^ 32
  ∧ (∀ n, m.retire = .line n → byteAt u 0x014 = 0 ∧ field u 0x018 8 = n % 2 ^ 64)
  ∧ (m.retire = .none → byteAt u 0x014 = 1 ∧ field u 0x018 8 = 0)
  ∧ (m.retire = .all → byteAt u 0x014 = 2 ∧ field u 0x018 8 = 0)
  ∧ field u 0x020 4 = p.large % 2 ^ 32 ∧ byteAt u 0x024 = p.scratch % 2 ^ 8 ∧ byteAt u 0x025 = p.stone % 2 ^ 8
  ∧ (∀ i : Fin 7, field u (0x026 + 2 * i) 2 = p.bounds[i] % 2 ^ 16)
  ∧ field u 0x040 4 = b.opened % 2 ^ 32 ∧ field u 0x044 4 = b.merged % 2 ^ 32 ∧ field u 0x048 4 = b.closedByGap % 2 ^ 32
  ∧ field u 0x04C 4 = b.expired % 2 ^ 32 ∧ field u 0x050 4 = b.forcedClosures % 2 ^ 32
  ∧ field u 0x054 4 = b.splits % 2 ^ 32 ∧ field u 0x058 4 = m.mapped % 2 ^ 32
  ∧ field u 0x05C 4 = m.retiredAtCreation % 2 ^ 32 ∧ field u 0x060 4 = m.notMapped % 2 ^ 32
  ∧ field u 0x064 4 = m.flawsRetired % 2 ^ 32 ∧ field u 0x068 4 = m.spansRetired % 2 ^ 32
  ∧ field u 0x06C 4 = m.spanMerges % 2 ^ 32 ∧ field u 0x070 4 = m.recordsLost % 2 ^ 32
  ∧ ∀ i, i < 16 →
      (∀ x, m.spans[i]? = some x → byteAt u (0x100 + 16 * i) = x.kind.code
        ∧ field u (0x101 + 16 * i) 5 = x.start % 2 ^ 40 ∧ field u (0x106 + 16 * i) 5 = x.stop % 2 ^ 40)
      ∧ (m.spans[i]? = none → reads0 u (0x100 + 16 * i) 16)

/-- R119, R158, R195: the campaign slots, the planner's and the Grader's fields of page 4. That the fields of a slot that is
NONE show 0, but for its state, and the record need where no row waits, is the model's choice (log 62). -/
def State.showsPlanning (s : State) : Prop :=
  let u := s.snapshot 0x4000 4096
  let p := s.plan
  let k := p.counters
  let g := s.grader
  let h := g.counters
  (∀ i : Fin 2,
    let o := 0x48 * i.val
    let holds (code : Nat) (c : Campaign) : Prop :=
      byteAt u o = code ∧ byteAt u (o + 0x01) = c.lanes.length % 2 ^ 8
      ∧ byteAt u (o + 0x02) = shown c.avoidShift + 2 * shown c.avoidReassign ∧ byteAt u (o + 0x03) = c.cap.code
      ∧ field u (o + 0x04) 2 = c.edgeBandMm % 2 ^ 16
      ∧ (∀ j, j < 4 →
          (∀ l, c.lanes[j]? = some l →
            field u (o + 0x08 + 4 * j) 2 = l.first % 2 ^ 16 ∧ field u (o + 0x0A + 4 * j) 2 = l.last % 2 ^ 16)
          ∧ (c.lanes[j]? = none → reads0 u (o + 0x08 + 4 * j) 4))
      ∧ field u (o + 0x18) 4 = c.gc % 2 ^ 32 ∧ field u (o + 0x1C) 4 = c.lead % 2 ^ 32
      ∧ field u (o + 0x20) 4 = c.minCut % 2 ^ 32 ∧ field u (o + 0x24) 4 = c.strip % 2 ^ 32
      ∧ field u (o + 0x28) 4 = c.clearance % 2 ^ 32 ∧ field u (o + 0x2C) 4 = c.startGap % 2 ^ 32
      ∧ field u (o + 0x30) 4 = c.planAhead % 2 ^ 32 ∧ field u (o + 0x34) 4 = c.spare % 2 ^ 32
      ∧ field u (o + 0x38) 4 = c.tolerance % 2 ^ 32 ∧ field u (o + 0x3C) 4 = c.scoreLate % 2 ^ 32
      ∧ field u (o + 0x40) 4 = c.commitOffset % 2 ^ 32
    (p.slots[i] = .none → reads0 u o 0x48) ∧ (∀ c, p.slots[i] = .active c → holds 1 c)
      ∧ ∀ c, p.slots[i] = .draining c → holds 2 c)
  ∧ (p.opening = none → byteAt u 0x090 = 0xFF) ∧ (p.opening = some .change → byteAt u 0x090 = RowKind.change.code)
  ∧ (p.opening = some .brk → byteAt u 0x090 = RowKind.brk.code)
  ∧ byteAt u 0x091 = shown (p.rows ≠ []) + 2 * shown p.carried.isSome
  ∧ field u 0x092 2 = p.nextCut.toNat ∧ field u 0x094 4 = p.nextRow % 2 ^ 32
  ∧ (p.rows = [] → field u 0x098 8 = 0) ∧ (∀ r, p.rows.getLast? = some r → field u 0x098 8 = r.stop % 2 ^ 64)
  ∧ (p.carried = none → field u 0x0A0 4 = 0)
  ∧ (∀ e, p.carried = some e → field u 0x0A0 2 = e.left % 2 ^ 16 ∧ field u 0x0A2 2 = e.right % 2 ^ 16)
  ∧ byteAt u 0x0A4 = p.orders.length % 2 ^ 8 ∧ byteAt u 0x0A5 = p.rows.length % 2 ^ 8
  ∧ field u 0x0B0 4 = k.laid % 2 ^ 32 ∧ field u 0x0B4 4 = k.discarded % 2 ^ 32 ∧ field u 0x0B8 4 = k.starved % 2 ^ 32
  ∧ field u 0x0BC 4 = k.shifted % 2 ^ 32 ∧ field u 0x0C0 4 = k.reassigned % 2 ^ 32
  ∧ field u 0x0C4 4 = k.unsealed % 2 ^ 32 ∧ field u 0x0C8 4 = k.cut % 2 ^ 32 ∧ field u 0x0CC 4 = k.retired % 2 ^ 32
  ∧ (∀ i : Fin 40, byteAt u (0x0D0 + i) = g.table.weights[i] % 2 ^ 8)
  ∧ field u 0x0F8 5 = g.table.fatal.toNat ∧ byteAt u 0x0FD = g.table.edgeFactor % 2 ^ 8
  ∧ byteAt u 0x0FE = shown g.stagingFull ∧ field u 0x100 2 = g.table.ta % 2 ^ 16 ∧ field u 0x102 2 = g.table.tb % 2 ^ 16
  ∧ field u 0x104 2 = g.table.tc % 2 ^ 16
  ∧ (g.waiting = none → byteAt u 0x0FF = 0 ∧ byteAt u 0x106 = 0 ∧ field u 0x108 4 = 0)
  ∧ (∀ w, g.waiting = some w →
      byteAt u 0x0FF = w.need % 2 ^ 8 ∧ byteAt u 0x106 = 1 ∧ field u 0x108 4 = w.row % 2 ^ 32)
  ∧ field u 0x10C 4 = g.nextPlate % 2 ^ 32
  ∧ field u 0x110 4 = h.provisional % 2 ^ 32 ∧ field u 0x114 4 = h.plates % 2 ^ 32 ∧ field u 0x118 4 = h.cullet % 2 ^ 32
  ∧ field u 0x11C 4 = h.regraded % 2 ^ 32 ∧ field u 0x120 4 = h.rejects % 2 ^ 32
  ∧ field u 0x124 4 = h.stagingWaits % 2 ^ 32

/-- R119, R195: the orders and the rows of page 4. That a fallback's id goes on being shown after the order it names has left
the book, and that a cut that is not SCORED shows the offset 0, are the model's choices (logs 55, 62). -/
def State.showsOrdersAndRows (s : State) : Prop :=
  let u := s.snapshot 0x4000 4096
  let p := s.plan
  (∀ j, j < 32 →
    let o := 0x128 + 22 * j
    (p.orders[j]? = none → reads0 u o 22)
    ∧ ∀ x, p.orders[j]? = some x →
        field u o 2 = x.id % 2 ^ 16 ∧ byteAt u (o + 2) = x.laneMask.toNat ∧ byteAt u (o + 3) = x.grade.code
        ∧ byteAt u (o + 4) = x.priority % 2 ^ 8 ∧ byteAt u (o + 5) % 2 ^ 7 = x.state.code
        ∧ (byteAt u (o + 5)).testBit 7 = x.endCampaign ∧ field u (o + 6) 2 = x.fallback.getD 0 % 2 ^ 16
        ∧ field u (o + 8) 4 = x.length % 2 ^ 32 ∧ field u (o + 12) 2 = x.requested % 2 ^ 16
        ∧ field u (o + 14) 2 = x.made % 2 ^ 16 ∧ field u (o + 16) 2 = x.reserved % 2 ^ 16
        ∧ field u (o + 18) 2 = x.remaining % 2 ^ 16 ∧ field u (o + 20) 2 = x.planned % 2 ^ 16)
  ∧ ∀ j, j < 64 →
      let o := 0x400 + 48 * j
      let cut (at_ bit planned : Nat) (c : Option CutRef) : Prop :=
        (c = none → (byteAt u (o + 6)).testBit bit = false ∧ reads0 u at_ 6)
        ∧ ∀ x, c = some x →
            (byteAt u (o + 6)).testBit bit = true ∧ field u at_ 2 = x.num.toNat ∧ byteAt u (at_ + 2) = x.res.code
            ∧ (∀ line offset, x.res = .scored line offset → (field u (at_ + 4) 2 + planned) % 2 ^ 16 = line % 2 ^ 16)
            ∧ (x.res = .unresolved ∨ x.res = .missed → field u (at_ + 4) 2 = 0)
      (p.rows[j]? = none → reads0 u o 48)
      ∧ ∀ r, p.rows[j]? = some r →
          field u o 4 = r.num % 2 ^ 32 ∧ byteAt u (o + 4) = r.kind.code ∧ byteAt u (o + 5) = r.state.code
          ∧ byteAt u (o + 6) % 2 = r.slot.val ∧ (byteAt u (o + 6)).testBit 1 = r.unsealed
          ∧ byteAt u (o + 6) / 4 % 4 = r.shifts % 4 ∧ (byteAt u (o + 6)).testBit 6 = r.extremes.isSome
          ∧ field u (o + 8) 5 = r.start % 2 ^ 40 ∧ field u (o + 13) 5 = r.stop % 2 ^ 40
          ∧ cut (o + 18) 4 r.start r.leading ∧ cut (o + 24) 5 r.stop r.trailing
          ∧ (r.extremes = none → field u (o + 30) 4 = 0)
          ∧ (∀ e, r.extremes = some e → field u (o + 30) 2 = e.left % 2 ^ 16 ∧ field u (o + 32) 2 = e.right % 2 ^ 16)
          ∧ ∀ i, i < 4 →
              (r.lanes[i]? = none → reads0 u (o + 34 + 3 * i) 3)
              ∧ ∀ l, r.lanes[i]? = some l →
                  let b := byteAt u (o + 36 + 3 * i)
                  field u (o + 34 + 3 * i) 2 = l.order.getD 0 % 2 ^ 16
                  ∧ (l.provisional = none → b % 8 = 7) ∧ (∀ g, l.provisional = some g → b % 8 = g.code)
                  ∧ b.testBit 4 = l.reassigned ∧ b.testBit 5 = l.unsealed

/-- R129, R139, R195: page 5. That its input byte is the function input of R12, and that a cause, reason or actual line that a
cut does not have shows 0, are the model's choices (logs 38, 62). -/
def State.showsPage5 (s : State) : Prop :=
  let u := s.snapshot 0x5000 4096
  let l := s.link
  let k := l.counters
  byteAt u 0x000 = shown l.on ∧ byteAt u 0x001 = l.framer.state.code ∧ byteAt u 0x002 = shown l.ready
  ∧ byteAt u 0x003 = shown (s.pos.inputOf .inCutterReady) ∧ byteAt u 0x004 = shown s.readiness
  ∧ byteAt u 0x005 = shown l.notReady ∧ byteAt u 0x006 = l.txq.length % 2 ^ 8
  ∧ (l.shift = none → byteAt u 0x007 = 0) ∧ (∀ x, l.shift = some x → byteAt u 0x007 = x.frame.code.toNat)
  ∧ byteAt u 0x008 = shown l.lanesPending.isSome ∧ byteAt u 0x009 = l.settings.breakLen % 2 ^ 8
  ∧ byteAt u 0x00A = l.settings.ackTimeout % 2 ^ 8 ∧ byteAt u 0x00B = l.settings.repeats % 2 ^ 8
  ∧ field u 0x00C 4 = l.settings.rate % 2 ^ 32 ∧ field u 0x010 2 = l.next.toNat ∧ byteAt u 0x012 = l.cuts.length % 2 ^ 8
  ∧ field u 0x040 4 = k.sentCut % 2 ^ 32 ∧ field u 0x044 4 = k.sentLanes % 2 ^ 32 ∧ field u 0x048 4 = k.repeats % 2 ^ 32
  ∧ (∀ i : Fin 4, field u (0x04C + 4 * i) 4 = k.received[i] % 2 ^ 32)
  ∧ (∀ i : Fin 8, field u (0x05C + 4 * i) 4 = k.errors[i] % 2 ^ 32)
  ∧ field u 0x07C 4 = k.stray % 2 ^ 32 ∧ field u 0x080 4 = k.malformed % 2 ^ 32 ∧ field u 0x084 4 = k.late % 2 ^ 32
  ∧ field u 0x088 4 = k.unknown % 2 ^ 32 ∧ field u 0x08C 4 = k.duplicate % 2 ^ 32 ∧ field u 0x090 4 = k.refused % 2 ^ 32
  ∧ field u 0x094 4 = k.fullMisses % 2 ^ 32 ∧ (∀ i : Fin 7, field u (0x098 + 4 * i) 4 = k.missed[i] % 2 ^ 32)
  ∧ ∀ j, j < 16 →
      let o := 0x100 + 32 * j
      (l.cuts[j]? = none → reads0 u o 32)
      ∧ ∀ c, l.cuts[j]? = some c →
          field u o 2 = c.num.toNat ∧ byteAt u (o + 2) = c.status.code
          ∧ (byteAt u (o + 3)).testBit 0 = c.plateEnd ∧ (byteAt u (o + 3)).testBit 1 = !c.plateEnd
          ∧ (byteAt u (o + 3)).testBit 2 = c.offset ∧ byteAt u (o + 4) = c.repeats % 2 ^ 8
          ∧ (c.cause = none → byteAt u (o + 5) = 0) ∧ (∀ x, c.cause = some x → byteAt u (o + 5) = x.code.val)
          ∧ byteAt u (o + 6) = c.reason % 2 ^ 8 ∧ (c.timer = none → byteAt u (o + 7) = 0 ∧ byteAt u (o + 13) = 0)
          ∧ (∀ x, c.timer = some x → byteAt u (o + 7) = 1 ∧ byteAt u (o + 13) = x.count % 2 ^ 8)
          ∧ field u (o + 8) 5 = c.line % 2 ^ 40 ∧ field u (o + 16) 4 = c.gc % 2 ^ 32
          ∧ field u (o + 20) 4 = c.scoreLate % 2 ^ 32 ∧ field u (o + 24) 2 = c.tolerance % 2 ^ 16
          ∧ field u (o + 26) 5 = c.actual % 2 ^ 40

/-- R171, R195: page 6. That the fields of the pending report show 0 while the slot is EMPTY is the model's choice (log 62). -/
def State.showsPage6 (s : State) : Prop :=
  let u := s.snapshot 0x6000 4096
  let t := s.tally
  let report (code : Nat) (r : Report) : Prop :=
    byteAt u 0x028 = code ∧ byteAt u 0x029 = shown r.merged + 2 * shown r.clockSet + 4 * shown r.saturated
    ∧ field u 0x02C 4 = r.shift % 2 ^ 32 ∧ field u 0x030 4 = r.covered % 2 ^ 32 ∧ field u 0x034 4 = r.endTod % 2 ^ 32
    ∧ field u 0x038 2 = r.endDay.toNat
  field u 0x000 4 = t.shift % 2 ^ 32 ∧ field u 0x004 2 = t.start.day.toNat
  ∧ byteAt u 0x006 = shown t.start.clockSet + 2 * shown t.start.saturated ∧ field u 0x008 4 = t.start.tod % 2 ^ 32
  ∧ field u 0x00C 2 = (if t.live.gradedArea = 0 then 0 else 10000 * t.live.goodArea / t.live.gradedArea) % 2 ^ 16
  ∧ byteAt u 0x00E = t.plan.length % 2 ^ 8 ∧ field u 0x010 8 = t.start.line % 2 ^ 64
  ∧ (∀ j, j < 4 → field u (0x018 + 4 * j) 4 = (t.plan[j]?).getD 0 % 2 ^ 32)
  ∧ (t.slot = .empty → reads0 u 0x028 2 ∧ reads0 u 0x02C 14) ∧ (∀ r, t.slot = .waiting r → report 1 r)
  ∧ (∀ r fate, t.slot = .inFlight r fate → report 2 r)
  ∧ (t.deferred = none → byteAt u 0x02A = 0) ∧ (∀ c, t.deferred = some c → byteAt u 0x02A = c.code + 1)
  ∧ t.live.laidOut u ∧ field u 0x180 4 = t.closed % 2 ^ 32 ∧ field u 0x184 4 = t.merged % 2 ^ 32
  ∧ field u 0x188 4 = t.written % 2 ^ 32

/-- R193, R195: page 7, with the rings' states and indices. -/
def State.showsPage7 (s : State) : Prop :=
  let u := s.snapshot 0x7000 4096
  let e := s.ev
  (∀ k : Fin 32, (byteAt u k).testBit 0 = e.pending.getLsbD k ∧ (byteAt u k).testBit 1 = e.enable.getLsbD k
    ∧ (byteAt u k).testBit 2 = e.log.getLsbD k ∧ byteAt u k / 16 = (e.routes[k]).val)
  ∧ (∀ i : Fin 4, byteAt u (0x020 + i) = shown e.pulsed[i] ∧ (byteAt u 0x024).testBit i = e.level i
    ∧ (byteAt u 0x024).testBit (4 + i) = (e.gaps[i]).isSome)
  ∧ field u 0x028 4 = e.seq % 2 ^ 32 ∧ field u 0x02C 4 = e.lost % 2 ^ 32
  ∧ byteAt u 0x030 = s.rings[eventRing].staging.length % 2 ^ 8
  ∧ ∀ r : Fin 4,
      let g := s.rings[r]
      let o := 0x100 + 0x40 * r.val
      byteAt u o = g.state.code ∧ (r ≠ reportRing → byteAt u (o + 1) = g.staging.length % 2 ^ 8)
      ∧ (r = reportRing → byteAt u (o + 1) = shown (s.tally.slot ≠ .empty))
      ∧ field u (o + 2) 2 = g.issue.toNat ∧ field u (o + 4) 2 = g.published.toNat ∧ field u (o + 6) 2 = g.written.toNat
      ∧ field u (o + 8) 2 = g.consumer.toNat ∧ field u (o + 10) 2 = g.notify % 2 ^ 16
      ∧ field u (o + 12) 4 = g.capacity % 2 ^ 32 ∧ field u (o + 16) 8 = g.base % 2 ^ 64
      ∧ field u (o + 24) 4 = g.discarded % 2 ^ 32

end Sys2Proof.Machine
end

