-- ==== Sys2Proof/Certificates/Slice0/Obligations.lean ====
section
/-! DEFINITION. The statements for the provers. -/

open Sys2Proof Sys2Proof.Machine

/-! ## The queue and the step -/

/-- A step takes the command at the front and runs it with the queue's rest. -/
def Obligations.StepTakesFrontCommand : Prop :=
  ∀ (c : Instr) (rest : List Instr) (s : State), step { s with pending := c :: rest } = exec c { s with pending := rest }

/-- No command changes the commands that wait behind it. -/
def Obligations.StepLeavesRestOfQueue : Prop :=
  ∀ (c : Instr) (rest : List Instr) (s t : State), s.pending = c :: rest → step s = .next t → t.pending = rest

/-- The model's choice (log 3): on an empty queue a step is one microsecond of the time base, and counts nothing else. -/
def Obligations.IdleStepIsOneMicrosecond : Prop :=
  ∀ s : State, s.pending = [] →
    ∃ t, step s = .next t ∧ t.pos.ticks = min 999 (s.pos.ticks + 1) ∧ t.pos.ltrig = s.pos.ltrig.map (· + 1)
      ∧ t.path.hold = s.path.hold.map (fun h => { h with us := min 4294967295 (h.us + 1) })
      ∧ (∀ i : Fin 4, t.ev.gaps[i] = s.ev.gaps[i].map (· + 1))
      ∧ t = { s with pos := { s.pos with ticks := t.pos.ticks, ltrig := t.pos.ltrig },
                     path := { s.path with hold := t.path.hold }, ev := { s.ev with gaps := t.ev.gaps } }

/-! ## Invariants of every step -/

/-- R23: no command alters entry 0 of the window table. -/
def Obligations.StepKeepsControlWindow : Prop := ∀ s t : State, s.entryZero → step s = .next t → t.entryZero

/-- R21, R17, R2: neither queue ever holds more than 32 bursts, the time of day stays below 86,400,000, the phase stays below
the divider in READY and the deficit at or below 65,535; R40, R48: the pulse list keeps its order between the assembled line
number and the ribbon line number; the column store keeps its canonical form (the model's own form, log 30). -/
def Obligations.StepKeepsRanges : Prop :=
  ∀ s t : State, step s = .next t →
    (s.queuesBounded → t.queuesBounded) ∧ (s.clockInDay → t.clockInDay) ∧ (s.countsInRange → t.countsInRange)
      ∧ (s.colsCanonical → t.colsCanonical) ∧ (s.pulsesSound → t.pulsesSound)

/-- R89: at most one campaign slot is ACTIVE. -/
def Obligations.StepKeepsOneActiveCampaign : Prop := ∀ s t : State, s.oneActive → step s = .next t → t.oneActive

/-- R29, R22, R27: a write is held only at the head of the write queue, an untranslated write goes to its own address, and a
held write names no ring twice. -/
def Obligations.StepKeepsQueueSound : Prop := ∀ s t : State, s.queueSound → step s = .next t → t.queueSound

/-- R76, R94, R127, R129, R78, R187: no table or list below grows beyond its depth: the flaw map, the order book, the
outstanding cut list, the transmit queue, the staging of FLAW and of EVENT. -/
def Obligations.StepKeepsTablesBounded : Prop :=
  ∀ s t : State, s.tablesBounded → step s = .next t → t.tablesBounded

/-- The invariants hold right after reset. -/
def Obligations.ResetMeetsInvariants : Prop :=
  State.reset.entryZero ∧ State.reset.queuesBounded ∧ State.reset.clockInDay ∧ State.reset.colsCanonical
    ∧ State.reset.countsInRange ∧ State.reset.oneActive ∧ State.reset.queueSound ∧ State.reset.tablesBounded
    ∧ State.reset.pulsesSound

/-- R3: but for power-on reset and UNBIND, no step lowers the ribbon line number; none raises it by more than one, nor
beyond 2^40 − 1. -/
def Obligations.RibbonLineNeverFalls : Prop :=
  ∀ s t : State, (∀ k a b, s.pending.head? ≠ some (.powerOnReset k a b)) → s.pending.head? ≠ some .unbind →
    step s = .next t →
    s.pos.line ≤ t.pos.line ∧ t.pos.line ≤ s.pos.line + 1
      ∧ (s.pos.line ≤ 1099511627775 → t.pos.line ≤ 1099511627775)

/-- R26: no upstream write is forwarded into the record area or the producer word of a ring that is RUNNING: every write
that a step issues on behalf of the upstream port enables no byte there. -/
def Obligations.NoForwardedWriteHitsGuard : Prop :=
  ∀ s t : State, s.queueSound → step s = .next t →
    ∀ a ∈ t.path.down, a ∉ s.path.down → (∃ axi, a.what = .fwdWrite axi ∨ a.what = .posted axi) →
      ∀ r : Fin 4, t.rings[r].state = .running →
        ∀ x y, (x, y) ∈ enabledAt a.addr.toNat a.bytes →
          ¬ (t.rings[r].base ≤ x ∧ x < t.rings[r].base + 4)
            ∧ ¬ (t.rings[r].base + 64 ≤ x ∧ x < t.rings[r].base + 64 + t.rings[r].capacity * recordSize r)

/-! ## Reset -/

/-- R19, R23, R37, R174 and the reset rule of every block: what POWER_ON_RESET leaves. -/
def Obligations.PowerOnResetLeavesResetState : Prop :=
  ∀ (k : BitVec 4) (a b : Bool) (s : State),
    ∃ t, exec (.powerOnReset k a b) s = .next t
      ∧ t.cp.binding = .unbound ∧ t.cp.stage = .idle ∧ t.cp.chain = [] ∧ t.cp.consumer = 0 ∧ t.cp.known = 0
      ∧ t.cp.sequence = 0 ∧ t.cp.lastResult = .ok ∧ t.cp.holdLimit = 1000 ∧ t.cp.dispatched = none
      ∧ t.path.window[0].enable = true ∧ t.path.window[0].translate = false ∧ t.path.window[0].kind = .control
      ∧ t.path.window[0].base = BitVec.ofNat 40 (0x0080000000 + k.toNat * 0x0001000000)
      ∧ t.path.window[0].mask = 0xFFFFFFC000 ∧ (∀ i : Fin 16, i ≠ 0 → t.path.window[i].enable = false)
      ∧ t.path.writes = [] ∧ t.path.reads = [] ∧ t.path.hold = none ∧ t.path.counters = PathCounters.zero
      ∧ t.pos.pairA = a ∧ t.pos.pairB = b ∧ t.pos.line = 0 ∧ t.pos.phase = 0 ∧ t.pos.deficit = 0
      ∧ t.pos.run = .stalled ∧ t.pos.parked = false ∧ t.pos.broken = false ∧ t.pos.ltrig = none
      ∧ t.ing.captures = 0 ∧ t.ing.pulses = [] ∧ t.ing.assembled = 0 ∧ t.ing.pendingDetect = none
      ∧ t.blobs.entries = [] ∧ t.map.flaws = [] ∧ t.map.spans = [] ∧ t.map.nextFlaw = 1 ∧ t.map.retire = .all
      ∧ (∀ i : Fin 2, t.plan.slots[i] = .none) ∧ t.plan.orders = [] ∧ t.plan.rows = [] ∧ t.plan.nextRow = 1
      ∧ t.plan.nextCut = 1 ∧ t.link.on = false ∧ t.link.cuts = [] ∧ t.link.txq = [] ∧ t.link.shift = none
      ∧ t.link.next = 1 ∧ t.link.ready = false ∧ t.grader.nextPlate = 1 ∧ t.grader.waiting = none
      ∧ t.tally.live = Tallies.zero ∧ t.tally.shift = 1 ∧ t.tally.slot = .empty ∧ t.tally.plan = []
      ∧ t.ev.pending = 0 ∧ t.ev.enable = 0 ∧ t.ev.log = 0 ∧ t.ev.seq = 1 ∧ t.ev.lost = 0
      ∧ (∀ r : Fin 4, t.rings[r].state = .unset ∧ t.rings[r].staging = [] ∧ t.rings[r].discarded = 0)

/-- R182 and the UNBIND rule of every block: what UNBIND returns to its reset state, and what it keeps. That an IN_FLIGHT
report keeps the pending slot, to be dropped when its bursts complete, is the model's choice (log 23), and so are the values
of Ingest.initial for the registers whose reset values no rule gives (log 40), and the wrap of the completion sequence
(log 27). R173: the Tally Unit, with its shift start record, deferred-close mark and counters. -/
def Obligations.UnbindReturnsBlocksToReset : Prop :=
  ∀ (p : List Byte) (s : State), s.given .unbind p →
    ∃ t, exec .unbind s = .next t
      ∧ t.cp.binding = .unbound ∧ t.cp.stage = .idle ∧ t.cp.chain = [] ∧ t.cp.holdLimit = 1000
      ∧ t.cp.consumer = s.cp.consumer ∧ t.cp.known = s.cp.known ∧ t.cp.sequence = (s.cp.sequence + 1) % 2 ^ 32
      ∧ t.cp.lastResult = .ok ∧ t.cp.dispatched = none
      ∧ t.path.straps = s.path.straps ∧ t.path.window[0] = WinEntry.control s.path.straps
      ∧ (∀ i : Fin 16, i ≠ 0 → t.path.window[i].enable = false) ∧ t.path.counters = PathCounters.zero
      ∧ t.path.reads = s.path.reads
      ∧ t.pos.pairA = s.pos.pairA ∧ t.pos.pairB = s.pos.pairB ∧ t.pos.line = 0 ∧ t.pos.phase = 0 ∧ t.pos.deficit = 0
      ∧ t.pos.run = .stalled ∧ t.pos.parked = false ∧ t.pos.broken = false
      ∧ t.pos.ticks = s.pos.ticks ∧ t.pos.tod = s.pos.tod ∧ t.pos.day = s.pos.day
      ∧ (∀ i : Fin 6, t.pos.terms[i].filtered = s.pos.terms[i].filtered ∧ t.pos.terms[i].fn = .inGeneral
          ∧ t.pos.terms[i].activeLow = false)
      ∧ t.ing = Ingest.initial ∧ t.blobs = Blobs.initial ∧ t.map = FlawMap.initial ∧ t.plan = Planner.initial
      ∧ t.link = Link.initial ∧ t.grader = Grader.initial ∧ t.ev = Events.initial
      ∧ (∀ r : Fin 4, t.rings[r] = Ring.initial)
      ∧ t.tally.shift = s.tally.shift ∧ t.tally.live = Tallies.zero ∧ t.tally.plan = []
      ∧ t.tally.slot = (match s.tally.slot with
          | .inFlight r _ => .inFlight r .drop
          | _ => .empty)
      ∧ t.tally.start = { day := s.pos.day, tod := s.pos.tod, line := 0, clockSet := false, saturated := false }
      ∧ t.tally.deferred = none ∧ t.tally.closed = 0 ∧ t.tally.merged = 0 ∧ t.tally.written = 0

/-! ## Position (01) -/

/-- R1, R2: a forward count in READY, where no line trigger follows. -/
def Obligations.ForwardCountRepaysOrAdvances : Prop :=
  ∀ (a b : Bool) (s : State), s.cp.binding = .ready →
    (if s.pos.bLeads then (s.pos.pairA, s.pos.pairB) = grayNext (a, b) else (a, b) = grayNext (s.pos.pairA, s.pos.pairB)) →
    (0 < s.pos.deficit →
      exec (.encoderTransition a b) s =
        .next { s with pos := { s.pos with pairA := a, pairB := b, deficit := s.pos.deficit - 1 } })
    ∧ (s.pos.deficit = 0 → s.pos.phase + 1 < s.pos.dv →
      exec (.encoderTransition a b) s =
        .next { s with pos := { s.pos with pairA := a, pairB := b, phase := s.pos.phase + 1 } })
    ∧ (s.pos.deficit = 0 → s.pos.phase + 1 = s.pos.dv → s.pos.line = 1099511627775 →
      exec (.encoderTransition a b) s = .next { s with pos := { s.pos with pairA := a, pairB := b } })

/-- R1, R2: a backward count in READY; a change of both inputs; any change outside READY. -/
def Obligations.OtherEncoderChanges : Prop :=
  ∀ (a b : Bool) (s : State),
    let moved : State := { s with pos := { s.pos with pairA := a, pairB := b } }
    (s.cp.binding = .ready → s.pos.deficit ≤ 65535 →
      (if s.pos.bLeads then (a, b) = grayNext (s.pos.pairA, s.pos.pairB)
       else (s.pos.pairA, s.pos.pairB) = grayNext (a, b)) →
      (s.pos.deficit = 65535 →
        exec (.encoderTransition a b) s =
          .next { s with pos := { moved.pos with lostBack := min 65535 (s.pos.lostBack + 1) } })
      ∧ (0 < s.pos.deficit → s.pos.deficit < 65535 →
        exec (.encoderTransition a b) s = .next { s with pos := { moved.pos with deficit := s.pos.deficit + 1 } })
      ∧ (s.pos.deficit = 0 →
        exec (.encoderTransition a b) s =
          .next (({ s with pos := { moved.pos with deficit := 1 } } : State).raise .encoderReverse s.pos.line
            s.pos.phase)))
    ∧ (s.cp.binding = .ready → a ≠ s.pos.pairA → b ≠ s.pos.pairB →
      exec (.encoderTransition a b) s =
        .next { s with pos := { moved.pos with encErr := min 65535 (s.pos.encErr + 1) } })
    ∧ (s.cp.binding ≠ .ready → exec (.encoderTransition a b) s = .next moved)

/-- R2 to R4, R6, R40: the forward count that fills the line: a line trigger, and what the Position Unit and the pulse list
hold after it; R136: no unresolved cut is left whose score deadline the new line number has reached. R48, R49, R59, R60: the
assembly of the next line, its hand-over with spans and tallies, and the joining of runs at a seam. That a pending DETECT is adopted at any assembled line, pulsed or not, is the model's choice (log 36). -/
def Obligations.LineTriggerAdvancesLine : Prop :=
  (∀ (a b : Bool) (s : State), s.cp.binding = .ready → s.pos.deficit = 0 → s.pos.phase + 1 = s.pos.dv →
    s.pos.line < 1099511627775 →
    (if s.pos.bLeads then (s.pos.pairA, s.pos.pairB) = grayNext (a, b) else (a, b) = grayNext (s.pos.pairA, s.pos.pairB)) →
    let cams := s.ing.cams
    ∃ t, exec (.encoderTransition a b) s = .next t
      ∧ t.pos = { s.pos with
          pairA := a, pairB := b, phase := 0, line := s.pos.line + 1, stallTimer := 0, stallRunning := true,
          run := .running, parkTriggers := t.pos.parkTriggers, overruns := t.pos.overruns, ltrig := t.pos.ltrig }
      ∧ t.pos.parkTriggers = (if s.pos.parked then min 4294967295 (s.pos.parkTriggers + 1) else s.pos.parkTriggers)
      ∧ t.tally.live.triggered = tallyAdd s.tally.live.triggered 1
      ∧ (∀ y ∈ t.link.cuts, y.isResolved = false → s.pos.line + 1 < y.line + y.gc + y.scoreLate)
      ∧ (s.pos.broken ∨ s.pos.parked →
          t.pos.ltrig = s.pos.ltrig ∧ t.pos.overruns = s.pos.overruns
          ∧ t.ing.captures = s.ing.captures ∧ ∀ p ∈ t.ing.pulses, p ∈ s.ing.pulses)
      ∧ (¬ s.pos.broken → ¬ s.pos.parked →
          (s.pos.ltrig.isSome →
            t.pos.ltrig = s.pos.ltrig ∧ t.pos.overruns = min 65535 (s.pos.overruns + 1)
            ∧ t.ing.captures = s.ing.captures
            ∧ ∀ i : Fin 8, cams[i].cfg.enable = true →
                t.ing.cams[i].counters.lost[5] = inc32 cams[i].counters.lost[5] ∧ t.ev.pending.getLsbD 5 = true)
          ∧ (s.pos.ltrig = none →
            t.pos.ltrig = some 0 ∧ t.pos.ltrigHigh = true ∧ t.pos.overruns = s.pos.overruns
            ∧ t.ing.captures = s.ing.captures + 1
            ∧ (s.pulsesSound → (∃ i : Fin 8, cams[i].cfg.enable = true) →
                ∃ p, t.ing.pulses.getLast? = some p ∧ p.line = s.pos.line + 1 ∧ p.capture = some s.ing.captures
                  ∧ ∀ i : Fin 8, p.status[i] = if cams[i].cfg.enable then .pending else .off))
          ∧ (∀ (p : Pulse) (rest : List Pulse) (q : Nat) (i : Fin 8), s.ing.pulses = p :: rest → 256 ≤ rest.length + 1 →
              p.capture = some q → (∀ x ∈ rest, x.capture ≠ some q) → cams[i].cfg.enable = true → p.status[i] = .pending →
              t.ing.cams[i].counters.lost[4] = satAdd Config.max32 cams[i].counters.lost[4] 1
                ∧ t.ev.pending.getLsbD 5 = true)))
  ∧ (∀ s : State,
      let m := s.ing.assembled + 1
      let next (ps : List Pulse) : State := { s with ing := { s.ing with assembled := m, pulses := ps } }
      (s.pos.line < m → s.assemble = s)
      ∧ (m ≤ s.pos.line → (∀ p ∈ s.ing.pulses, p.line ≠ m) →
          s.assemble = ((next s.ing.pulses).handOver m none).assemble)
      ∧ (∀ (p : Pulse) (before after : List Pulse), m ≤ s.pos.line → s.ing.pulses = before ++ p :: after → p.line = m →
          (∀ x ∈ before, x.line ≠ m) →
          ((∃ i : Fin 8, p.status[i] = .pending) → s.assemble = s)
          ∧ ((∀ i : Fin 8, p.status[i] ≠ .pending) →
              s.assemble = ((next (s.ing.pulses.filter (fun x => x.line ≠ m))).handOver m (some p)).assemble)))
  ∧ (∀ (m : Nat) (entry : Option Pulse) (s : State), spansOrdered s.map.spans →
      let t := s.handOver m entry
      let old := s.tally.live
      t.ing.detect = s.ing.pendingDetect.getD s.ing.detect ∧ t.ing.pendingDetect = none
      ∧ (entry = none → t.tally.live.inspected = old.inspected)
      ∧ ∀ p : Pulse, entry = some p →
          let lost : Prop := p.capture = none ∨ ∃ i : Fin 8, p.status[i] = .lost
          let flood : Prop := ∃ (i : Fin 8) (r : LineResult), p.status[i] = .delivered r ∧ r.flood = true
          let learn : Prop := ∃ (i : Fin 8) (r : LineResult), p.status[i] = .delivered r ∧ r.learning = true
          let spanned (k : Fin 6) : Prop := t.tally.live.inspected = old.inspected
            ∧ (covered s.map.spans m → t.tally.live.uninspected[k] = tallyAdd old.uninspected[k] 0)
            ∧ (¬ covered s.map.spans m → t.tally.live.uninspected[k] = tallyAdd old.uninspected[k] 1)
          (lost → spanned 0) ∧ (¬ lost → flood → spanned 3) ∧ (¬ lost → ¬ flood → learn → spanned 2)
          ∧ (¬ lost → ¬ flood → ¬ learn → t.tally.live.inspected = tallyAdd old.inspected 1))
  ∧ ∀ (gc last first : Nat),
      (∀ (init : List Run) (x y : Run) (rest : List Run),
        (x.c1 = last → y.c0 = first → first - last ≤ gc + 1 →
          joinSeam gc (some last) first (init ++ [x]) (y :: rest) = init ++ [
            { c0 := x.c0, c1 := y.c1, dark := x.dark + y.dark, bright := x.bright + y.bright, peak := max x.peak y.peak,
              overflow := x.overflow || y.overflow, seam := true }] ++ rest)
        ∧ (x.c1 ≠ last ∨ y.c0 ≠ first ∨ gc + 1 < first - last →
          joinSeam gc (some last) first (init ++ [x]) (y :: rest) = init ++ [x] ++ y :: rest))
      ∧ (∀ runs rest : List Run, joinSeam gc none first runs rest = runs ++ rest)

/-- R4, R6, R191: the level of LTRIG while a pulse runs (the placing of its high part is the model's choice,
log 28), the ends of a pulse and of a gap, and the stall timer at its timeout. -/
def Obligations.TimersEnd : Prop :=
  (∀ p : Position, p.ltrigHigh = true ↔ ∃ us, p.ltrig = some us ∧ us < 2)
  ∧ ∀ s : State,
    exec .ltrigPulseEnd s = .next { s with pos := { s.pos with ltrig := none } }
    ∧ (∀ i : Fin 4, exec (.irqGapEnd i) s = .next { s with ev := { s.ev with gaps := s.ev.gaps.set i none } })
    ∧ (s.cp.binding = .ready → s.pos.stallRunning = true → s.pos.stallTimeout ≤ s.pos.stallTimer →
        (s.pos.run = .running →
          exec .stallTimeout s =
            .next (({ s with pos := { s.pos with stallRunning := false, run := .stalled, timeStalled := 0 } } :
              State).raise .ribbonStall s.pos.line s.pos.stallTimeout))
        ∧ (s.pos.run = .stalled →
          exec .stallTimeout s = .next { s with pos := { s.pos with stallRunning := false } }))

/-- R17, R6: an advance of the time of day. R10 to R13, R117, R165: what it samples at the terminals: an input whose level
stands for two samples takes it, and TERMINAL_CHANGE, the break, the gantry and a shift mark follow. -/
def Obligations.TimeOfDayAdvances : Prop :=
  ∀ (pins : BitVec 6) (s : State), s.pos.tod < 86400000 →
    ∃ t, exec (.timeOfDayAdvance pins) s = .next t
      ∧ t.pos.tod = (if s.pos.tod = 86399999 then 0 else s.pos.tod + 1)
      ∧ t.pos.day = (if s.pos.tod = 86399999 then s.pos.day + 1 else s.pos.day)
      ∧ t.pos.ticks = 0 ∧ t.pos.line = s.pos.line ∧ t.pos.phase = s.pos.phase ∧ t.pos.run = s.pos.run
      ∧ (s.cp.binding = .ready →
          t.pos.stallTimer = (if s.pos.stallRunning then min s.pos.stallTimeout (s.pos.stallTimer + 1)
                              else s.pos.stallTimer)
          ∧ t.pos.timeStalled = (if s.pos.run = .stalled then min 4294967295 (s.pos.timeStalled + 1)
                                 else s.pos.timeStalled))
      ∧ (s.cp.binding ≠ .ready → t.pos.stallTimer = s.pos.stallTimer ∧ t.pos.timeStalled = s.pos.timeStalled)
      ∧ (∀ i : Fin 6, s.pos.terms[i].fn.isInput = true →
          t.pos.terms[i] = { s.pos.terms[i] with
            sample := some (pins.getLsbD i),
            filtered := if s.pos.terms[i].sample = some (pins.getLsbD i) then
                          (if pins.getLsbD i then .high else .low)
                        else s.pos.terms[i].filtered }
          ∧ (s.pos.terms[i].filtered ≠ .undetermined → t.pos.terms[i].filtered ≠ s.pos.terms[i].filtered →
              t.ev.pending.getLsbD 29 = true))
      ∧ (∀ i : Fin 6, t.pos.terms[i].fn = s.pos.terms[i].fn ∧ t.pos.terms[i].activeLow = s.pos.terms[i].activeLow
          ∧ t.pos.terms[i].genActive = s.pos.terms[i].genActive)
      ∧ (s.pos.broken = s.pos.inputOf .inRibbonBreak → t.pos.broken = t.pos.inputOf .inRibbonBreak)
      ∧ (s.pos.broken ≠ t.pos.broken → t.ev.pending.getLsbD 16 = true)
      ∧ (s.pos.broken = false → t.pos.broken = true → ∀ r ∈ t.plan.rows, r.state ≠ .planned ∧ r.state ≠ .sealed)
      ∧ (s.pos.parked = (s.pos.parkCmd || s.pos.inputOf .inGantryParked) →
          t.pos.parked = (t.pos.parkCmd || t.pos.inputOf .inGantryParked))
      ∧ t.pos.parkCmd = s.pos.parkCmd
      ∧ (s.pos.inputOf .inShiftMark = false → t.pos.inputOf .inShiftMark = true →
          (s.tally.reportInFlight = false → t.ev.pending.getLsbD 27 = true)
          ∧ (s.tally.reportInFlight = true → t.tally.deferred ≠ none))
      ∧ ((∃ b ∈ s.tally.plan, b * 1000 = t.pos.tod) →
          (s.tally.reportInFlight = false → t.ev.pending.getLsbD 27 = true)
          ∧ (s.tally.reportInFlight = true → t.tally.deferred ≠ none))

/-! ## Events (10) -/

/-- R186: an occurrence sets the kind's pending flag; where the kind is logged, it takes the sequence number and asks for
a record. Only the Event Unit and EVENT staging change. -/
def Obligations.OccurrenceSetsPendingFlag : Prop :=
  ∀ (k : EventKind) (a b : Nat) (s : State),
    (s.raise k a b).ev.pending = s.ev.pending ||| (1#32 <<< k.num)
    ∧ (s.raise k a b).ev.enable = s.ev.enable ∧ (s.raise k a b).ev.routes = s.ev.routes
    ∧ (s.ev.log.getLsbD k.num = false → (s.raise k a b).ev.seq = s.ev.seq ∧ (s.raise k a b).rings = s.rings)
    ∧ (s.ev.log.getLsbD k.num = true →
        (s.raise k a b).ev.seq = (if s.ev.seq ≥ 4294967295 then 1 else s.ev.seq + 1)
        ∧ (s.rings[eventRing].state ≠ .unset → s.rings[eventRing].staging.length < 8 →
            (s.raise k a b).rings[eventRing].staging = s.rings[eventRing].staging ++
              [{ record := .event { kind := k, seq := s.ev.seq, line := s.pos.line, day := s.pos.day, tod := s.pos.tod,
                                    arg1 := a % 2 ^ 32, arg2 := b % 2 ^ 32 }, issued := none }]
            ∧ (s.raise k a b).ev.lost = s.ev.lost)
        ∧ (s.rings[eventRing].state = .unset ∨ 8 ≤ s.rings[eventRing].staging.length →
            (s.raise k a b).rings = s.rings ∧ (s.raise k a b).ev.lost = min 4294967295 (s.ev.lost + 1)))
    ∧ s.raise k a b = { s with ev := (s.raise k a b).ev, rings := (s.raise k a b).rings }
    ∧ ∀ r : Fin 4, r ≠ eventRing → (s.raise k a b).rings[r] = s.rings[r]

/-- R190, R191: the gap of a line after the kind `k` was acknowledged or occurred: a PULSED line makes or extends a gap
when its active set goes from one non-empty set to another, and has none once the set is empty; a LEVEL line has none. -/
def Obligations.PulsedLineMakesGap : Prop :=
  ∀ (f : Events → Events) (e : Events) (i : Fin 4),
    let old := e.activeSet i
    let new := (f e).activeSet i
    (e.change f).activeSet i = new
    ∧ ((f e).pulsed[i] = false → (e.change f).gaps[i] = none)
    ∧ (new = [] → (e.change f).gaps[i] = none)
    ∧ ((f e).pulsed[i] = true → old ≠ [] → new ≠ [] → old ≠ new → (e.change f).gaps[i] = some 0)
    ∧ ((f e).pulsed[i] = true → new ≠ [] → (old = [] ∨ old = new) → (e.change f).gaps[i] = (f e).gaps[i])
    ∧ ((e.change f).level i = true ↔ new ≠ [] ∧ (e.change f).gaps[i] = none)

/-! ## Answering commands (09) -/

/-- R176, R177: a command is answered: one result, written into every slot it occupied, in index order; where the last
announced slot has been taken, a write-back is due. R177: a write-back that is due waits while a result write is in flight,
and then goes out: the reported consumer index and the state word in one write, the fault-ack word between them not enabled.
Which hold it will release is fixed when it becomes due, which is the model's choice (log 41), and so are the wrap of the
completion sequence (log 27) and that slot bytes 12 to 15 are written with the result (log 66). -/
def Obligations.CommandAnswerWritesResults : Prop :=
  (∀ (c : Command) (code : ResultCode) (s : State), s.cp.dispatched = some c →
    let t := s.finish code false
    let results := resultWrites s.controlBase c.first code c.slots ((s.cp.sequence + 1) % 2 ^ 32) c.slots 0 s.path.nextAccess
    let answered : CmdProc := { s.cp with
        sequence := (s.cp.sequence + 1) % 2 ^ 32, lastResult := code, dispatched := none, wait := none,
        notify := if c.notify then s.cp.notify ++ [{ first := c.first, tag := c.tag, code := code }] else s.cp.notify }
    let written : Path := { s.path with down := s.path.down ++ results, nextAccess := s.path.nextAccess + c.slots }
    t = { s with cp := t.cp, path := t.path } ∧ t.cp = { answered with backDue := t.cp.backDue }
    ∧ (s.cp.consumer ≠ s.cp.known → t.path = written ∧ t.cp.backDue = s.cp.backDue)
    ∧ (s.cp.consumer = s.cp.known → 1 ≤ c.slots →
        t.path = written ∧ t.cp.backDue = some (match s.path.hold with
          | some h => if h.producer then some h.serial else none
          | none => none)))
  ∧ ∀ (hold : Option Nat) (s : State), s.cp.backDue = some hold →
      let issued (index : Idx) : State := { s with
        cp := { s.cp with backDue := none },
        path := { s.path with down := s.path.down ++ [headerWrite s index hold], nextAccess := s.path.nextAccess + 1 } }
      ((∃ a ∈ s.path.down, a.what.isResult = true) → s.writeBackIfDue = s)
      ∧ ((∀ a ∈ s.path.down, a.what.isResult = false) →
          (s.cp.stage ≠ .gather ∨ s.cp.chain = [] → s.writeBackIfDue = issued s.cp.consumer)
          ∧ (∀ x rest, s.cp.stage = .gather → s.cp.chain = x :: rest → s.writeBackIfDue = issued x.index))

/-- R181, R183: a command in a binding state that does not take it is refused with STATE, and changes nothing else:
the commands of READY in UNBOUND and BOUND, those of BOUND and READY in UNBOUND, BIND outside UNBOUND. -/
def Obligations.CommandsRefusedByBindingState : Prop :=
  ∀ (p : List Byte) (s : State),
    (s.cp.binding ≠ .ready →
      (s.given .detect p → exec .detect s = .next (s.finish .state false))
      ∧ (s.given .classify p → exec .classify s = .next (s.finish .state false))
      ∧ (s.given .gradeTable p → exec .gradeTable s = .next (s.finish .state false))
      ∧ (s.given .campaignBegin p → exec .campaignBegin s = .next (s.finish .state false))
      ∧ (s.given .campaignEnd p → exec .campaignEnd s = .next (s.finish .state false))
      ∧ (s.given .orderAdd p → exec .orderAdd s = .next (s.finish .state false))
      ∧ (s.given .orderCancel p → exec .orderCancel s = .next (s.finish .state false))
      ∧ (s.given .orderHold p → exec .orderHold s = .next (s.finish .state false))
      ∧ (s.given .orderRelease p → exec .orderRelease s = .next (s.finish .state false))
      ∧ (s.given .gantry p → exec .gantry s = .next (s.finish .state false))
      ∧ (s.given .linkSetup p → exec .linkSetup s = .next (s.finish .state false)))
    ∧ (s.cp.binding = .unbound →
      (s.given .ringSetup p → exec .ringSetup s = .next (s.finish .state false))
      ∧ (s.given .ringReset p → exec .ringReset s = .next (s.finish .state false))
      ∧ (s.given .eventSetup p → exec .eventSetup s = .next (s.finish .state false))
      ∧ (s.given .eventAck p → exec .eventAck s = .next (s.finish .state false))
      ∧ (s.given .setTime p → exec .setTime s = .next (s.finish .state false))
      ∧ (s.given .shiftPlan p → exec .shiftPlan s = .next (s.finish .state false))
      ∧ (s.given .shiftEnd p → exec .shiftEnd s = .next (s.finish .state false))
      ∧ (s.given .terminalSetup p → exec .terminalSetup s = .next (s.finish .state false))
      ∧ (s.given .terminalSet p → exec .terminalSet s = .next (s.finish .state false))
      ∧ (s.given .geometry p → exec .geometry s = .next (s.finish .state false)))
    ∧ (s.cp.binding ≠ .unbound → s.given .bind p → exec .bind s = .next (s.finish .state false))

/-- R24, R181: BIND in UNBOUND loads entries 1 to 15, takes the hold limit and makes the part BOUND, or is refused with
the code of the first check that fails: RANGE for a hold limit, kind, camera, mask, base or target, CONFLICT for two CAPTURE
entries of one camera and for a CAPTURE or LIVE entry that overlaps an enabled entry of lower number. That bits 2 to 7 of an
entry's first byte are ignored is the model's reading (log 61). -/
def Obligations.BindLoadsWindowTable : Prop :=
  (∀ (p : List Byte) (s : State), s.given .bind p → s.cp.binding = .unbound →
    (∀ code, bindCheck s.path.window[0] p = some code → exec .bind s = .next (s.finish code false))
    ∧ (bindCheck s.path.window[0] p = none →
        ∃ t, exec .bind s = .next (State.finish .ok false t)
          ∧ t = { s with path := { s.path with window := t.path.window },
                         cp := { s.cp with binding := .bound, holdLimit := field p 0x10E 2 } }
          ∧ t.path.window[0] = s.path.window[0]
          ∧ ∀ i : Fin 16, i ≠ 0 → t.path.window[i] =
              { enable := (byteAt p (18 * (i - 1))).testBit 0, translate := (byteAt p (18 * (i - 1))).testBit 1,
                kind := (WinKind.ofCode (byteAt p (18 * (i - 1) + 1))).getD .pass, camera := byteAt p (18 * (i - 1) + 2),
                base := BitVec.ofNat 40 (field p (18 * (i - 1) + 3) 5),
                mask := BitVec.ofNat 40 (field p (18 * (i - 1) + 8) 5),
                target := BitVec.ofNat 40 (field p (18 * (i - 1) + 13) 5) }))
  ∧ ∀ (zero : WinEntry) (p : List Byte),
      let e (i : Fin 16) : WinEntry := (bindTable zero p)[i]
      let ranges : Prop := 1 ≤ field p 0x10E 2
        ∧ ∀ i : Fin 16, i ≠ 0 →
            1 ≤ byteAt p (18 * (i - 1) + 1) ∧ byteAt p (18 * (i - 1) + 1) ≤ 3
            ∧ ((e i).kind = .capture → (e i).camera ≤ 7) ∧ (e i).mask.toNat % 4096 = 0
            ∧ (e i).base &&& ~~~ (e i).mask = 0
            ∧ ((e i).translate = true → (e i).target &&& ~~~ (e i).mask = 0)
      let twice : Prop := ∃ i j : Fin 16, i < j ∧ (e i).enable = true ∧ (e j).enable = true ∧ (e i).kind = .capture
        ∧ (e j).kind = .capture ∧ (e i).camera = (e j).camera
      let overlap : Prop := ∃ i j : Fin 16, i < j ∧ (e i).enable = true ∧ (e j).enable = true
        ∧ ((e j).kind = .capture ∨ (e j).kind = .live)
        ∧ ((e i).base ^^^ (e j).base) &&& (e i).mask &&& (e j).mask = 0
      (¬ ranges → bindCheck zero p = some .range)
      ∧ (ranges → twice ∨ overlap → bindCheck zero p = some .conflict)
      ∧ (ranges → ¬ twice → ¬ overlap → bindCheck zero p = none)

/-- R5, R38, R39, R181: GEOMETRY where it is accepted: refused with the code of the first check that fails, and taken
otherwise. In READY with a campaign or an order it is refused with STATE. R38: RANGE for a setting outside its range and for a
camera without a window that its ring fits into, CONFLICT for used ranges of enabled cameras that do not ascend. That
the entries of disabled cameras are checked too is the model's choice (log 17), and so are the learning state NONE, the start
capture 0 and the expected capture 0 of a camera left disabled (log 56). R56: the flood marks are clear after
GEOMETRY. 11.2: the payload's camera entries. -/
def Obligations.GeometryStartsCounting : Prop :=
  (∀ (p : List Byte) (s : State), s.given .geometry p →
    (s.cp.binding = .ready → (∃ i : Fin 2, s.plan.slots[i] ≠ .none) ∨ s.plan.orders ≠ [] →
      exec .geometry s = .next (s.finish .state false))
    ∧ (s.cp.binding = .bound ∨
        s.cp.binding = .ready ∧ (∀ i : Fin 2, s.plan.slots[i] = .none) ∧ s.plan.orders = [] →
      (∀ code, geoCheck s.path.window p = some code → exec .geometry s = .next (s.finish code false))
      ∧ (geoCheck s.path.window p = none →
          ∃ t, exec .geometry s = .next t ∧ s.answeredWith .ok t ∧ t.cp.binding = .ready
            ∧ t.pos = { s.pos with
                pitchE := byteAt p 0, dv := field p 2 2, bLeads := decide (byteAt p 1 = 1),
                stallTimeout := byteAt p 4 * 10, phase := 0, deficit := 0, stallTimer := 0, stallRunning := true,
                timeStalled := if s.cp.binding = .bound then 0 else s.pos.timeStalled }
            ∧ t.ing.captures = 0 ∧ t.ing.pulses = [] ∧ t.ing.pp = field p 6 2
            ∧ t.ing.holdLimit = (if byteAt p 5 = 0 then 20 else byteAt p 5) ∧ t.ing.cols = s.ing.cols
            ∧ ∀ i : Fin 8, t.ing.cams[i].cfg = geoCam p i ∧ t.ing.cams[i].expected = 0 ∧ t.ing.cams[i].bufA = .free
                ∧ t.ing.cams[i].bufB = .free ∧ t.ing.cams[i].openLine = none
                ∧ t.ing.cams[i].floodMark = false ∧ t.ing.cams[i].startCapture = 0
                ∧ t.ing.cams[i].learn = (if (geoCam p i).enable then .start else .none))))
  ∧ ∀ (win : Vector WinEntry 16) (p : List Byte),
      let c (i : Fin 8) : CamSettings := geoCam p i
      let window (i : Fin 8) (e : WinEntry) : Prop := e.enable = true ∧ e.kind = .capture ∧ e.camera = i.val
      let ranges : Prop :=
        1 ≤ byteAt p 0 ∧ byteAt p 0 ≤ 100 ∧ byteAt p 1 ≤ 1 ∧ 1 ≤ field p 2 2 ∧ field p 2 2 ≤ 1024 ∧ 1 ≤ byteAt p 4
        ∧ 20 ≤ byteAt p 0 * field p 2 2 ∧ byteAt p 0 * field p 2 2 ≤ 2000 ∧ 20 ≤ field p 6 2 ∧ field p 6 2 ≤ 400
        ∧ (∀ i : Fin 8, byteAt p (8 + 16 * i) ≤ 1 ∧ 512 ≤ (c i).width ∧ (c i).width ≤ 4096 ∧ (c i).width % 64 = 0
            ∧ (c i).first ≤ (c i).last ∧ (c i).last < (c i).width ∧ (c i).offset + ((c i).last - (c i).first) ≤ 32767
            ∧ 4 ≤ (c i).slots ∧ (c i).slots ≤ 256 ∧ (c i).stride % 64 = 0 ∧ (c i).width ≤ (c i).stride)
        ∧ (∃ i : Fin 8, (c i).enable = true)
        ∧ ∀ i : Fin 8, (c i).enable = true →
            ∃ j : Fin 16, window i win[j] ∧ (∀ k : Fin 16, k < j → ¬ window i win[k])
              ∧ (c i).slots * (c i).stride ≤ (~~~ win[j].mask).toNat + 1
      let apart : Prop := ∀ i j : Fin 8, i < j → (c i).enable = true → (c j).enable = true →
        (c i).offset + ((c i).last - (c i).first) < (c j).offset
      (¬ ranges → geoCheck win p = some .range)
      ∧ (ranges → ¬ apart → geoCheck win p = some .conflict) ∧ (ranges → apart → geoCheck win p = none)
      ∧ ∀ i : Fin 8,
          let o := 0x08 + 16 * i.val
          geoCam p i = { enable := decide (byteAt p o = 1), width := field p (o + 2) 2, first := field p (o + 4) 2,
                         last := field p (o + 6) 2, offset := field p (o + 8) 2, slots := field p (o + 10) 2,
                         stride := field p (o + 12) 4 }

/-- R60, R74, R141: the parameter commands in READY. R162, R188, R189: SHIFT_PLAN, EVENT_SETUP and EVENT_ACK in BOUND and
READY. The settings that DETECT, CLASSIFY and SHIFT_PLAN refuse with RANGE. 11.2: what the payloads of DETECT, CLASSIFY,
GRADE_TABLE and SHIFT_PLAN hold. That the bits of a byte that no bit field occupies are ignored is the model's reading
(log 61). -/
def Obligations.ParameterCommandsTakeEffect : Prop :=
  (∀ (p : List Byte) (s : State), s.cp.binding = .ready →
      (s.given .detect p → exec .detect s = .next (
        if (detectOf p).ok s.ing then State.finish .ok false { s with ing := { s.ing with pendingDetect := some (detectOf p) } }
        else s.finish .range false))
      ∧ (s.given .classify p → exec .classify s = .next (
        if (classifyOf p).ok then State.finish .ok false { s with blobs := { s.blobs with params := classifyOf p } }
        else s.finish .range false))
      ∧ (s.given .gradeTable p → exec .gradeTable s = .next (
        if (gradeTableOf p).edgeFactor ≤ 4 ∧ (gradeTableOf p).ta ≤ (gradeTableOf p).tb ∧ (gradeTableOf p).tb ≤ (gradeTableOf p).tc
        then State.finish .ok false { s with grader := { s.grader with table := gradeTableOf p } }
        else s.finish .range false)))
  ∧ (∀ (p : List Byte) (s : State), s.cp.binding ≠ .unbound →
      (s.given .shiftPlan p → exec .shiftPlan s = .next (
        if planOk p then State.finish .ok false { s with tally := { s.tally with plan := planOf p } }
        else s.finish .range false))
      ∧ (s.given .eventAck p → exec .eventAck s = .next (State.finish .ok false
          { s with ev := s.ev.change (fun e => { e with pending := e.pending &&& ~~~ (BitVec.ofNat 32 (field p 0 4)) }) }))
      ∧ (s.given .eventSetup p →
          ((∃ i : Fin 4, 1 < byteAt p (0x20 + i)) → exec .eventSetup s = .next (s.finish .range false))
          ∧ ((∀ i : Fin 4, byteAt p (0x20 + i) ≤ 1) →
              ∃ e, exec .eventSetup s = .next (State.finish .ok false { s with ev := s.ev.change (fun _ => e) })
                ∧ e.pending = s.ev.pending ∧ e.gaps = s.ev.gaps ∧ e.seq = s.ev.seq ∧ e.lost = s.ev.lost
                ∧ (∀ k : Fin 32, e.enable.getLsbD k = (byteAt p k).testBit 0 ∧ e.log.getLsbD k = (byteAt p k).testBit 1
                    ∧ (e.routes[k]).val = byteAt p k / 4 % 4)
                ∧ ∀ i : Fin 4, e.pulsed[i] = decide (byteAt p (0x20 + i) = 1))))
  ∧ (∀ (d : Detect) (g : Ingest),
      let within (r : Option (Nat × Nat)) : Prop := ∀ x, r = some x → x.1 ≤ x.2 ∧ ∃ i : Fin 8,
        g.cams[i].cfg.enable = true ∧ g.cams[i].cfg.offset ≤ x.1
          ∧ x.2 ≤ g.cams[i].cfg.offset + (g.cams[i].cfg.last - g.cams[i].cfg.first)
      d.ok g = true ↔
        16 ≤ d.learnLines ∧ d.learnLines ≤ 1024 ∧ 1 ≤ d.alpha ∧ d.alpha ≤ 10 ∧ 1 ≤ d.beta ∧ d.beta ≤ 10 ∧ 16 ≤ d.k
        ∧ 1 ≤ d.tmin ∧ d.tmin ≤ 64 ∧ d.initNoise ≤ 65280 ∧ 1 ≤ d.floodFraction ∧ d.gc ≤ 7 ∧ 1 ≤ d.lg ∧ d.lg ≤ 15
        ∧ 64 ≤ d.lmax ∧ d.lmax ≤ 4096 ∧ within d.left ∧ within d.right
        ∧ ∀ x y, d.left = some x → d.right = some y → x.2 < y.1)
  ∧ (∀ c : ClassParams, c.ok = true ↔
      100 ≤ c.large ∧ c.large ≤ 1000000 ∧ 17 ≤ c.scratch ∧ 1 ≤ c.stone ∧ 1 ≤ c.bounds[0]
        ∧ ∀ i j : Fin 7, i < j → c.bounds[i] < c.bounds[j])
  ∧ (∀ p : List Byte, planOk p = true ↔ byteAt p 0 ≤ 4
      ∧ (∀ j, j < byteAt p 0 → field p (4 + 4 * j) 4 ≤ 86399)
      ∧ ∀ j k, j < k → k < byteAt p 0 → field p (4 + 4 * j) 4 < field p (4 + 4 * k) 4)
  ∧ ∀ p : List Byte,
      let c := classifyOf p
      let g := gradeTableOf p
      let range (i o : Nat) : Option (Nat × Nat) :=
        if (byteAt p 0x10).testBit i then some (field p o 2, field p (o + 2) 2) else none
      detectOf p =
        { learnLines := field p 0x00 2, alpha := byteAt p 0x02, beta := byteAt p 0x03, k := byteAt p 0x04,
          tmin := byteAt p 0x05, initNoise := field p 0x06 2, floodFraction := byteAt p 0x08, edgeLevel := byteAt p 0x09,
          edgeGuard := byteAt p 0x0A, gc := byteAt p 0x0B, lg := byteAt p 0x0C, lmax := field p 0x0E 2,
          left := range 0 0x12, right := range 1 0x16 }
      ∧ c.large = field p 0x00 4 ∧ c.scratch = byteAt p 0x04 ∧ c.stone = byteAt p 0x05
      ∧ (∀ i : Fin 7, c.bounds[i] = field p (0x06 + 2 * i) 2)
      ∧ (∀ i : Fin 40, g.weights[i] = byteAt p i) ∧ g.fatal.toNat = field p 0x28 5 ∧ g.edgeFactor = byteAt p 0x2D
      ∧ g.ta = field p 0x2E 2 ∧ g.tb = field p 0x30 2 ∧ g.tc = field p 0x32 2
      ∧ (planOf p).length = min 4 (byteAt p 0x00)
      ∧ ∀ j, j < 4 → j < byteAt p 0x00 → (planOf p)[j]? = some (field p (0x04 + 4 * j) 4)

/-- R18, R164: SET_TIME in BOUND and READY. R165, R166, R170: SHIFT_END in BOUND and READY closes the shift, or defers the
close behind a report in flight. R163, R165, R166, R169: a close for any of its causes, and the merge of its report into one
that is waiting. That SET_TIME marks CLOCK_SET on the standing record also where the CLOCK close is deferred behind a report
in flight is the model's choice (log 21), and so is that a merged tally that comes to its maximum exactly sets SATURATED
(log 65). -/
def Obligations.ClockAndShiftCommandsTakeEffect : Prop :=
  (∀ (p : List Byte) (s : State), s.cp.binding ≠ .unbound → s.given .setTime p →
      (86400000 ≤ field p 4 4 → exec .setTime s = .next (s.finish .range false))
      ∧ (field p 4 4 < 86400000 →
          ∃ t, exec .setTime s = .next t ∧ s.answeredWith .ok t
            ∧ t.pos = { s.pos with day := BitVec.ofNat 16 (field p 0 2), tod := field p 4 4, ticks := 0 }
            ∧ t.tally.start.clockSet = true ∧ t.tally.plan = s.tally.plan
            ∧ (s.tally.reportInFlight = false →
                t.tally.shift =
                  if later s.pos.day.toNat s.pos.tod (field p 0 2) (field p 4 4)
                      ∧ boundaryBetween s.tally.plan s.pos.day.toNat s.pos.tod (field p 0 2) (field p 4 4)
                  then nextNumber s.tally.shift else s.tally.shift)))
  ∧ (∀ (p : List Byte) (s : State), s.cp.binding ≠ .unbound → s.given .shiftEnd p →
      (s.tally.reportInFlight = true →
        exec .shiftEnd s =
          .next { s with tally := { s.tally with deferred := some (s.tally.deferred.getD .command) },
                         cp := { s.cp with wait := some .close } })
      ∧ (s.tally.reportInFlight = false →
          ∃ t, exec .shiftEnd s = .next t ∧ s.answeredWith .ok t ∧ t.tally.live = Tallies.zero
            ∧ t.tally.shift = nextNumber s.tally.shift ∧ t.tally.closed = min 4294967295 (s.tally.closed + 1)
            ∧ t.tally.start = { day := s.pos.day, tod := s.pos.tod, line := s.pos.line, clockSet := false,
                                saturated := false }
            ∧ (s.tally.slot = .empty →
                t.tally.slot = .waiting
                  { shift := s.tally.shift, covered := 1, cause := .command, merged := false,
                    clockSet := s.tally.start.clockSet, saturated := s.tally.start.saturated,
                    yield := if s.tally.live.gradedArea = 0 then 0
                             else 10000 * s.tally.live.goodArea / s.tally.live.gradedArea,
                    startDay := s.tally.start.day, startTod := s.tally.start.tod, startLine := s.tally.start.line,
                    endDay := s.pos.day, endTod := s.pos.tod, endLine := s.pos.line, tallies := s.tally.live })
            ∧ t.pos = s.pos))
  ∧ ∀ (cause : CloseCause) (s : State),
      let t := s.closeShift cause
      let old := s.tally.live
      (s.boundaryTest = s.closeShift .boundary ∨ ∀ b ∈ s.tally.plan, b * 1000 ≠ s.pos.tod)
      ∧ ((∀ b ∈ s.tally.plan, b * 1000 ≠ s.pos.tod) → s.boundaryTest = s)
      ∧ (s.tally.reportInFlight = true →
          t = { s with tally := { s.tally with deferred := some (s.tally.deferred.getD cause) } })
      ∧ (s.tally.reportInFlight = false →
          t.tally.live = Tallies.zero ∧ t.tally.shift = nextNumber s.tally.shift
          ∧ t.tally.closed = inc32 s.tally.closed ∧ t.ev.pending.getLsbD 27 = true
          ∧ t.tally.start = { day := s.pos.day, tod := s.pos.tod, line := s.pos.line, clockSet := false, saturated := false }
          ∧ (s.tally.slot = .empty → t.tally.merged = s.tally.merged
              ∧ ∃ r, t.tally.slot = .waiting r ∧ r.shift = s.tally.shift ∧ r.covered = 1 ∧ r.cause = cause
                ∧ r.merged = false ∧ r.tallies = old)
          ∧ (∀ w, s.tally.slot = .waiting w →
              t.tally.merged = inc32 s.tally.merged ∧ t.ev.pending.getLsbD 28 = true
              ∧ ∃ r, t.tally.slot = .waiting r ∧ r.shift = w.shift ∧ r.covered = w.covered + 1 ∧ r.cause = cause
                ∧ r.merged = true ∧ r.clockSet = (w.clockSet || s.tally.start.clockSet)
                ∧ r.saturated = (w.saturated || s.tally.start.saturated || r.tallies.saturated)
                ∧ r.startDay = w.startDay ∧ r.startTod = w.startTod ∧ r.startLine = w.startLine
                ∧ r.endDay = s.pos.day ∧ r.endTod = s.pos.tod ∧ r.endLine = s.pos.line
                ∧ r.tallies.triggered = tallyAdd w.tallies.triggered old.triggered
                ∧ r.tallies.inspected = tallyAdd w.tallies.inspected old.inspected
                ∧ (∀ i : Fin 6, r.tallies.uninspected[i] = tallyAdd w.tallies.uninspected[i] old.uninspected[i])
                ∧ r.tallies.flaws = tallyAdd w.tallies.flaws old.flaws
                ∧ (∀ i : Fin 4, r.tallies.grades[i] = tallyAdd w.tallies.grades[i] old.grades[i]
                    ∧ r.tallies.outcomes[i] = tallyAdd w.tallies.outcomes[i] old.outcomes[i])
                ∧ r.tallies.committed = tallyAdd w.tallies.committed old.committed
                ∧ r.tallies.scored = tallyAdd w.tallies.scored old.scored
                ∧ r.tallies.missed = tallyAdd w.tallies.missed old.missed
                ∧ r.tallies.notMapped = tallyAdd w.tallies.notMapped old.notMapped
                ∧ r.tallies.culletRows = tallyAdd w.tallies.culletRows old.culletRows
                ∧ r.tallies.culletLines = tallyAdd w.tallies.culletLines old.culletLines
                ∧ r.tallies.offset = tallyAdd w.tallies.offset old.offset
                ∧ r.tallies.maxOffset = max w.tallies.maxOffset old.maxOffset
                ∧ (∀ i : Fin 8, r.tallies.linkErrors[i] = tallyAdd w.tallies.linkErrors[i] old.linkErrors[i])
                ∧ r.tallies.commands = tallyAdd w.tallies.commands old.commands
                ∧ r.tallies.goodArea = satAdd Config.max64 w.tallies.goodArea old.goodArea
                ∧ r.tallies.gradedArea = satAdd Config.max64 w.tallies.gradedArea old.gradedArea
                ∧ (∀ i : Fin 40, r.tallies.byClass[i] = tallyAdd w.tallies.byClass[i] old.byClass[i])
                ∧ r.yield = (if r.tallies.gradedArea = 0 then 0
                             else 10000 * r.tallies.goodArea / r.tallies.gradedArea)))

/-- R8, R7: GANTRY in READY; R121: LINK_SETUP in READY: the settings it refuses, and the frame only partly taken that it
drops; 11.2: its payload. That what the receiver holds and has lost while a frame is acted on is dropped with it, also where it belongs to no frame,
is the model's reading (log 60). -/
def Obligations.GantryAndLinkSetupTakeEffect : Prop :=
  (∀ (p : List Byte) (s : State), s.cp.binding = .ready →
    (s.given .gantry p →
      (1 < byteAt p 0 → exec .gantry s = .next (s.finish .range false))
      ∧ (byteAt p 0 ≤ 1 →
          ∃ t, exec .gantry s = .next t ∧ s.answeredWith .ok t
            ∧ t.pos = { s.pos with parkCmd := decide (byteAt p 0 = 1), parked := t.pos.parked,
                                   parkTriggers := t.pos.parkTriggers }
            ∧ t.pos.parked = (decide (byteAt p 0 = 1) || s.pos.inputOf .inGantryParked)
            ∧ (t.pos.parked = s.pos.parked → t.pos.parkTriggers = s.pos.parkTriggers ∧ t.ev.pending = s.ev.pending)
            ∧ (s.pos.parked = false → t.pos.parked = true → t.pos.parkTriggers = 0 ∧ t.ev.pending.getLsbD 14 = true)
            ∧ (s.pos.parked = true → t.pos.parked = false → t.ev.pending.getLsbD 15 = true)))
    ∧ (s.given .linkSetup p →
        ((linkOf p).ok = false → exec .linkSetup s = .next (s.finish .range false))
        ∧ ((linkOf p).ok = true →
            ∃ t, exec .linkSetup s = .next t ∧ s.answeredWith .ok t ∧ t.link.on = true ∧ t.link.settings = linkOf p
              ∧ t.link.framer = Framer.hunt ∧ t.link.heldChar = none ∧ t.link.heldBreak = false ∧ t.link.lost = 0
              ∧ t.link.acting = s.link.acting ∧ t.link.shift = s.link.shift ∧ t.link.next = s.link.next
              ∧ t.link.ready = s.link.ready ∧ t.link.counters = s.link.counters
              ∧ t.link.cuts.map (·.num) = s.link.cuts.map (·.num))))
  ∧ (∀ p : List Byte, (linkOf p).ok = true ↔ 9600 ≤ field p 0 4 ∧ field p 0 4 ≤ 1000000 ∧ 13 ≤ byteAt p 4
      ∧ byteAt p 4 ≤ 16 ∧ (byteAt p 6 ≤ 3 ∨ byteAt p 6 = 255))
  ∧ ∀ p : List Byte, linkOf p = { rate := field p 0x00 4, breakLen := byteAt p 0x04,
                                   ackTimeout := if byteAt p 0x05 = 0 then 20 else byteAt p 0x05,
                                   repeats := if byteAt p 0x06 = 0xFF then 1 else byteAt p 0x06 }

/-- R15, R16: the terminal commands in BOUND and READY. That a level byte from 2 to 255 stands for inactive is the model's
choice (log 35). -/
def Obligations.TerminalCommandsTakeEffect : Prop :=
  ∀ (p : List Byte) (s : State), s.cp.binding ≠ .unbound →
    (s.given .terminalSetup p → ∀ (i : Fin 6) (f : TermFn), byteAt p 0 = i.val → byteAt p 1 = f.code →
      (1 < byteAt p 2 ∨ s.pos.fnFree i f = false → exec .terminalSetup s = .next (s.finish .range false))
      ∧ (byteAt p 2 ≤ 1 → s.pos.fnFree i f = true →
          ∃ t, exec .terminalSetup s = .next t ∧ s.answeredWith .ok t
            ∧ t.pos.terms[i] = { s.pos.terms[i] with
                fn := f, activeLow := decide (byteAt p 2 = 1),
                genActive := decide (f = .outGeneral ∧ byteAt p 3 = 1) }
            ∧ ∀ j : Fin 6, j ≠ i → t.pos.terms[j] = s.pos.terms[j]))
    ∧ (s.given .terminalSetup p → 6 ≤ byteAt p 0 ∨ 8 ≤ byteAt p 1 →
        exec .terminalSetup s = .next (s.finish .range false))
    ∧ (s.given .terminalSet p → 6 ≤ byteAt p 0 → exec .terminalSet s = .next (s.finish .range false))
    ∧ (s.given .terminalSet p → ∀ i : Fin 6, byteAt p 0 = i.val →
        (s.pos.terms[i].fn ≠ .outGeneral → exec .terminalSet s = .next (s.finish .range false))
        ∧ (s.pos.terms[i].fn = .outGeneral →
            exec .terminalSet s = .next (State.finish .ok false
              { s with pos := { s.pos with
                  terms := s.pos.terms.set i { s.pos.terms[i] with genActive := decide (byteAt p 1 = 1) } } })))

/-! ## The memory path (02) -/

/-- R21, R22, R32: a burst joins its queue with its classification, a LIVE read with its snapshot, while the queue has room;
the fabric waits otherwise. The first entry that hits governs it, gives it its kind and, with translate on, its downstream
address; one that hits none is a PASS access at its own address, and one that crosses a page is not classified. That the
snapshot is that of the state before the read joins its queue, so that page 0 does not count the read, is the model's choice
(log 42), and so is that a burst no port can carry stops the model (log 25). R32, R195: a part of a page reads as in the whole
page, offsets beyond the eight pages read 0, and the pages hold the fields that 11.8 lists. R62, R87, R119, R139, R158, R171, R193: the
pages 2 to 7, as State.showsPage2 to State.showsPage7 say them; what fields show that have no value there is the model's
choice (logs 38, 48, 50, 51, 55, 62). -/
def Obligations.UpstreamBurstsJoinQueues : Prop :=
  (∀ (w : WriteBurst) (s : State), 1 ≤ w.bytes.length → w.bytes.length ≤ 256 →
    exec (.upstreamWriteArrival w) s = .next (
      if s.path.writes.length < 32 then
        { s with path := { s.path with
            writes := s.path.writes ++ [{ burst := w, cls := s.path.classify w.addr w.bytes.length }] } }
      else s))
  ∧ (∀ (r : ReadBurst) (s : State), 1 ≤ r.len → r.len ≤ 256 →
      (32 ≤ s.path.reads.length → exec (.upstreamReadArrival r) s = .next s)
      ∧ (s.path.reads.length < 32 →
          ∃ q, exec (.upstreamReadArrival r) s = .next { s with path := { s.path with reads := s.path.reads ++ [q] } }
            ∧ q.burst = r ∧ q.cls = s.path.classify r.addr r.len
            ∧ (q.cls.kind = .live → q.snapshot = s.snapshot q.cls.offset r.len)))
  ∧ (∀ (w : WriteBurst) (s : State), w.bytes.length = 0 ∨ 256 < w.bytes.length →
      exec (.upstreamWriteArrival w) s = .fault .malformedOperand)
  ∧ (∀ (r : ReadBurst) (s : State), r.len = 0 ∨ 256 < r.len → exec (.upstreamReadArrival r) s = .fault .malformedOperand)
  ∧ (∀ (p : Path) (a : Addr) (len : Nat),
      let hits (i : Fin 16) : Prop := p.window[i].enable = true ∧ a &&& p.window[i].mask = p.window[i].base
      ((p.classify a len).crossing = true ↔ 4096 < a.toNat % 4096 + len)
      ∧ (a.toNat % 4096 + len ≤ 4096 →
          (∀ i : Fin 16, hits i → (∀ j : Fin 16, j < i → ¬ hits j) →
            (p.classify a len).kind = p.window[i].kind ∧ (p.classify a len).camera = p.window[i].camera
            ∧ (p.classify a len).offset = (a &&& ~~~ p.window[i].mask).toNat
            ∧ (p.window[i].translate = true → p.window[i].kind ≠ .live →
                (p.classify a len).down = p.window[i].target ||| (a &&& ~~~ p.window[i].mask)
                  ∧ (p.classify a len).translated = true)
            ∧ (p.window[i].translate = false → (p.classify a len).down = a ∧ (p.classify a len).translated = false))
          ∧ ((∀ i : Fin 16, ¬ hits i) →
            (p.classify a len).kind = .pass ∧ (p.classify a len).down = a ∧ (p.classify a len).translated = false)))
  ∧ ∀ s : State,
      let page (k : Nat) : List Byte := s.snapshot (4096 * k) 4096
      let a := page 0
      let b := page 1
      let c := s.path.counters
      let p := s.pos
      (∀ off len, off % 4096 + len ≤ 4096 → s.snapshot off len = ((page (off / 4096)).drop (off % 4096)).take len)
      ∧ (∀ off len, 0x8000 ≤ off → s.snapshot off len = List.replicate len 0)
      ∧ byteAt a 0x000 = s.cp.binding.code ∧ byteAt a 0x001 = s.cp.stage.code ∧ byteAt a 0x002 = s.cp.lastResult.code
      ∧ byteAt a 0x003 = s.path.straps.toNat ∧ field a 0x004 2 = s.cp.consumer.toNat ∧ field a 0x006 2 = s.cp.known.toNat
      ∧ field a 0x008 4 = s.cp.sequence % 2 ^ 32 ∧ field a 0x00C 2 = s.cp.holdLimit % 2 ^ 16
      ∧ byteAt a 0x00E = s.path.writes.length % 2 ^ 8 ∧ byteAt a 0x00F = s.path.reads.length % 2 ^ 8
      ∧ (s.path.hold = none → byteAt a 0x010 = 0)
      ∧ (s.path.hold = none → field a 0x011 1 = 0 ∧ field a 0x012 2 = 0 ∧ field a 0x014 4 = 0)
      ∧ (∀ h, s.path.hold = some h → byteAt a 0x010 = (if h.producer then 2 else 1)
          ∧ (h.producer = false → byteAt a 0x011 = h.camera % 2 ^ 8) ∧ (h.producer = true → byteAt a 0x011 = 0)
          ∧ field a 0x012 2 = h.limit % 2 ^ 16 ∧ field a 0x014 4 = h.us % 2 ^ 32)
      ∧ field a 0x020 4 = c.readsForwarded % 2 ^ 32 ∧ field a 0x024 4 = c.writesForwarded % 2 ^ 32
      ∧ field a 0x028 4 = c.tapped % 2 ^ 32 ∧ field a 0x02C 4 = c.untapped % 2 ^ 32
      ∧ field a 0x030 4 = c.captureHolds % 2 ^ 32 ∧ field a 0x034 4 = c.captureExpiries % 2 ^ 32
      ∧ field a 0x038 4 = c.producerHolds % 2 ^ 32 ∧ field a 0x03C 4 = c.producerExpiries % 2 ^ 32
      ∧ field a 0x040 4 = c.liveReads % 2 ^ 32 ∧ field a 0x044 4 = c.liveWrites % 2 ^ 32
      ∧ field a 0x048 4 = c.guarded % 2 ^ 32 ∧ field a 0x04C 4 = c.consumerRejects % 2 ^ 32
      ∧ field a 0x050 4 = c.crossing % 2 ^ 32 ∧ field a 0x054 4 = c.memErrors % 2 ^ 32
      ∧ (∀ i : Fin 16,
          let o := 0x100 + 32 * i.val
          let e := s.path.window[i]
          (byteAt a o).testBit 0 = e.enable ∧ (byteAt a o).testBit 1 = e.translate ∧ byteAt a (o + 1) = e.kind.code
          ∧ byteAt a (o + 2) = e.camera % 2 ^ 8 ∧ field a (o + 8) 8 = e.base.toNat ∧ field a (o + 16) 8 = e.mask.toNat
          ∧ field a (o + 24) 8 = e.target.toNat)
      ∧ field b 0x000 8 = p.line % 2 ^ 64 ∧ field b 0x008 2 = p.phase % 2 ^ 16 ∧ field b 0x00A 2 = p.deficit % 2 ^ 16
      ∧ (byteAt b 0x00C).testBit 0 = p.pairA ∧ (byteAt b 0x00C).testBit 1 = p.pairB
      ∧ byteAt b 0x00D = (if p.run = .stalled then 1 else 0) ∧ byteAt b 0x00E = (if p.parked then 1 else 0)
      ∧ byteAt b 0x00F = (if p.parkCmd then 1 else 0) ∧ byteAt b 0x010 = (if p.broken then 1 else 0)
      ∧ field b 0x012 2 = p.stallTimeout % 2 ^ 16
      ∧ field b 0x014 4 = (if p.stallRunning then p.stallTimer % 2 ^ 32 else 0xFFFFFFFF)
      ∧ field b 0x018 2 = p.encErr % 2 ^ 16 ∧ field b 0x01A 2 = p.lostBack % 2 ^ 16 ∧ field b 0x01C 2 = p.overruns % 2 ^ 16
      ∧ field b 0x020 2 = p.day.toNat ∧ field b 0x024 4 = p.tod % 2 ^ 32
      ∧ s.showsPage2 ∧ s.showsPage3 ∧ s.showsPlanning ∧ s.showsOrdersAndRows ∧ s.showsPage5 ∧ s.showsPage6 ∧ s.showsPage7
      ∧ ∀ i : Fin 6,
          let o := 0x040 + 4 * i.val
          let e := p.terms[i]
          byteAt b o = e.fn.code ∧ byteAt b (o + 1) = (if e.activeLow then 1 else 0) ∧ byteAt b (o + 2) = e.filtered.code
          ∧ byteAt b (o + 3) = (if s.termActive e then 1 else 0)

/-- R27, R28, R29: a write that is forwarded: it leaves the queue for its downstream address, and each ring that was RUNNING
when it became the head, and whose consumer word it covers, adopts the new value when it lies between the observed consumer
and the producer written. That the word is recognised by the write's downstream address is the model's choice (log 12). -/
def Obligations.ForwardedWriteIsObserved : Prop :=
  ∀ (w : QueuedWrite) (what : AccessFor) (s : State), s.queueSound →
    let t := s.forwardHead w what
    let value (r : Fin 4) (a : Nat) : Idx :=
      BitVec.ofNat 16 (wordAfter s.rings[r].consumer.toNat w.cls.down.toNat w.burst.bytes a)
    let adopts (r : Fin 4) (a : Nat) : Prop :=
      (value r a - s.rings[r].consumer).toNat ≤ (s.rings[r].written - s.rings[r].consumer).toNat
    t = { s with path := t.path, rings := t.rings }
    ∧ t.path = { s.path.sent w what with counters := t.path.counters }
    ∧ (∀ (r : Fin 4) (a : Nat), s.takesConsumer w r a → adopts r a → t.rings[r] = { s.rings[r] with consumer := value r a })
    ∧ (∀ r : Fin 4, (∀ a, ¬ (s.takesConsumer w r a ∧ adopts r a)) → t.rings[r] = s.rings[r])
    ∧ ((∀ (r : Fin 4) (a : Nat), s.takesConsumer w r a → adopts r a) → t.path.counters = s.path.counters)
    ∧ (∀ (r : Fin 4) (a : Nat), s.takesConsumer w r a → ¬ adopts r a →
        (∀ (q : Fin 4) (b : Nat), q ≠ r → ¬ s.takesConsumer w q b) →
        t.path.counters = { s.path.counters with consumerRejects := inc32 s.path.counters.consumerRejects })

/-- R21, R27, R28: WRITE_AT_HEAD and CONSUMER_WORD_WRITE: a crossing write is answered with an error; another that hits no
guard is forwarded by its kind and counted. -/
def Obligations.PlainWriteForwardedOrRefused : Prop :=
  ∀ (w : QueuedWrite) (s : State),
    (s.heads .plain w → w.cls.crossing = true →
      exec .writeAtHead s = .next { s with path := { s.path.refused w with
        counters := { s.path.counters with crossing := inc32 s.path.counters.crossing } } })
    ∧ (∀ k, k = .plain ∨ k = .consumer → s.heads k w → w.cls.crossing = false → (∀ r, ¬ s.hitsGuard w r) →
        let f := s.forwardHead w (.fwdWrite w.burst.id)
        exec k.row s = .next { f with path := { f.path with
          counters := { f.path.counters with writesForwarded := inc32 f.path.counters.writesForwarded } } })

/-- R26: a guard hit, whatever row the write falls under, or when its hold ends: by the expiry of a producer or a capture
hold, by the release at a write-back, or by the renewed offer. It is answered with an error and not forwarded, and the lowest
ring it hits is reported. That the expiry counter rises all the same, and that Ingest is told of the expiry, is the model's
choice (log 36), and so is that a renewed offer is tested before it is made, so that nothing is tapped (log 64). -/
def Obligations.GuardHitIsRefused : Prop :=
  ∀ (w : QueuedWrite) (r : Fin 4) (s : State), w.cls.crossing = false → s.hitsGuard w r →
    (∀ q, q < r → ¬ s.hitsGuard w q) →
    let refused (p : Path) : State :=
      ({ s with path := { p.refused w with counters := { p.counters with guarded := inc32 p.counters.guarded } } } :
        State).raise .guardViolation w.burst.addr.toNat r.val
    let counted (c : PathCounters) : Path := { s.path with counters := c }
    (∀ k : HeadKind, s.heads k w → exec k.row s = .next (refused s.path))
    ∧ ∀ h ws, s.path.hold = some h → s.path.writes = w :: ws →
        (h.producer = true →
          exec .producerHoldExpiry s = .next (refused (counted { s.path.counters with
            producerExpiries := inc32 s.path.counters.producerExpiries })))
        ∧ (h.producer = false →
          exec .captureHoldExpiry s = .next ((refused (counted { s.path.counters with
            captureExpiries := inc32 s.path.counters.captureExpiries })).captureExpired w.cls.cam (s.slotOf w))
          ∧ s.reoffer = refused s.path)
        ∧ (∀ n, h.producer = true → s.headerInFlight = some (n, .writeBack (some h.serial)) →
          exec .writeBackDone s = .next (refused { s.path with down := s.path.down.filter (fun a => a.serial != n) }))

/-- R33: a LIVE write that hits no guard is not forwarded: it is answered with an error and counted, and GUARD_VIOLATION is
raised with the upstream address and the value 4. -/
def Obligations.LiveWriteIsRefused : Prop :=
  ∀ (w : QueuedWrite) (s : State), s.heads .live w → (∀ r, ¬ s.hitsGuard w r) →
    exec .liveWrite s = .next (({ s with path := { s.path.refused w with
      counters := { s.path.counters with liveWrites := inc32 s.path.counters.liveWrites } } } : State).raise
        .guardViolation w.burst.addr.toNat 4)

/-- R31, R175: a producer write at the head that hits no guard: forwarded at once in FAULT, or when it announces no slot;
held while 1 to 128 slots are announced; a fault with cause PRODUCER above that. -/
def Obligations.ProducerWriteAnnouncesSlots : Prop :=
  ∀ (w : QueuedWrite) (ws : List QueuedWrite) (s : State), s.path.writes = w :: ws → (∀ r, ¬ s.hitsGuard w r) →
    let known : Idx := BitVec.ofNat 16 (wordAfter s.cp.known.toNat w.burst.addr.toNat w.burst.bytes s.controlBase.toNat)
    let announced := (known - s.cp.consumer).toNat
    let held : State :=
      { s with
        cp := { s.cp with known := known, barrier := s.path.nextAccess },
        path := { s.path with
          hold := some { producer := true, camera := 0, limit := s.cp.holdLimit, us := 0, serial := s.path.nextAccess,
                         consumers := s.consumersOf w },
          counters := { s.path.counters with producerHolds := inc32 s.path.counters.producerHolds } } }
    (s.heads .producer w → s.isFaultAck w = false → exec .producerWrite s = .next (s.producerTaken w))
    ∧ (s.cp.stage = .fault → s.producerTaken w = State.forwardPlain w { s with cp := { s.cp with known := known } })
    ∧ (s.cp.stage ≠ .fault → announced = 0 → s.producerTaken w = held.forwardPlain w)
    ∧ (s.cp.stage ≠ .fault → 1 ≤ announced → announced ≤ 128 → s.producerTaken w = held)
    ∧ (s.cp.stage ≠ .fault → 128 < announced → s.producerTaken w = held.chainFault .producer [])
    ∧ (s.path.hold = none → ∀ (r : Fin 4) (a : Nat), (r, a) ∈ s.consumersOf w ↔ s.writesConsumer w r ∧ a = s.rings[r].base + 4)

/-- R31, R180: a fault-ack write is forwarded; in FAULT it returns the chain stage to IDLE and writes the state word, and
the stage is FAULT again at once when more than 128 slots are announced. A write to both words tells the Command Processor of
the fault-ack first, which is the model's choice (log 33). -/
def Obligations.FaultAckLeavesFault : Prop :=
  ∀ (w : QueuedWrite) (s : State), (∀ r, ¬ s.hitsGuard w r) →
    let idle (u : State) : State :=
      { u with
        cp := { u.cp with stage := .idle, lastResult := .ok, barrier := s.path.nextAccess },
        path := { u.path with
          down := u.path.down ++ [
            { serial := u.path.nextAccess, what := .header .faultAck, addr := s.controlBase + 12,
              bytes := [some (BitVec.ofNat 8 s.cp.binding.code), some 0, some 0, some 0], len := 0 }],
          nextAccess := u.path.nextAccess + 1 } }
    (s.heads .faultAck w →
      (s.cp.stage ≠ .fault → exec .faultAck s = .next (s.forwardPlain w))
      ∧ (s.cp.stage = .fault → (s.cp.known - s.cp.consumer).toNat ≤ 128 →
          exec .faultAck s = .next (idle (s.forwardPlain w)))
      ∧ (s.cp.stage = .fault → 128 < (s.cp.known - s.cp.consumer).toNat →
          exec .faultAck s = .next ((idle (s.forwardPlain w)).chainFault .producer [])))
    ∧ (s.heads .producer w → s.isFaultAck w = true →
        (s.cp.stage ≠ .fault → exec .producerWrite s = .next (s.producerTaken w))
        ∧ (s.cp.stage = .fault → (s.cp.known - s.cp.consumer).toNat ≤ 128 →
            exec .producerWrite s = .next ((idle s).producerTaken w))
        ∧ (s.cp.stage = .fault → 128 < (s.cp.known - s.cp.consumer).toNat →
            exec .producerWrite s = .next (((idle s).chainFault .producer []).producerTaken w)))

/-- R30: the Path Unit acts on the answer to the offer of a capture write that hits no guard. R30, R31, R44: the expiry of
a hold: the write is tested again, goes downstream and is counted; an expired capture write is answered OKAY, its slot
becomes the discard slot, and the captures up to its own are declared LOST by SKIP and EXPIRY unless the write is stale or
untriggered. That the lowest enabled byte of the write names its slot is the model's choice (log 47). -/
def Obligations.CaptureAndHeldWritesAreDealtWith : Prop :=
  (∀ (w : QueuedWrite) (s : State),
      let o := s.offer w.cls.cam w.cls.offset w.burst.bytes
      let f := o.1.forwardHead w (.posted w.burst.id)
      let posted : Path := { f.path with answers := f.path.answers ++ [writeAnswer w.burst.id true] }
      (s.heads .capture w → (∀ r, ¬ s.hitsGuard w r) → exec .captureWrite s = .next (s.offerWrite w))
      ∧ (o.2 = .tap → s.offerWrite w = { f with path := { posted with
        counters := { posted.counters with tapped := inc32 posted.counters.tapped } } })
      ∧ (o.2 = .pass → s.offerWrite w = { f with path := { posted with
        counters := { posted.counters with untapped := inc32 posted.counters.untapped } } })
      ∧ (o.2 = .wait → o.1 = s → s.offerWrite w = { s with path := { s.path with
        hold := some { producer := false, camera := w.cls.camera, limit := s.ing.holdLimit, us := 0,
                       serial := s.path.nextAccess, consumers := s.consumersOf w },
        counters := { s.path.counters with captureHolds := inc32 s.path.counters.captureHolds } } }))
  ∧ ∀ (h : Hold) (w : QueuedWrite) (ws : List QueuedWrite) (s : State), s.path.hold = some h → s.path.writes = w :: ws →
      (∀ r, ¬ s.hitsGuard w r) →
      (h.producer = true →
        exec .producerHoldExpiry s = .next (State.forwardPlain w { s with path := { s.path with
          counters := { s.path.counters with
            producerExpiries := inc32 s.path.counters.producerExpiries } } }))
      ∧ (h.producer = false →
          let cam := w.cls.cam
          let c := s.ing.cams[cam]
          let ahead := (s.slotOf w + c.cfg.slots - c.expected % c.cfg.slots) % c.cfg.slots
          let own := c.expected + ahead
          ∃ t, exec .captureHoldExpiry s = .next t
            ∧ t.path = (State.forwardPosted w { s with path := { s.path with
                counters := { s.path.counters with
                  captureExpiries := inc32 s.path.counters.captureExpiries } } }).path
            ∧ t.ing.cams[cam].discard = some (s.slotOf w)
            ∧ (c.cfg.slots ≤ 2 * ahead ∨ s.ing.captures ≤ own →
                t.ing.cams[cam] = { c with discard := some (s.slotOf w) })
            ∧ (2 * ahead < c.cfg.slots → own < s.ing.captures → s.pulsesSound →
                t.ing.cams[cam].expected = own + 1
                ∧ t.ing.cams[cam].counters.lost[0] = lostAfter c.counters.lost[0] (s.ing.pendingIn cam c.expected own)
                ∧ t.ing.cams[cam].counters.lost[1] = lostAfter c.counters.lost[1] (s.ing.pendingIn cam own (own + 1))
                ∧ (0 < s.ing.pendingIn cam c.expected (own + 1) → t.ev.pending.getLsbD 5 = true)
                ∧ t.ing.pendingIn cam c.expected (own + 1) = 0)
            ∧ t.pos = s.pos ∧ t.ing.cols = s.ing.cols ∧ t.cp.binding = s.cp.binding)

/-- R41 to R44: the answer to the offer of a capture write whose lowest enabled byte lies at offset `lo` of the window and
whose highest lies at `hi`; one that enables no byte is passed, which is the model's choice (log 13). That the
lowest enabled byte names the slot, and what a write across the end of the ring counts as, are the model's choices (log 47). -/
def Obligations.OfferAnswersBySlot : Prop :=
  (∀ (cam : Fin 8) (off : Nat) (bytes : List (Option Byte)) (s : State), enabledAt off bytes = [] →
    (s.offer cam off bytes).2 = .pass)
  ∧ ∀ (cam : Fin 8) (off lo hi : Nat) (bytes : List (Option Byte)) (s : State) (bl bh : Byte),
    (enabledAt off bytes).head? = some (lo, bl) → (enabledAt off bytes).getLast? = some (hi, bh) →
    let c := s.ing.cams[cam]
    let slot := lo / c.cfg.stride
    let ahead := (slot + c.cfg.slots - c.expected % c.cfg.slots) % c.cfg.slots
    let pixel : Prop := ∃ x y, (x, y) ∈ enabledAt off bytes ∧ x % c.cfg.stride < c.cfg.width
    (s.cp.binding ≠ .ready ∨ c.cfg.enable = false → (s.offer cam off bytes).2 = .pass)
    ∧ (s.cp.binding = .ready → c.cfg.enable = true →
        (c.cfg.slots * c.cfg.stride ≤ lo ∨ slot ≠ hi / c.cfg.stride ∨ ¬ pixel → (s.offer cam off bytes).2 = .pass)
        ∧ (lo < c.cfg.slots * c.cfg.stride → slot = hi / c.cfg.stride → pixel →
            ((∃ o, c.openLine = some o ∧ o.slot = slot) → (s.offer cam off bytes).2 = .tap)
            ∧ ((∀ o, c.openLine = some o → o.slot ≠ slot) →
                (c.discard = some slot → s.offer cam off bytes = (s, .pass))
                ∧ (c.discard ≠ some slot →
                    (c.cfg.slots ≤ 2 * ahead ∨ s.ing.captures ≤ c.expected + ahead →
                      (s.offer cam off bytes).2 = .pass)
                    ∧ (2 * ahead < c.cfg.slots → c.expected + ahead < s.ing.captures →
                        ((s.offer cam off bytes).2 = .wait ↔
                          c.openLine = none ∧ c.bufA.isClassifying = true ∧ c.bufB.isClassifying = true)
                        ∧ ((s.offer cam off bytes).2 = .wait → (s.offer cam off bytes).1 = s)
                        ∧ ((s.offer cam off bytes).2 ≠ .wait →
                            (s.offer cam off bytes).2 = .tap
                            ∧ (s.offer cam off bytes).1.ing.cams[cam].expected = c.expected + ahead + 1))))))

/-- R21, R28, R29, R30, R32: the release of the read at a place of the read queue; an OKAY answer of memory to a forwarded
access goes upstream, but for a posted write. R176, R177: the OKAY answer to a result write, which the table gives no row of
its own (log 41): CMD_DONE where no write of that result is left in flight, and the write-back that waits for it. That a queued
LIVE or crossing write, which has no downstream address, holds a read back at its own address is the model's choice
(log 63). -/
def Obligations.ReadsAreReleasedAndAnswered : Prop :=
  (∀ (n : Nat) (r : QueuedRead) (s : State), s.path.reads[n]? = some r →
      let gone : Path := { s.path with reads := s.path.reads.eraseIdx n }
      let overlap : Prop := ∃ w ∈ s.path.writes, ∃ x, enables w.cls.down w.burst.bytes x
        ∧ r.cls.down.toNat ≤ x ∧ x < r.cls.down.toNat + r.burst.len
      ((∃ q ∈ s.path.reads.take n, q.burst.id = r.burst.id) → exec (.readRelease n) s = .next s)
      ∧ ((∀ q ∈ s.path.reads.take n, q.burst.id ≠ r.burst.id) →
          (r.cls.crossing = true → exec (.readRelease n) s = .next { s with path := { gone with
            answers := s.path.answers ++ [{ axi := r.burst.id, read := true, okay := false, data := [] }],
            counters := { s.path.counters with crossing := inc32 s.path.counters.crossing } } })
          ∧ (r.cls.crossing = false → r.cls.kind = .live → exec (.readRelease n) s = .next { s with path := { gone with
            answers := s.path.answers ++ [{ axi := r.burst.id, read := true, okay := true, data := r.snapshot }],
            counters := { s.path.counters with liveReads := inc32 s.path.counters.liveReads } } })
          ∧ (r.cls.crossing = false → r.cls.kind ≠ .live →
              (overlap → exec (.readRelease n) s = .next s)
              ∧ (¬ overlap → exec (.readRelease n) s = .next { s with path := { gone with
                  down := s.path.down ++ [{ serial := s.path.nextAccess, what := .fwdRead r.burst.id, addr := r.cls.down,
                                            bytes := [], len := r.burst.len }],
                  nextAccess := s.path.nextAccess + 1,
                  counters := { s.path.counters with
                    readsForwarded := inc32 s.path.counters.readsForwarded } } }))))
  ∧ ∀ (n : Nat) (data : List Byte) (a : InFlight) (s : State), s.inFlight n = some a →
      let landed : Path := { s.path with down := s.path.down.filter (fun x => x.serial != n) }
      (∀ id, a.what = .fwdRead id → exec (.forwardedResponse n data) s = .next { s with path := { landed with
        answers := s.path.answers ++ [{ axi := id, read := true, okay := true, data := data }] } })
      ∧ (∀ id, a.what = .fwdWrite id → exec (.forwardedResponse n data) s = .next { s with path := { landed with
        answers := s.path.answers ++ [writeAnswer id true] } })
      ∧ (∀ id, a.what = .posted id → exec (.forwardedResponse n data) s = .next { s with path := landed })
      ∧ (∀ first, a.what = .result first → exec (.forwardedResponse n data) s =
          .next (State.writeBackIfDue (State.raiseDone first { s with path := landed })))

/-! ## Memory errors and the rings (02, 09) -/

/-- R35, R177: an error that memory answers, to each kind of access in flight, and to the read of the slot that is due,
which faults with cause READ_ERROR and is not taken. A ring that stops: it is STOPPED first, so its records beyond the
published index are discarded and counted and their places in staging are free when MEM_ERROR and then RING_STOPPED are raised;
those not yet issued stay in staging, the answers to its records in flight no longer count, that to a producer word still
does, and the other rings stand, but for EVENT staging. R170: where the REPORT ring stops, a report in flight leaves the pending
slot, and a deferred close is then performed, whose report waits there. That an error to a write whose ring was reset is
counted only is the model's choice (log 43), and so are the notice of a command that a failed result write drops, so that no
CMD_DONE follows (log 9), and the saturation of the discarded-record count (log 54). -/
def Obligations.MemoryErrorIsHandled : Prop :=
  ((∀ (a : InFlight) (s : State), s.inFlight a.serial = some a →
        let s1 : State := { s with path := { s.path with
          down := s.path.down.filter (fun x => x.serial != a.serial),
          counters := { s.path.counters with memErrors := inc32 s.path.counters.memErrors } } }
        let told (source : Nat) : State := s1.raise .memError a.addr.toNat source
        let answered (read : Bool) (id : Nat) : State := { s1 with path := { s1.path with
          answers := s1.path.answers ++ [{ axi := id, read := read, okay := false, data := [] }] } }
        let run := exec (.memError (.access a.serial)) s
        (∀ id, a.what = .fwdRead id → run = .next (answered true id))
        ∧ (∀ id, a.what = .fwdWrite id → run = .next (answered false id))
        ∧ (∀ id, a.what = .posted id → run = .next (told 0))
        ∧ (∀ r i, a.what = .record r i .live → s.rings[r].state = .running → run = .next (s1.stopRing r a.addr 1))
        ∧ (∀ r i, a.what = .record r i .live → s.rings[r].state ≠ .running → run = .next (told 1))
        ∧ (∀ r i, a.what = .record r i .stopped → run = .next (told 1))
        ∧ (∀ r i, a.what = .record r i .discarded → run = .next s1)
        ∧ (∀ r v, a.what = .prodWord r v .live → s.rings[r].state = .running → run = .next (s1.stopRing r a.addr 2))
        ∧ (∀ r v, a.what = .prodWord r v .live → s.rings[r].state ≠ .running → run = .next (told 2))
        ∧ (∀ r v, a.what = .prodWord r v .stopped → run = .next (told 2))
        ∧ (∀ r v, a.what = .prodWord r v .discarded → run = .next s1)
        ∧ (∀ i, a.what = .result i → run = .next (State.writeBackIfDue { told 4 with cp := { s.cp with
            notify := s.cp.notify.filter (fun n => n.first ≠ i) } }))
        ∧ (∀ r, a.what = .ringHeader r → run = .next ((s1.stopRing r a.addr 2).finish .ok false))
        ∧ (∀ why, a.what = .header why → run = .next ((told 4).headerDone a.serial why)))
    ∧ ∀ s : State, s.slotDue = true →
        exec (.memError .slotRead) s = .next (State.chainFault .readError [] (({ s with path := { s.path with
          counters := { s.path.counters with memErrors := inc32 s.path.counters.memErrors } } } : State).raise .memError
            (s.controlBase + BitVec.ofNat 40 (0x2000 + s.cp.consumer.toNat % 128 * 64)).toNat 3)))
  ∧ ∀ (r : Fin 4) (addr : Addr) (source : Nat) (s : State),
      let t := s.stopRing r addr source
      let g := t.rings[r]
      let waiting := s.rings[r].staging.filter (fun e => e.issued.isNone)
      let record (kind : EventKind) (seq x y : Nat) : Staged :=
        { record := .event { kind := kind, seq := seq, line := s.pos.line, day := s.pos.day, tod := s.pos.tod,
                             arg1 := x % 2 ^ 32, arg2 := y % 2 ^ 32 },
          issued := none }
      g.state = .stopped ∧ g.base = s.rings[r].base ∧ g.capacity = s.rings[r].capacity ∧ g.issue = s.rings[r].issue
      ∧ g.published = s.rings[r].published ∧ g.written = s.rings[r].written ∧ g.consumer = s.rings[r].consumer
      ∧ g.discarded = min 4294967295 (s.rings[r].discarded + (s.rings[r].issue - s.rings[r].published).toNat)
      ∧ (r ≠ eventRing → g.staging = waiting)
      ∧ (r = eventRing → s.ev.log.getLsbD 31 = true → s.ev.log.getLsbD 3 = true → waiting.length + 2 ≤ 8 →
          g.staging = waiting ++ [record .memError s.ev.seq addr.toNat source,
            record .ringStopped (nextNumber s.ev.seq) r.val s.rings[r].written.toNat])
      ∧ t.ev.pending.getLsbD 31 = true ∧ t.ev.pending.getLsbD 3 = true
      ∧ (∀ a ∈ t.path.down, ∀ i, a.what ≠ .record r i .live)
      ∧ (∀ a ∈ s.path.down, ∀ v, a.what = .prodWord r v .live → a ∈ t.path.down)
      ∧ (∀ q : Fin 4, q ≠ r → q ≠ eventRing → t.rings[q] = s.rings[q])
      ∧ (∀ p : Report, r = reportRing → s.tally.slot = .inFlight p .accept →
          (s.tally.deferred = none → t.tally = { s.tally with slot := .empty })
          ∧ (∀ cause, s.tally.deferred = some cause →
              t.tally.deferred = none ∧ t.tally.live = Tallies.zero ∧ t.tally.shift = nextNumber s.tally.shift
              ∧ t.tally.closed = inc32 s.tally.closed ∧ t.ev.pending.getLsbD 27 = true
              ∧ ∃ n, t.tally.slot = .waiting n ∧ n.cause = cause ∧ n.shift = s.tally.shift ∧ n.covered = 1
                  ∧ n.tallies = s.tally.live))
      ∧ (r ≠ reportRing ∨ (∀ p : Report, s.tally.slot ≠ .inFlight p .accept) → t.tally = s.tally)
      ∧ t.pos = s.pos ∧ t.ing = s.ing

/-- R34, R169: the oldest staged record of a RUNNING ring with room is issued at the issue index; a WAITING report goes as
two bursts. A record that memory accepted leaves staging, and the published index advances over accepted records in order;
the producer word is written when the published index is ahead and none of the ring is in flight. R194 and 11.3 to 11.5: the
bytes of a FLAW, EVENT and PLATE record and of a report, with 0 in every byte that no field occupies. -/
def Obligations.RecordsAreIssuedAndPublished : Prop :=
  (∀ (r : Fin 4) (s : State), s.rings[r].state = .running →
      let g := s.rings[r]
      let address : Addr := BitVec.ofNat 40 (g.base + 64 + g.issue.toNat % g.capacity * recordSize r)
      ((g.issue - g.consumer).toNat < g.capacity - 1 → r ≠ reportRing → ∀ e : Staged,
          (∃ before after, g.staging = before ++ e :: after ∧ e.issued = none ∧ ∀ x ∈ before, x.issued ≠ none) →
          ∃ t, exec (.recordIssue r) s = .next t
            ∧ t = { s with path := t.path, rings := t.rings }
            ∧ t.path = { s.path with
                down := s.path.down ++ [
                  { serial := s.path.nextAccess, what := .record r g.issue .live, addr := address,
                    bytes := e.record.bytes.map some, len := 0 }],
                nextAccess := s.path.nextAccess + 1 }
            ∧ (∀ q : Fin 4, q ≠ r → t.rings[q] = s.rings[q])
            ∧ t.rings[r] = { g with issue := g.issue + 1, staging := t.rings[r].staging }
            ∧ t.rings[r].staging.map (·.record) = g.staging.map (·.record)
            ∧ { e with issued := some g.issue } ∈ t.rings[r].staging)
      ∧ ((g.issue - g.consumer).toNat < g.capacity - 1 → r = reportRing → ∀ p : Report, s.tally.slot = .waiting p →
          exec (.recordIssue r) s = .next { s with
            path := { s.path with
              down := s.path.down ++ [
                { serial := s.path.nextAccess, what := .record r g.issue .live, addr := address,
                  bytes := (p.bytes.take 256).map some, len := 0 },
                { serial := s.path.nextAccess + 1, what := .record r g.issue .live, addr := address + 256,
                  bytes := (p.bytes.drop 256).map some, len := 0 }],
              nextAccess := s.path.nextAccess + 2 },
            rings := s.rings.set r { g with issue := g.issue + 1 },
            tally := { s.tally with slot := .inFlight p .accept } })
      ∧ (g.capacity - 1 ≤ (g.issue - g.consumer).toNat → exec (.recordIssue r) s = .next s))
  ∧ (∀ (r : Fin 4) (s : State),
      let g := s.rings[r]
      (∀ i : Idx, r ≠ reportRing → (∃ a ∈ s.path.down, a.what = .record r i .live) →
        ∃ t, exec (.recordAccepted r i) s = .next t
          ∧ t = { s with path := t.path, rings := t.rings, grader := t.grader }
          ∧ t.path = { s.path with down := s.path.down.filter (fun a => a.what != .record r i .live) }
          ∧ (∀ q : Fin 4, q ≠ r → t.rings[q] = s.rings[q])
          ∧ t.rings[r] = { g with published := t.rings[r].published, accepted := t.rings[r].accepted,
                                  staging := g.staging.filter (fun e => e.issued ≠ some i) }
          ∧ (i ≠ g.published → g.published ∉ g.accepted →
              t.rings[r].published = g.published ∧ t.rings[r].accepted = g.accepted ++ [i])
          ∧ (i = g.published → g.accepted = [] → t.rings[r].published = g.published + 1 ∧ t.rings[r].accepted = [])
          ∧ (i = g.published → g.published + 1 ∈ g.accepted → g.published + 2 ∉ g.accepted →
              t.rings[r].published = g.published + 2)
          ∧ (∃ k : Nat, t.rings[r].published = g.published + BitVec.ofNat 16 k
              ∧ (∀ j, j < k → g.published + BitVec.ofNat 16 j ∈ g.accepted ++ [i])
              ∧ t.rings[r].published ∉ t.rings[r].accepted
              ∧ ∀ x : Idx, x ∈ t.rings[r].accepted ↔
                  x ∈ g.accepted ++ [i] ∧ ∀ j, j < k → x ≠ g.published + BitVec.ofNat 16 j)
          ∧ (r ≠ plateRing → t.grader = s.grader))
      ∧ (g.state = .running → g.published ≠ g.written → (∀ a ∈ s.path.down, ∀ v l, a.what ≠ .prodWord r v l) →
          exec (.producerWordWrite r) s = .next { s with path := { s.path with
            down := s.path.down ++ [
              { serial := s.path.nextAccess, what := .prodWord r g.published .live, addr := BitVec.ofNat 40 g.base,
                bytes := (toBytes 4 g.published.toNat).map some, len := 0 }],
            nextAccess := s.path.nextAccess + 1 } }))
  ∧ (∀ f : Flaw,
      let b := (Record.flaw f).bytes
      let flag (i : Nat) : Bool := (field b 0x06 2).testBit i
      b.length = 64 ∧ field b 0x00 4 = f.num % 2 ^ 32 ∧ byteAt b 0x04 = f.cls.code ∧ byteAt b 0x05 = f.bin % 2 ^ 8
      ∧ flag 0 = f.flags.forced ∧ flag 1 = f.flags.continued ∧ flag 2 = f.flags.seam ∧ flag 3 = f.flags.overflow
      ∧ flag 4 = f.notMapped ∧ flag 5 = f.nearSpan ∧ field b 0x06 2 < 2 ^ 6
      ∧ field b 0x08 8 = f.first % 2 ^ 64 ∧ field b 0x10 8 = f.last % 2 ^ 64
      ∧ field b 0x18 2 = f.c0 % 2 ^ 16 ∧ field b 0x1A 2 = f.c1 % 2 ^ 16 ∧ field b 0x1C 4 = f.widthUm % 2 ^ 32
      ∧ field b 0x20 4 = f.lengthUm % 2 ^ 32 ∧ field b 0x24 4 = (f.dark + f.bright) % 2 ^ 32
      ∧ field b 0x28 4 = f.dark % 2 ^ 32 ∧ field b 0x2C 4 = f.bright % 2 ^ 32 ∧ byteAt b 0x30 = f.peak % 2 ^ 8
      ∧ field b 0x34 2 = f.day.toNat ∧ field b 0x38 4 = f.tod % 2 ^ 32
      ∧ ∀ o ∈ [0x31, 0x32, 0x33, 0x36, 0x37, 0x3C, 0x3D, 0x3E, 0x3F], byteAt b o = 0)
  ∧ (∀ e : EventRec,
      let b := (Record.event e).bytes
      b.length = 32 ∧ byteAt b 0x00 = e.kind.num ∧ field b 0x04 4 = e.seq % 2 ^ 32 ∧ field b 0x08 5 = e.line % 2 ^ 40
      ∧ field b 0x0E 2 = e.day.toNat ∧ field b 0x10 4 = e.tod % 2 ^ 32 ∧ field b 0x14 4 = e.arg1 % 2 ^ 32
      ∧ field b 0x18 4 = e.arg2 % 2 ^ 32
      ∧ ∀ o ∈ [0x01, 0x02, 0x03, 0x0D, 0x1C, 0x1D, 0x1E, 0x1F], byteAt b o = 0)
  ∧ (∀ p : PlateRec,
      let b := (Record.plate p).bytes
      let flag (i : Nat) : Bool := (field b 0x2A 2).testBit i
      b.length = 64 ∧ field b 0x00 4 = p.num % 2 ^ 32 ∧ field b 0x04 4 = p.row % 2 ^ 32
      ∧ byteAt b 0x08 = p.lane.getD 0xFF % 2 ^ 8 ∧ byteAt b 0x09 = p.kind.code ∧ field b 0x0A 2 = p.order.getD 0 % 2 ^ 16
      ∧ (∀ g, p.provisional = some g → byteAt b 0x0C = g.code) ∧ (p.provisional = none → byteAt b 0x0C = 0xFF)
      ∧ (∀ g, p.grade = some g → byteAt b 0x0D = g.code) ∧ (p.grade = none → byteAt b 0x0D = 0xFF)
      ∧ byteAt b 0x0E = p.outcome.code ∧ field b 0x10 5 = p.start % 2 ^ 40 ∧ field b 0x15 5 = p.stop % 2 ^ 40
      ∧ field b 0x1A 5 = p.actualStart % 2 ^ 40 ∧ field b 0x1F 5 = p.actualStop % 2 ^ 40
      ∧ field b 0x24 2 = p.score % 2 ^ 16 ∧ field b 0x26 2 = p.flaws % 2 ^ 16 ∧ field b 0x28 2 = p.fatal % 2 ^ 16
      ∧ flag 0 = p.flags.uninspected ∧ flag 1 = p.flags.mapFull ∧ flag 2 = p.flags.unsealed ∧ flag 3 = p.flags.cutMissed
      ∧ flag 4 = p.flags.cutOffset ∧ flag 5 = p.flags.edgeShort ∧ flag 6 = p.flags.regraded
      ∧ flag 7 = p.flags.reassigned ∧ flag 8 = p.flags.shifted ∧ field b 0x2A 2 < 2 ^ 9
      ∧ field b 0x2C 2 = p.day.toNat ∧ field b 0x30 4 = p.tod % 2 ^ 32
      ∧ ∀ o ∈ [0x0F, 0x2E, 0x2F, 0x34, 0x35, 0x36, 0x37, 0x38, 0x39, 0x3A, 0x3B, 0x3C, 0x3D, 0x3E, 0x3F], byteAt b o = 0)
  ∧ ∀ r : Report,
      let b := r.bytes
      b.length = 512 ∧ field b 0x00 4 = r.shift % 2 ^ 32 ∧ field b 0x04 4 = r.covered % 2 ^ 32 ∧ byteAt b 0x08 = r.cause.code
      ∧ (byteAt b 0x09).testBit 0 = r.merged ∧ (byteAt b 0x09).testBit 1 = r.clockSet
      ∧ (byteAt b 0x09).testBit 2 = r.saturated ∧ byteAt b 0x09 < 2 ^ 3 ∧ field b 0x0A 2 = r.yield % 2 ^ 16
      ∧ field b 0x0C 2 = r.startDay.toNat ∧ field b 0x0E 2 = r.endDay.toNat ∧ field b 0x10 4 = r.startTod % 2 ^ 32
      ∧ field b 0x14 4 = r.endTod % 2 ^ 32 ∧ field b 0x18 8 = r.startLine % 2 ^ 64 ∧ field b 0x20 8 = r.endLine % 2 ^ 64
      ∧ r.tallies.laidOut b
      ∧ ∀ o, o < 512 → 0x28 ≤ o ∧ o < 0x40 ∨ 0x178 ≤ o → byteAt b o = 0

/-- R34, R192: the producer written takes the value that memory answered, also where the ring has been
STOPPED since, and RING_READY is raised when the unconsumed count reaches the notify count. -/
def Obligations.ProducerAdvanceRaisesRingReady : Prop :=
  ∀ (r : Fin 4) (v : Idx) (s : State), (∃ a ∈ s.path.down, a.what = .prodWord r v .live) →
    (∀ a ∈ s.path.down, ∀ u, a.what = .prodWord r u .live → u = v) →
    let g := s.rings[r]
    let before := (g.written - g.consumer).toNat
    let after := (v - g.consumer).toNat
    let t : State := { s with
      path := { s.path with down := s.path.down.filter (fun a => a.what != .prodWord r v .live) },
      rings := s.rings.set r { g with written := v } }
    (g.notify ≤ after ∧ before < g.notify → exec (.producerWordAnswered r) s = .next (t.raise .ringReady r.val after))
    ∧ (¬ (g.notify ≤ after ∧ before < g.notify) → exec (.producerWordAnswered r) s = .next t)

/-- R34, R169, R170: a report that memory accepted frees the pending slot and performs a deferred close, whose report enters
the slot. R173, R185: what becomes of a report whose discarded bursts complete: one of a ring that was reset waits again, and a
deferred close is then performed, its report merged into it. R165, R170: a SHIFT_END that waited for the close is answered OK.
That a report in flight at UNBIND keeps the pending slot until its bursts complete, and is dropped then, is the model's choice
(log 23), and so is that a merged sum that comes to its maximum exactly sets SATURATED (log 65). -/
def Obligations.ReportBurstsComplete : Prop :=
  ∀ (p : Report) (s : State),
    let closed (cause : CloseCause) (n : Report) (t : State) : Prop :=
      t.tally.slot = .waiting n ∧ n.cause = cause ∧ t.tally.live = Tallies.zero ∧ t.tally.shift = nextNumber s.tally.shift
        ∧ t.tally.closed = inc32 s.tally.closed ∧ t.tally.deferred = none ∧ t.ev.pending.getLsbD 27 = true
        ∧ n.endDay = s.pos.day ∧ n.endTod = s.pos.tod ∧ n.endLine = s.pos.line
        ∧ t.tally.start = { day := s.pos.day, tod := s.pos.tod, line := s.pos.line, clockSet := false, saturated := false }
        ∧ (s.cp.wait ≠ some .close → t.cp = s.cp)
        ∧ (∀ c, s.cp.wait = some .close → s.cp.dispatched = some c → s.answeredWith .ok t)
        ∧ t.pos = s.pos ∧ t.ing = s.ing
    let alone (n : Report) : Prop := n.shift = s.tally.shift ∧ n.covered = 1 ∧ n.merged = false ∧ n.tallies = s.tally.live
    let joined (n : Report) : Prop := n.shift = p.shift ∧ n.covered = p.covered + 1 ∧ n.merged = true
      ∧ n.tallies = p.tallies.merge s.tally.live ∧ n.clockSet = (p.clockSet || s.tally.start.clockSet)
      ∧ n.saturated = (p.saturated || s.tally.start.saturated || n.tallies.saturated)
      ∧ n.startDay = p.startDay ∧ n.startTod = p.startTod ∧ n.startLine = p.startLine
      ∧ n.yield = (if n.tallies.gradedArea = 0 then 0 else 10000 * n.tallies.goodArea / n.tallies.gradedArea)
    (∀ i : Idx, s.tally.slot = .inFlight p .accept → (∃ a ∈ s.path.down, a.what = .record reportRing i .live) →
      (∀ a ∈ s.path.down, ∀ j, a.what = .record reportRing j .live → j = i) →
      ∃ t, exec .reportAccepted s = .next t
        ∧ t.tally.written = min 4294967295 (s.tally.written + 1) ∧ t.tally.deferred = none
        ∧ (s.tally.deferred = none → t.tally.slot = .empty ∧ t.tally.shift = s.tally.shift
            ∧ t.path = { s.path with down := s.path.down.filter (fun a => a.what != .record reportRing i .live) })
        ∧ (∀ cause, s.tally.deferred = some cause →
            t.tally.merged = s.tally.merged ∧ ∃ n, closed cause n t ∧ alone n)
        ∧ t.pos = s.pos ∧ t.ing = s.ing)
    ∧ (s.tally.deferred = none →
        let landed (slot : ReportSlot) : State := { s with
          path := { s.path with down := s.path.down.filter (fun a =>
            !(a.ringLife reportRing == some .stopped || a.ringLife reportRing == some .discarded)) },
          tally := { s.tally with slot := slot } }
        (s.tally.slot = .inFlight p .wait → exec (.inFlightBurstsComplete reportRing) s = .next (landed (.waiting p)))
        ∧ (s.tally.slot = .inFlight p .drop → exec (.inFlightBurstsComplete reportRing) s = .next (landed .empty)))
    ∧ (∀ cause, s.tally.deferred = some cause →
        (s.tally.slot = .inFlight p .wait → ∃ t n, exec (.inFlightBurstsComplete reportRing) s = .next t
          ∧ closed cause n t ∧ joined n ∧ t.tally.merged = inc32 s.tally.merged ∧ t.ev.pending.getLsbD 28 = true)
        ∧ (s.tally.slot = .inFlight p .drop → ∃ t n, exec (.inFlightBurstsComplete reportRing) s = .next t
          ∧ closed cause n t ∧ alone n ∧ t.tally.merged = s.tally.merged))
    ∧ (∀ r : Fin 4, r ≠ reportRing → exec (.inFlightBurstsComplete r) s = .next { s with path := { s.path with
        down := s.path.down.filter (fun a =>
          !(a.ringLife r == some .stopped || a.ringLife r == some .discarded)) } })

/-- R184, R185: the ring commands in BOUND and READY, and the answer to a ring's header write; what the relations of a
RING_SETUP are, and what memory it may not share: the control region, the LIVE windows, and the rings that are not UNSET. That
the answer to a producer word write of the ring as it stood before RING_SETUP no longer counts is the model's choice (log 20),
and so are that RING_RESET discards the answers to the writes in flight of a ring that had been STOPPED before too (log 43), and
the saturation of the discarded-record count (log 54). -/
def Obligations.RingCommandsTakeEffect : Prop :=
  (∀ (r : Fin 4) (p : List Byte), setupRelations r p = true ↔
      (∃ k, 4 ≤ k ∧ k ≤ 16 ∧ field p 12 4 = 2 ^ k) ∧ 1 ≤ field p 16 2 ∧ field p 16 2 < field p 12 4
      ∧ 64 ∣ field p 4 5 ∧ (r = reportRing → 256 ∣ field p 4 5 + 64)
      ∧ field p 4 5 + 64 + field p 12 4 * recordSize r ≤ 2 ^ 40)
  ∧ (∀ (r : Fin 4) (lo hi : Nat) (s : State), lo < hi → hi ≤ 2 ^ 40 →
      (s.setupFree r lo hi = true ↔ ∀ x, lo ≤ x → x < hi →
        ¬ (s.controlBase.toNat ≤ x ∧ x < s.controlBase.toNat + 0x4000)
        ∧ (∀ i : Fin 16, s.path.window[i].enable = true → s.path.window[i].kind = .live →
            BitVec.ofNat 40 x &&& s.path.window[i].mask ≠ s.path.window[i].base &&& s.path.window[i].mask)
        ∧ ∀ q : Fin 4, q ≠ r → s.rings[q].state ≠ .unset →
            ¬ (s.rings[q].base ≤ x ∧ x < s.rings[q].base + 64 + s.rings[q].capacity * recordSize q)))
  ∧ ∀ (p : List Byte) (s : State),
    (s.cp.binding ≠ .unbound → 4 ≤ byteAt p 0 →
      (s.given .ringSetup p → exec .ringSetup s = .next (s.finish .notFound false))
      ∧ (s.given .ringReset p → exec .ringReset s = .next (s.finish .notFound false)))
    ∧ (∀ r : Fin 4, s.cp.binding ≠ .unbound → byteAt p 0 = r.val →
        (s.given .ringSetup p →
          (s.rings[r].state = .running → exec .ringSetup s = .next (s.finish .state false))
          ∧ (s.rings[r].state ≠ .running → setupRelations r p = false →
              exec .ringSetup s = .next (s.finish .range false))
          ∧ (s.rings[r].state ≠ .running → setupRelations r p = true →
              s.setupFree r (field p 4 5) (field p 4 5 + 64 + field p 12 4 * recordSize r) = false →
              exec .ringSetup s = .next (s.finish .conflict false))
          ∧ (s.rings[r].state ≠ .running → setupRelations r p = true →
              s.setupFree r (field p 4 5) (field p 4 5 + 64 + field p 12 4 * recordSize r) = true →
              exec .ringSetup s = .next { s with
                rings := s.rings.set r { s.rings[r] with
                  base := field p 4 5, capacity := field p 12 4, notify := field p 16 2, issue := 0, published := 0,
                  written := 0, consumer := 0, accepted := [] },
                path := { s.path with
                  down := s.path.down.map (fun a =>
                    if a.what.isWordOf r then { a with what := a.what.withLife .stopped } else a) ++ [
                    { serial := s.path.nextAccess, what := .ringHeader r, addr := BitVec.ofNat 40 (field p 4 5),
                      bytes := List.replicate 8 (some 0), len := 0 }],
                  nextAccess := s.path.nextAccess + 1 },
                cp := { s.cp with wait := some (.header r) } }))
        ∧ (s.given .ringReset p →
            (s.rings[r].state = .unset → exec .ringReset s = .next (s.finish .ok false))
            ∧ (s.rings[r].state ≠ .unset →
                ∃ t, exec .ringReset s = .next t ∧ s.answeredWith .ok t
                  ∧ t.rings[r] = { Ring.initial with discarded := t.rings[r].discarded }
                  ∧ t.rings[r].discarded = (if r = reportRing then s.rings[r].discarded
                      else min 4294967295 (s.rings[r].discarded + s.rings[r].staging.length))
                  ∧ (∀ a ∈ t.path.down, ∀ i l, a.what = .record r i l ∨ a.what = .prodWord r i l → l = .discarded)
                  ∧ (∀ q : Fin 4, q ≠ r → t.rings[q] = s.rings[q])
                  ∧ (r ≠ reportRing → t.tally = s.tally)
                  ∧ (∀ x, r = reportRing → s.tally.slot = .waiting x → t.tally.slot = .waiting x)
                  ∧ (∀ x, r = reportRing → s.tally.slot = .inFlight x .accept → t.tally.slot = .inFlight x .wait)
                  ∧ t.pos = s.pos ∧ t.cp.binding = s.cp.binding)))
    ∧ (∀ (r : Fin 4) (c : Command), s.cp.wait = some (.header r) → s.cp.dispatched = some c →
        ∃ t, exec .ringHeaderWritten s = .next t ∧ s.answeredWith .ok t
          ∧ t.rings[r] = { s.rings[r] with state := .running } ∧ (∀ q : Fin 4, q ≠ r → t.rings[q] = s.rings[q])
          ∧ t.pos = s.pos ∧ t.cp.binding = s.cp.binding)

/-! ## Slots (09) -/

/-- R175, R176, R178, R183: the slot that is due is taken: it is applied alone, buffered, applied with the chain it ends, or
breaks the chain. A command that is dispatched is counted, answered UNKNOWN where its kind is none and RANGE where its
number of slots is another, and given to its block otherwise. That no slot is due while a write-back is due or under way is
the model's choice (log 10), and so is that bits 2 to 7 of the flags byte are ignored (log 61). -/
def Obligations.SlotIsTakenByChainStage : Prop :=
  (∀ (bytes : List Byte) (s : State), bytes.length = 64 → s.slotDue = true →
      let kind := bytes.headD 0
      let chained := (byteAt bytes 1).testBit 0
      let slot : ChainSlot :=
        { index := s.cp.consumer, kind := kind, tag := field bytes 2 2,
          notify := (byteAt bytes 1).testBit 1, payload := bytes.drop 16 }
      let s1 : State := { s with cp := { s.cp with consumer := s.cp.consumer + 1 } }
      let buffered : State :=
        { s1 with cp := { s1.cp with stage := .gather, chain := s.cp.chain ++ [slot] } }
      let run := exec (.slotTake bytes) s
      (s.cp.stage = .idle → kind = 0x80 → run = .next (s1.chainFault .contInIdle [s.cp.consumer]))
      ∧ (s.cp.stage = .idle → kind ≠ 0x80 → chained = false → run = .next (s1.applyChain [slot]))
      ∧ (s.cp.stage = .gather → kind ≠ 0x80 → run = .next (s1.chainFault .newInGather [s.cp.consumer]))
      ∧ (s.cp.stage = .gather → kind = 0x80 → 8 ≤ s.cp.chain.length →
          run = .next (s1.chainFault .tooLong [s.cp.consumer]))
      ∧ (s.cp.stage = .gather → kind = 0x80 → s.cp.chain.length < 8 → chained = false →
          run = .next (State.applyChain (s.cp.chain ++ [slot]) { s1 with cp := { s1.cp with stage := .idle, chain := [] } }))
      ∧ (s.cp.stage = .idle ∧ kind ≠ 0x80 ∨ s.cp.stage = .gather ∧ kind = 0x80 ∧ s.cp.chain.length < 8 → chained = true →
          (s.cp.consumer + 1 ≠ s.cp.known → run = .next buffered)
          ∧ (s.cp.consumer + 1 = s.cp.known → run = .next buffered.writeBack)))
  ∧ ∀ (first : ChainSlot) (rest : List ChainSlot) (s : State),
      let n := rest.length + 1
      let s1 := s.tallied (fun t => { t with commands := tallyAdd t.commands 1 })
      (CmdKind.ofCode first.kind.toNat = none →
        s.applyChain (first :: rest) = s1.answerCommand first.index first.tag n first.notify .unknown false)
      ∧ (∀ k, CmdKind.ofCode first.kind.toNat = some k → k.slots ≠ n →
          s.applyChain (first :: rest) = s1.answerCommand first.index first.tag n first.notify .range false)
      ∧ (∀ k, CmdKind.ofCode first.kind.toNat = some k → k.slots = n →
          s.applyChain (first :: rest) = { s1 with cp := { s.cp with
            dispatched := some { kind := k, first := first.index, tag := first.tag, slots := n,
                                 notify := first.notify, payload := (first :: rest).flatMap (·.payload) } } })

/-- R179, R177: a chain fault: FAULT, the chain emptied, the last result SEQUENCE, CMD_FAULT with the consumer index and the
cause, one result under one completion sequence for every buffered and broken slot, and the write-back, which waits while a
result write is in flight. That no completion sequence is taken where there is no such slot is the model's choice (log 11), and
so are that the hold to be released is the one that stands when the write-back becomes due, a write-back that still waits going
out with it (log 41), the wrap of the completion sequence (log 27), and that slot bytes 12 to 15 are written with a result
(log 66). -/
def Obligations.ChainFaultStopsTaking : Prop :=
  ∀ (cause : FaultCause) (offending : List Idx) (s : State),
    let t := s.chainFault cause offending
    let slots := s.cp.chain.map (·.index) ++ offending
    let seq := (s.cp.sequence + 1) % 2 ^ 32
    let faulted : CmdProc :=
      { s.cp with stage := .fault, chain := [], lastResult := .sequence,
                  sequence := if slots = [] then s.cp.sequence else seq }
    let waits : Prop := slots ≠ [] ∨ ∃ a ∈ s.path.down, a.what.isResult = true
    t = { s with cp := t.cp, path := t.path, ev := t.ev, rings := t.rings }
    ∧ (waits → t.cp = { faulted with backDue := some s.path.heldProducer }
        ∧ t.path = { s.path with
            down := s.path.down ++ slotWrites s.controlBase slots .sequence cause.code seq s.path.nextAccess,
            nextAccess := s.path.nextAccess + slots.length })
    ∧ (¬ waits → t.cp = { faulted with backDue := none }
        ∧ t.path = { s.path with
            down := s.path.down ++ [headerWrite { s with cp := faulted } s.cp.consumer s.path.heldProducer],
            nextAccess := s.path.nextAccess + 1 })
    ∧ t.ev = (s.raise .cmdFault s.cp.consumer.toNat cause.code).ev ∧ t.ev.pending = s.ev.pending ||| 2#32
    ∧ t.rings = (s.raise .cmdFault s.cp.consumer.toNat cause.code).rings

/-- R177, R26: memory answers a write-back: the producer write that it releases is tested against the guards again, and
forwarded or refused. Other header writes only land. That a producer write held anew since the write-back became due is not
released by it is the model's choice (log 41). R176: CMD_DONE once no write of the result is in flight, with the plain slot
index as its argument (log 9). -/
def Obligations.WriteBackReleasesProducer : Prop :=
  (∀ (n : Nat) (why : HeaderFor) (s : State), s.headerInFlight = some (n, why) →
    let landed : Path := { s.path with down := s.path.down.filter (fun a => a.serial != n) }
    let t : State := { s with path := landed }
    let run := exec .writeBackDone s
    (why = .initial ∨ why = .faultAck → run = .next t)
    ∧ (∀ h, why = .writeBack h →
        (∀ w ws k, s.path.hold = some k → k.producer = true → h = some k.serial → s.path.writes = w :: ws →
          ((∀ r, ¬ s.hitsGuard w r) → run = .next (t.forwardPlain w))
          ∧ ∀ r, w.cls.crossing = false → s.hitsGuard w r → (∀ q, q < r → ¬ s.hitsGuard w q) →
              run = .next (({ s with path := { landed.refused w with
                counters := { s.path.counters with guarded := inc32 s.path.counters.guarded } } } : State).raise
                  .guardViolation w.burst.addr.toNat r.val))
        ∧ ((∀ k, s.path.hold = some k → k.producer = true → h ≠ some k.serial) → run = .next t)))
  ∧ ∀ (first : Idx) (s : State),
      let mine := s.cp.notify.filter (fun x => x.first = first)
      let rest : CmdProc := { s.cp with notify := s.cp.notify.filter (fun x => x.first ≠ first) }
      let t := s.raiseDone first
      ((∃ a ∈ s.path.down, a.what = .result first) → t = s)
      ∧ ((∀ a ∈ s.path.down, a.what ≠ .result first) →
          t = { s with cp := rest, ev := t.ev, rings := t.rings }
          ∧ (mine = [] → t = s) ∧ (mine ≠ [] → t.ev.pending.getLsbD 0 = true)
          ∧ ∀ x, mine = [x] → t = { s.raise .cmdDone x.first.toNat x.code.code with cp := rest })

/-! ## Lines, campaigns, orders, grades (03, 05, 07) -/

/-- R45, R56, R58: the end of a classification frees its buffer and counts a flood line and a line with RUN_OVERFLOW, delivered
or not, LIGHT_SHIFT being raised where the flood mark was clear (the moment is the model's choice, log 15); without a
classification it does nothing (the model's choice, log 2). The line is delivered when its capture is still PENDING; R47, R48:
the lag rule and assembly follow; R44: a held capture write of the camera is then offered again. R47: the lag rule declares
every PENDING capture of another camera that is 8 or more behind; that assembly is tried once after them is the model's choice
(log 57), and so is that a renewed offer is tested against the guards before it is made (log 64). -/
def Obligations.ClassificationIsDelivered : Prop :=
  (∀ (cam : Fin 8) (b : Bool) (s : State),
    let run := exec (.classificationDone cam b) s
    ((∀ q r, s.ing.cams[cam].buf b ≠ .classifying q r) → run = .next s)
    ∧ (∀ q r, s.ing.cams[cam].buf b = .classifying q r →
        let c := s.ing.cams[cam].setBuf b .free
        let marked : Camera := { c with
          floodMark := c.floodMark || r.flood,
          counters := { c.counters with
            flood := if r.flood then inc32 c.counters.flood else c.counters.flood,
            overflow := if r.overflow then inc32 c.counters.overflow else c.counters.overflow } }
        let freed : State := { s with ing := { s.ing with cams := s.ing.cams.set cam marked } }
        let ended := if r.flood = true ∧ c.floodMark = false then
            freed.raise .lightShift r.line (cam.val + 256 * r.flagged)
          else freed
        let none_ : Prop := ∀ h w ws, s.path.hold = some h → s.path.writes = w :: ws →
          h.producer = true ∨ w.cls.cam ≠ cam
        let held (w : QueuedWrite) : Prop := ∃ h ws, s.path.hold = some h ∧ h.producer = false ∧ s.path.writes = w :: ws
          ∧ w.cls.cam = cam
        ((∀ p ∈ s.ing.pulses, p.capture = some q → p.status[cam] ≠ .pending) →
          (none_ → run = .next ended)
          ∧ (∀ w, held w → (∀ r, ¬ s.hitsGuard w r) → run = .next (ended.offerWrite w)))
        ∧ ∀ p, s.ing.pulses.find? (fun x => x.capture = some q && x.status[cam] = .pending) = some p →
            let mine : Camera :=
              { marked with
                floodMark := r.flood, counters := { marked.counters with delivered := inc32 marked.counters.delivered } }
            let delivered : State := { ended with ing := { s.ing with
              pulses := s.ing.pulses.map (fun x =>
                if x.line = p.line then { x with status := x.status.set cam (.delivered r) } else x),
              cams := s.ing.cams.set cam mine } }
            let t := (delivered.lagRule cam q).assemble
            (none_ → run = .next t)
            ∧ (∀ w, held w → (∀ r, ¬ t.hitsGuard w r) → run = .next (t.offerWrite w))
            ∧ t.ing.cams[cam] = mine
            ∧ (r.flood = true → c.floodMark = false → t.ev.pending.getLsbD 7 = true)
            ∧ t.pos = s.pos ∧ t.path = s.path ∧ t.ing.cols = s.ing.cols ∧ t.cp.binding = s.cp.binding))
  ∧ ∀ (cam i : Fin 8) (q : Nat) (s : State), i ≠ cam →
      let t := s.lagRule cam q
      t.ing.cams[cam] = s.ing.cams[cam]
      ∧ (s.ing.cams[i].cfg.enable = true →
          t.ing.cams[i].counters.lost[3] = lostAfter s.ing.cams[i].counters.lost[3] (s.ing.pendingIn i 0 (q - 7))
          ∧ (∀ p ∈ t.ing.pulses, ∀ k, p.capture = some k → k + 8 ≤ q → p.status[i] ≠ .pending)
          ∧ (0 < s.ing.pendingIn i 0 (q - 7) → t.ev.pending.getLsbD 5 = true))
      ∧ (s.ing.cams[i].cfg.enable = false → t.ing.cams[i] = s.ing.cams[i])
      ∧ t.ing.pulses.map (·.line) = s.ing.pulses.map (·.line)

/-- R52, R53, R55: the class of a pixel against its column, the update of a column, and the first line of learning. -/
def Obligations.PixelsAreJudgedAndLearned : Prop :=
  ∀ (d : Detect) (v : BN) (p : Nat),
    let threshold := max (d.tmin * 256) (d.k * v.n / 16)
    let dev : Int := 256 * (p : Int) - (v.b : Int)
    (65280 < threshold → d.pixel v p = .clear)
    ∧ (threshold ≤ 65280 →
        (256 * p + threshold < v.b → d.pixel v p = .dark)
        ∧ (v.b + threshold < 256 * p → d.pixel v p = .bright)
        ∧ (v.b ≤ 256 * p + threshold → 256 * p ≤ v.b + threshold → d.pixel v p = .clear))
    ∧ ((d.update v p).b : Int) = max 0 (min 65280 ((v.b : Int) + dev.tdiv (2 ^ d.alpha)))
    ∧ ((d.update v p).n : Int) = max 0 (min 65280 ((v.n : Int) + ((dev.natAbs : Int) - v.n).tdiv (2 ^ d.beta)))
    ∧ (∀ (left right line q : Nat) (cols : Cols) (cam : Camera) (bytes : List Byte), cam.learn = .start →
        cam.startCapture ≤ q →
        let k := classifyLine d left right cols cam line q bytes
        k.learn = .learning ∧ k.remaining = d.learnLines - 1 ∧ k.res.runs = [] ∧ k.res.learning = true
        ∧ k.res.line = line
        ∧ k.res.flood = false
        ∧ (cols.wf = true → ∀ x ∈ cam.cfg.pixels bytes, k.cols.get x.1 = { b := 256 * x.2, n := d.initNoise }))

/-- R72, R73, R75 to R79: a closed blob is measured, classified, numbered, placed, recorded and counted as a flaw. R63 to R69:
the open blob table at a line: closing by gap; a run that opens a blob in the lowest FREE entry, joins one entry, OPEN or
CARRIED, or merges two; splitting at the maximum length; force-closing when the table is full. A line of several runs: closing
by gap comes first, the runs are taken in order, each joined against the table as it stood before them and the entries that
the earlier runs have moved, and splitting comes last; what one run of such a line does, with every number of entries it
joins, CARRIED ones among them. R70: the oldest open first line. -/
def Obligations.ClosedBlobBecomesFlaw : Prop :=
  (∀ (b : Blob) (s : State), (∀ f ∈ s.map.flaws, f.num ≠ s.map.nextFlaw) →
    let width := (b.c1 - b.c0 + 1) * s.ing.pp
    let length := (b.last - b.first + 1) * (s.pos.pitchE * s.pos.dv)
    let major := max width length
    let aspect := min 255 (16 * major / min width length)
    let darkfrac := 256 * b.dark / (b.dark + b.bright)
    let c := s.blobs.params
    let retired : Prop := s.map.retire = .all ∨ ∃ n, s.map.retire = .line n ∧ b.last + 1 ≤ n
    let staging := s.rings[flawRing].staging
    let t := s.offerBlob b
    ∃ f : Flaw, f.num = s.map.nextFlaw ∧ f.first = b.first ∧ f.last = b.last ∧ f.c0 = b.c0 ∧ f.c1 = b.c1
      ∧ f.widthUm = width ∧ f.lengthUm = length ∧ f.dark = b.dark ∧ f.bright = b.bright ∧ f.peak = b.peak
      ∧ f.flags = b.flags ∧ f.day = s.pos.day ∧ f.tod = s.pos.tod
      ∧ f.cls = (if c.large ≤ major then .large else if c.scratch ≤ aspect then .scratch
                 else if 224 ≤ darkfrac ∧ c.stone ≤ b.peak then .inclusion else if 64 ≤ darkfrac then .seed else .spot)
      ∧ f.bin = (c.bounds.toList.filter (fun x => x ≤ major)).length
      ∧ (f.nearSpan = true ↔ ∃ x ∈ s.map.spans, x.start ≤ b.last + s.ing.detect.lg
          ∧ b.first - s.ing.detect.lg < x.stop)
      ∧ t.map.nextFlaw = nextNumber s.map.nextFlaw ∧ t.tally.live.flaws = tallyAdd s.tally.live.flaws 1
      ∧ (retired → t.map.flaws = s.map.flaws ∧ f.notMapped = false
          ∧ t.map.retiredAtCreation = inc32 s.map.retiredAtCreation)
      ∧ (¬ retired → s.map.flaws.length < 4096 → f.notMapped = false ∧ t.map.mapped = inc32 s.map.mapped
          ∧ (∀ g, g ∈ t.map.flaws ↔ g = f ∨ g ∈ s.map.flaws) ∧ t.map.flaws.length = s.map.flaws.length + 1)
      ∧ (¬ retired → 4096 ≤ s.map.flaws.length → f.notMapped = true ∧ t.map.flaws = s.map.flaws
          ∧ t.map.notMapped = inc32 s.map.notMapped ∧ t.map.full = true)
      ∧ (s.rings[flawRing].state = .unset → t.rings[flawRing] = s.rings[flawRing])
      ∧ (s.rings[flawRing].state ≠ .unset → staging.length < 8 → t.map.lossMark = false
          ∧ t.rings[flawRing].staging = staging ++ [{ record := .flaw f, issued := none }])
      ∧ (s.rings[flawRing].state ≠ .unset → 8 ≤ staging.length → t.map.lossMark = true
          ∧ t.map.recordsLost = inc32 s.map.recordsLost ∧ t.rings[flawRing].staging = staging)
      ∧ t.pos = s.pos ∧ t.path = s.path ∧ t.ing = s.ing ∧ t.blobs = s.blobs ∧ t.plan = s.plan ∧ t.cp = s.cp)
  ∧ (∀ (n : Nat) (runs : List Run) (s : State),
      let table := s.blobs.entries
      let d := s.ing.detect
      let t := s.trackLine n runs
      let order (x y : Blob) : Prop :=
        x.first < y.first ∨ x.first = y.first ∧ (x.c0 < y.c0 ∨ x.c0 = y.c0 ∧ x.num < y.num)
      let joins (r : Run) (b : Blob) : Prop := r.c0 ≤ b.r1 + d.gc ∧ b.r0 ≤ r.c1 + d.gc
      let opened (k : Nat) (r : Run) : Blob :=
        { num := k, carried := false, first := n, last := n, c0 := r.c0, c1 := r.c1, dark := r.dark, bright := r.bright,
          peak := r.peak, r0 := r.c0, r1 := r.c1, taken := none,
          flags := { forced := false, continued := false, seam := r.seam, overflow := r.overflow } }
      let grown (r : Run) (b : Blob) : Blob :=
        { num := b.num, carried := false, first := min n b.first, last := max n b.last, c0 := min r.c0 b.c0,
          c1 := max r.c1 b.c1, dark := r.dark + b.dark, bright := r.bright + b.bright, peak := max r.peak b.peak,
          r0 := r.c0, r1 := r.c1, taken := none,
          flags := { forced := false, continued := b.flags.continued, seam := r.seam || b.flags.seam,
                     overflow := r.overflow || b.flags.overflow } }
      let merged (r : Run) (b e : Blob) : Blob :=
        { num := b.num, carried := false, first := min (min n b.first) e.first, last := max (max n b.last) e.last,
          c0 := min (min r.c0 b.c0) e.c0, c1 := max (max r.c1 b.c1) e.c1, dark := r.dark + b.dark + e.dark,
          bright := r.bright + b.bright + e.bright, peak := max (max r.peak b.peak) e.peak, r0 := r.c0, r1 := r.c1,
          taken := none,
          flags := { forced := false, continued := b.flags.continued || e.flags.continued,
                     seam := r.seam || b.flags.seam || e.flags.seam,
                     overflow := r.overflow || b.flags.overflow || e.flags.overflow } }
      let lowest (k : Nat) (l : List Blob) : Prop := (∀ b ∈ l, b.num ≠ k) ∧ ∀ j, j < k → ∃ b ∈ l, b.num = j
      let length (b : Blob) : Nat := b.last - b.first + 1
      table.Pairwise (fun x y => x.num < y.num) → (∀ b ∈ table, b.taken = none) →
        t.blobs.entries.Pairwise (fun x y => x.num < y.num) ∧ (∀ b ∈ t.blobs.entries, b.taken = none)
        ∧ (table.length ≤ 256 → t.blobs.entries.length ≤ 256)
        ∧ t.pos = s.pos ∧ t.path = s.path ∧ t.ing = s.ing ∧ t.plan = s.plan ∧ t.cp = s.cp
        ∧ (runs = [] →
            t.blobs.entries = table.filter (fun b => n ≤ b.last + d.lg)
            ∧ t.blobs.closedByGap = satAdd Config.max32 s.blobs.closedByGap
                (table.filter (fun b => b.last + d.lg < n && !b.carried)).length
            ∧ t.blobs.expired = satAdd Config.max32 s.blobs.expired
                (table.filter (fun b => b.last + d.lg < n && b.carried)).length
            ∧ ∃ closing : List Blob,
                closing.Perm (table.filter (fun b => b.last + d.lg < n && !b.carried)) ∧ closing.Pairwise order
                ∧ t.map = (closing.foldl (fun u b => u.offerBlob b) s).map
                ∧ t.rings = (closing.foldl (fun u b => u.offerBlob b) s).rings
                ∧ t.tally = (closing.foldl (fun u b => u.offerBlob b) s).tally)
        ∧ ∀ r : Run, runs = [r] → (∀ b ∈ table, n ≤ b.last + d.lg) →
            ((∀ b ∈ table, ¬ joins r b) → 1 < d.lmax →
              (table.length < 256 → t.blobs.opened = inc32 s.blobs.opened ∧ t.map = s.map
                ∧ ∃ k, lowest k table ∧ t.blobs.entries.Perm (opened k r :: table))
              ∧ (table.length = 256 → ∀ b ∈ table, (∀ x ∈ table, b.last < x.last ∨ b.last = x.last ∧ b.num ≤ x.num) →
                  let rest := table.filter (fun x => x.num ≠ b.num)
                  t.blobs.opened = inc32 s.blobs.opened ∧ t.blobs.forcedClosures = inc32 s.blobs.forcedClosures
                  ∧ t.ev.pending.getLsbD 9 = true
                  ∧ t.map = (if b.carried then s.map
                      else (s.offerBlob { b with flags := { b.flags with forced := true } }).map)
                  ∧ ∃ k, lowest k rest ∧ t.blobs.entries.Perm (opened k r :: rest)))
            ∧ (∀ b ∈ table, joins r b → (∀ x ∈ table, joins r x → x = b) →
                let rest := table.filter (fun x => x.num ≠ b.num)
                t.blobs.opened = s.blobs.opened
                ∧ (b.carried = false → length (grown r b) < d.lmax →
                    t.blobs.entries.Perm (grown r b :: rest) ∧ t.map = s.map)
                ∧ (b.carried = true → b.flags = { forced := false, continued := true, seam := false, overflow := false } →
                    1 < d.lmax →
                    t.blobs.entries.Perm
                      ({ opened b.num r with flags := { (opened b.num r).flags with continued := true } } :: rest)
                    ∧ t.map = s.map)
                ∧ (b.carried = false → d.lmax ≤ length (grown r b) →
                    t.blobs.splits = inc32 s.blobs.splits
                    ∧ t.map = (s.offerBlob { grown r b with
                        flags := { (grown r b).flags with continued := true } }).map
                    ∧ t.blobs.entries.Perm
                        ({ num := b.num, carried := true, first := 0, last := max n b.last, c0 := 0, c1 := 0, dark := 0,
                           bright := 0, peak := 0, r0 := r.c0, r1 := r.c1, taken := none,
                           flags := { forced := false, continued := true, seam := false, overflow := false } } :: rest)))
            ∧ ∀ b ∈ table, ∀ e ∈ table, b.num < e.num → joins r b → joins r e →
                (∀ x ∈ table, joins r x → x = b ∨ x = e) → b.carried = false → e.carried = false →
                length (merged r b e) < d.lmax →
                t.blobs.merged = satAdd Config.max32 s.blobs.merged 1 ∧ t.blobs.opened = s.blobs.opened ∧ t.map = s.map
                ∧ t.blobs.entries.Perm (merged r b e :: table.filter (fun x => x.num ≠ b.num && x.num ≠ e.num)))
  ∧ (∀ (n : Nat) (runs : List Run) (s : State),
      let d := s.ing.detect
      let c := s.trackLine n []
      let before := c.blobs.entries
      let j := runs.foldl (Joining.run d.gc n before) { st := c, moved := before.map (fun b => (b.num, some b.num)) }
      s.blobs.entries.Pairwise (fun x y => x.num < y.num) → (∀ b ∈ s.blobs.entries, b.taken = none) →
      ∃ splitting : List Blob,
        splitting.Perm (j.st.blobs.entries.filter
          (fun b => !b.carried && b.taken.isSome && decide (d.lmax ≤ b.last - b.first + 1)))
        ∧ splitting.Pairwise (fun x y =>
            x.first < y.first ∨ x.first = y.first ∧ (x.c0 < y.c0 ∨ x.c0 = y.c0 ∧ x.num < y.num))
        ∧ let u := splitting.foldl State.splitBlob j.st
          s.trackLine n runs = { u with blobs := { u.blobs with entries := u.blobs.entries.map (fun b =>
            match b.taken with
            | none => b
            | some (x, y) => { b with r0 := x, r1 := y, taken := none }) } })
  ∧ (∀ (b : Blob) (x y : Nat) (s : State), b.taken = some (x, y) →
      let u := s.splitBlob b
      u = { s.offerBlob { b with flags := { b.flags with continued := true } } with blobs := u.blobs }
      ∧ u.blobs.splits = inc32 s.blobs.splits
      ∧ u.blobs.entries.Perm
          ({ num := b.num, carried := true, first := 0, last := b.last, c0 := 0, c1 := 0, dark := 0, bright := 0, peak := 0,
             r0 := x, r1 := y, taken := none,
             flags := { forced := false, continued := true, seam := false, overflow := false } }
            :: s.blobs.entries.filter (fun e => e.num ≠ b.num)))
  ∧ (∀ (gc n : Nat) (before : List Blob) (j : Joining) (r : Run),
      let joins (b : Blob) : Prop := r.c0 ≤ b.r1 + gc ∧ b.r0 ≤ r.c1 + gc
      let goes (b : Blob) (k : Nat) : Prop := (j.moved.find? (fun m => m.1 = b.num)).bind (·.2) = some k
      let ks := joinTargets gc r before j.moved
      let table := j.st.blobs.entries
      let old := j.st.blobs
      let out := Joining.run gc n before j r
      let t := out.st
      let opened (k : Nat) : Blob :=
        { num := k, carried := false, first := n, last := n, c0 := r.c0, c1 := r.c1, dark := r.dark, bright := r.bright,
          peak := r.peak, r0 := r.c0, r1 := r.c1, taken := some (r.c0, r.c1),
          flags := { forced := false, continued := false, seam := r.seam, overflow := r.overflow } }
      let lowest (k : Nat) (l : List Blob) : Prop := (∀ b ∈ l, b.num ≠ k) ∧ ∀ i, i < k → ∃ b ∈ l, b.num = i
      ks.Pairwise (· < ·) ∧ (∀ k, k ∈ ks ↔ ∃ b ∈ before, joins b ∧ goes b k)
      ∧ (table.Pairwise (fun x y => x.num < y.num) →
          (ks = [] → table.length < 256 →
            t = { j.st with blobs := t.blobs } ∧ out.moved = j.moved ∧ t.blobs.opened = inc32 old.opened
            ∧ t.blobs.merged = old.merged ∧ ∃ k, lowest k table ∧ t.blobs.entries.Perm (opened k :: table))
          ∧ (ks = [] → 256 ≤ table.length →
              ∀ b ∈ table, (∀ x ∈ table, b.last < x.last ∨ b.last = x.last ∧ b.num ≤ x.num) →
              let rest := table.filter (fun x => x.num ≠ b.num)
              t.blobs.opened = inc32 old.opened ∧ t.blobs.forcedClosures = inc32 old.forcedClosures
              ∧ t.ev.pending.getLsbD 9 = true
              ∧ t.map = (if b.carried then j.st.map
                  else (j.st.offerBlob { b with flags := { b.flags with forced := true } }).map)
              ∧ out.moved = j.moved.map (fun m => (m.1, if m.2 = some b.num then none else m.2))
              ∧ ∃ k, lowest k rest ∧ t.blobs.entries.Perm (opened k :: rest))
          ∧ ∀ (k0 : Nat) (rest : List Nat), ks = k0 :: rest →
              let parts := table.filter (fun b => b.num ∈ ks)
              let grown := parts.filter (fun b => !b.carried)
              t = { j.st with blobs := t.blobs }
              ∧ out.moved = j.moved.map (fun m => (m.1, m.2.map (fun k => if k ∈ rest then k0 else k)))
              ∧ t.blobs.opened = old.opened ∧ t.blobs.merged = satAdd Config.max32 old.merged rest.length
              ∧ ∃ x : Blob, t.blobs.entries.Perm (x :: table.filter (fun b => b.num ∉ ks)) ∧ x.num = k0
                  ∧ x.carried = false ∧ x.first = grown.foldl (fun m b => min m b.first) n
                  ∧ x.last = grown.foldl (fun m b => max m b.last) n ∧ x.c0 = grown.foldl (fun m b => min m b.c0) r.c0
                  ∧ x.c1 = grown.foldl (fun m b => max m b.c1) r.c1 ∧ x.peak = grown.foldl (fun m b => max m b.peak) r.peak
                  ∧ x.dark = r.dark + (grown.map (·.dark)).sum ∧ x.bright = r.bright + (grown.map (·.bright)).sum
                  ∧ x.taken = some
                      ((grown.filterMap (·.taken)).foldl (fun m p => min m p.1) r.c0,
                       (grown.filterMap (·.taken)).foldl (fun m p => max m p.2) r.c1)
                  ∧ x.flags = { forced := false, continued := parts.any (·.flags.continued),
                                seam := r.seam || parts.any (·.flags.seam),
                                overflow := r.overflow || parts.any (·.flags.overflow) }))
  ∧ ∀ t : Blobs,
      (t.oldestOpen = none ↔ ∀ b ∈ t.entries, b.carried = true)
      ∧ ∀ f, t.oldestOpen = some f ↔
          (∃ b ∈ t.entries, b.carried = false ∧ b.first = f) ∧ ∀ b ∈ t.entries, b.carried = false → f ≤ b.first

/-- R80 to R83: a span request over [a, b). While nothing is retired, every line of it and every line covered before is covered
after it, the list stays in order and disjoint, and it never holds more than 16 spans; a line covered before keeps its kind or
becomes MIXED, and a line entered takes the kind of the request or becomes MIXED. A piece that has room, or touches a span of its
own kind, keeps every kind; one that has neither goes into the span before it, or else into the first one. R83: the lines that
no span covered are counted. R81, R84, R85: a request whose lines are retired enters nothing; what a retirement line retires. -/
def Obligations.SpanRequestCoversLines : Prop :=
  (∀ (k : SpanKind) (a b : Nat) (s : State), spansOrdered s.map.spans → s.map.retire = .none →
    let t := s.requestSpan k a b
    let old := s.map.spans
    let kindAt (ss : List Span) (n : Nat) (j : SpanKind) : Prop := ∃ x ∈ ss, x.start ≤ n ∧ n < x.stop ∧ x.kind = j
    let own : Prop := ∃ x ∈ old, x.kind = k ∧ (x.stop = a ∨ x.start = b)
    spansOrdered t.map.spans
    ∧ (∀ n, covered old n → covered t.map.spans n) ∧ (∀ n, a ≤ n → n < b → covered t.map.spans n)
    ∧ (old.length ≤ 16 → t.map.spans.length ≤ 16)
    ∧ t = { s with map := t.map, tally := t.tally } ∧ t.map.flaws = s.map.flaws
    ∧ (∀ n j, kindAt old n j → kindAt t.map.spans n j ∨ kindAt t.map.spans n .mixed)
    ∧ (∀ n, a ≤ n → n < b → ¬ covered old n → kindAt t.map.spans n k ∨ kindAt t.map.spans n .mixed)
    ∧ (a < b → (∀ n, a ≤ n → n < b → ¬ covered old n) →
        (old.length < 16 ∨ own →
          (∀ n, a ≤ n → n < b → kindAt t.map.spans n k) ∧ (∀ n j, kindAt old n j → kindAt t.map.spans n j)
          ∧ t.map.spanMerges = s.map.spanMerges)
        ∧ (16 ≤ old.length → ¬ own →
            t.map.spanMerges = inc32 s.map.spanMerges
            ∧ (∀ x ∈ old, x.stop ≤ a → (∀ y ∈ old, y.stop ≤ a → y.stop ≤ x.stop) →
                ∀ n, x.start ≤ n → n < b → kindAt t.map.spans n (if x.kind = k then k else .mixed))
            ∧ ((∀ y ∈ old, a < y.stop) → ∀ x ∈ old, (∀ y ∈ old, x.start ≤ y.start) →
                ∀ n, a ≤ n → n < x.stop → kindAt t.map.spans n (if x.kind = k then k else .mixed)))))
  ∧ (∀ (k : SpanKind) (a b : Nat) (s : State), spansOrdered s.map.spans →
      let t := s.requestSpan k a b
      (∀ j, k.uninspectedIndex = some j → t.tally.live.uninspected[j] = tallyAdd s.tally.live.uninspected[j]
        ((List.range' a (b - a)).filter (fun n => !s.map.spans.any (fun x => x.start ≤ n && n < x.stop))).length)
      ∧ ((s.map.retire = .all ∨ ∃ n, s.map.retire = .line n ∧ b ≤ n) → t.map = s.map))
  ∧ ∀ (n : Nat) (s : State),
      let t := s.setRetire (.line n)
      t.map.retire = .line n
      ∧ t.map.flaws = s.map.flaws.filter (fun f => n ≤ f.last) ∧ t.map.spans = s.map.spans.filter (fun x => n < x.stop)
      ∧ (s.setRetire .all).map.flaws = [] ∧ (s.setRetire .all).map.spans = []
      ∧ (s.setRetire .none).map.flaws = s.map.flaws ∧ (s.setRetire .none).map.spans = s.map.spans
      ∧ t.map.flawsRetired = satAdd Config.max32 s.map.flawsRetired (s.map.flaws.length - t.map.flaws.length)
      ∧ t.map.spansRetired = satAdd Config.max32 s.map.spansRetired (s.map.spans.length - t.map.spans.length)
      ∧ (t.map.flaws.length < 4096 → t.map.full = false)

/-- R112, R113, R129: the oldest uncommitted row commits at its commit line and not before; the committing row, the orders of
its lanes, and the cut it hands on, which is MISSED at once where the cut list is full. R108 to R111: which row seals at a
report, what sealing does, when and how a row is shifted, which order a failing lane moves to. R114, R115: the resolution of
a cut reaches every row that holds it, and a row all of whose cuts are resolved is CUT and, as the oldest, handed to the
Grader. That a shifted row keeps the provisional grades of its lanes is the model's choice (log 53). -/
def Obligations.RowCommitsAtCommitLine : Prop :=
  (∀ (r : Row) (c : Campaign) (s : State), s.plan.slots[r.slot].campaign = some c →
    let t := s.commitRow r c
    (s.plan.rows.find? (fun x => x.state = .planned || x.state = .sealed) = some r →
      (s.pos.line < r.stop + c.commitOffset → s.commitTest = s)
      ∧ (r.stop + c.commitOffset ≤ s.pos.line → s.commitTest = State.commitLoop 63 t))
    ∧ t.plan.nextCut = s.plan.nextCut + 1 ∧ t.tally.live.committed = tallyAdd s.tally.live.committed 1
    ∧ (r.state = .planned → r.kind = .plate →
        t.plan.counters.unsealed = inc32 s.plan.counters.unsealed ∧ t.ev.pending.getLsbD 18 = true)
    ∧ t.plan.orders = s.plan.orders.map (fun o =>
        let n := (r.lanes.filter (fun l => l.order = some o.id)).length
        { o with planned := o.planned - n, remaining := o.remaining - n, reserved := o.reserved + n })
    ∧ (r.lanes = [] → t.plan.orders = s.plan.orders)
    ∧ (∀ l id, r.lanes = [l] → l.order = some id → t.plan.orders = modOrder id (fun o =>
        { o with planned := o.planned - 1, remaining := o.remaining - 1, reserved := o.reserved + 1 }) s.plan.orders)
    ∧ (s.link.cuts.length < 16 → s.link.overflow = false →
        (∀ x ∈ t.plan.rows, x.num = r.num → x.state = .committed
          ∧ x.trailing = some { num := s.plan.nextCut, tolerance := c.tolerance, res := .unresolved }
          ∧ (x.unsealed = true ↔ r.state = .planned))
        ∧ t.link.cuts.map (·.num) = s.link.cuts.map (·.num) ++ [s.plan.nextCut]
        ∧ ∃ x, t.link.cuts.getLast? = some x ∧ x.line = r.stop ∧ x.plateEnd = decide (r.kind = .plate)
            ∧ x.tolerance = c.tolerance ∧ (x.status = .unsent ∨ x.status = .queued))
    ∧ (16 ≤ s.link.cuts.length ∨ s.link.overflow = true →
        t.link.cuts = s.link.cuts ∧ t.link.next = s.plan.nextCut + 1
        ∧ t.link.counters.fullMisses = inc32 s.link.counters.fullMisses
        ∧ t.link.counters.missed[0] = inc32 s.link.counters.missed[0] ∧ t.ev.pending.getLsbD 21 = true
        ∧ (t.link.overflow = true ↔ s.link.cuts ≠ [])
        ∧ t.tally.live.missed = tallyAdd s.tally.live.missed 1
        ∧ ∀ x ∈ t.plan.rows, x.num = r.num →
            x.trailing = some { num := s.plan.nextCut, tolerance := c.tolerance, res := .missed })
    ∧ t.pos = s.pos ∧ t.path = s.path ∧ t.ing = s.ing ∧ t.plan.slots = s.plan.slots)
  ∧ (∀ (n : Nat) (s : State),
      let open_ (f : Nat) : Prop := ∃ b ∈ s.blobs.entries, b.carried = false ∧ b.first < f
      ((∀ r ∈ s.plan.rows, r.state ≠ .planned) → s.lineDone n = s)
      ∧ ∀ (r : Row) (c : Campaign), s.plan.rows.find? (fun x => x.state = .planned) = some r →
          s.plan.slots[r.slot].campaign = some c →
          (n < r.stop + s.ing.detect.lg + 1 ∨ open_ r.stop → s.lineDone n = s)
          ∧ (r.stop + s.ing.detect.lg + 1 ≤ n → ¬ open_ r.stop →
              let sealed := s.sealRow r c
              let res := c.lanes.map (s.gradeProvisional c r)
              let graded : Row := { r with
                lanes := (r.lanes.zip res).map (fun (l, g) => { l with provisional := some g.grade }) }
              let put (x : Row) : State := { s with plan := { s.plan with
                rows := s.plan.rows.map (fun y => if y.num = r.num then x else y) } }
              let judged : State := { put graded with grader := { s.grader with counters := { s.grader.counters with
                provisional := inc32 s.grader.counters.provisional } } }
              (sealed.2 = false → s.lineDone n = sealed.1)
              ∧ (sealed.2 = true → s.lineDone n = State.sealLoop n s.blobs.oldestOpen 63 sealed.1)
              ∧ (r.kind ≠ .plate → sealed = (put { r with state := .sealed }, true))
              ∧ (r.kind = .plate →
                  (∀ start, judged.shiftStart graded c res = some start → sealed = (judged.shiftRow graded start, false))
                  ∧ (judged.shiftStart graded c res = none → sealed = (judged.acceptRow graded c, true)
                      ∧ (c.avoidReassign = false → sealed.1 = { judged with plan := { s.plan with
                          rows := judged.plan.rows.map (fun y =>
                            if y.num = r.num then { graded with state := .sealed } else y) } })))))
  ∧ (∀ (r : Row) (c : Campaign) (res : List PlateResult) (s : State) (start : Nat),
      let fatal (m : Nat) : Prop := ∃ x ∈ r.lanes.zip res, x.1.order ≠ none ∧ x.2.fatalLast = some m
      (s.shiftStart r c res = some start ↔
        ∃ m, fatal m ∧ (∀ k, fatal k → k ≤ m) ∧ c.avoidShift = true ∧ m < r.start + c.strip ∧ r.shifts < 3
          ∧ start = max (m + 1 + c.clearance) (r.start + c.minCut) ∧ s.pos.line < start + c.commitOffset
          ∧ (s.plan.rows.takeWhile (fun x => x.num ≠ r.num)).length + 2 ≤ 64)
      ∧ ∃ u : State, s.shiftRow r start = ((u.raise .rowShifted r.num start).runPlanning).commitTest
          ∧ u = { s with plan := u.plan } ∧ u.plan.slots = s.plan.slots
          ∧ u.plan.nextRow = nextNumber s.plan.nextRow
          ∧ u.plan.counters.shifted = inc32 s.plan.counters.shifted
          ∧ u.plan.rows = (s.plan.rows.filter (fun x => !(x.state = .planned && r.start < x.start))).flatMap (fun y =>
              if y.num = r.num then
                [{ num := s.plan.nextRow, kind := .shift, slot := r.slot, start := r.start, stop := start, state := .planned,
                   unsealed := false, shifts := 0, lanes := [], leading := r.leading, trailing := none,
                   extremes := r.extremes },
                 { r with start := start, stop := start + (r.stop - r.start), state := .planned, shifts := r.shifts + 1,
                          leading := none }]
              else [y]))
  ∧ (∀ (length lane : Nat) (g : Grade) (os : List Order),
      let fits (o : Order) : Prop := o.state = .active ∧ o.length = length ∧ o.laneMask.getLsbD lane = true
        ∧ 1 ≤ o.remaining - o.planned ∧ g ≠ .reject ∧ g.code ≤ o.grade.code
      (reassignTo length lane g os = none ↔ ∀ o ∈ os, ¬ fits o)
      ∧ (∀ o, reassignTo length lane g os = some o →
          ∃ before after, os = before ++ o :: after ∧ fits o ∧ (∀ x ∈ before, fits x → x.priority < o.priority)
            ∧ ∀ x ∈ after, fits x → x.priority ≤ o.priority)
      ∧ ∀ (l : LanePlate) (id : Nat) (o : Order) (rest : List (LanePlate × Nat)),
          l.order = some id → l.provisional = some g → findOrder id os = some o →
          let keep := reassignLanes length rest os
          (g ≠ .reject ∧ g.code ≤ o.grade.code ∨ reassignTo length lane g os = none →
            reassignLanes length ((l, lane) :: rest) os = (l :: keep.1, keep.2.1, keep.2.2))
          ∧ ∀ x, ¬ (g ≠ .reject ∧ g.code ≤ o.grade.code) → reassignTo length lane g os = some x →
              let os1 := modOrder x.id (fun y => { y with planned := y.planned + 1 })
                (modOrder id (fun y => { y with planned := y.planned - 1 }) os)
              let next := reassignLanes length rest os1
              reassignLanes length ((l, lane) :: rest) os
                = ({ l with order := some x.id, reassigned := true } :: next.1, next.2.1, next.2.2 + 1))
  ∧ (∀ (r : Row) (c : Campaign) (s : State), c.avoidReassign = true →
      let x := reassignLanes (r.stop - r.start) r.lanes.zipIdx s.plan.orders
      s.acceptRow r c = { s with plan := { s.plan with
        orders := x.2.1,
        rows := s.plan.rows.map (fun y => if y.num = r.num then { r with lanes := x.1, state := .sealed } else y),
        counters := { s.plan.counters with
          reassigned := satAdd Config.max32 s.plan.counters.reassigned x.2.2 } } })
  ∧ ∀ (num : Idx) (res : Resolution) (s : State),
      let t := s.recordResolution num res
      let told (k : Option CutRef) : Option CutRef :=
        k.map (fun x => if x.num = num then { x with res := res } else x)
      let over_ (k : Option CutRef) : Bool := k.any (fun x => x.res ≠ .unresolved)
      t = { s with plan := t.plan, grader := t.grader }
      ∧ t.plan = { s.plan with rows := t.plan.rows, counters := { s.plan.counters with cut := t.plan.counters.cut } }
      ∧ t.plan.rows = s.plan.rows.map (fun r => { r with
          leading := told r.leading, trailing := told r.trailing,
          state := if r.state = .committed ∧ over_ (told r.trailing) = true
                      ∧ (told r.leading = none ∨ over_ (told r.leading) = true)
                   then .cut else r.state })
      ∧ (s.grader.waiting ≠ none → t.grader = s.grader)
      ∧ (s.grader.waiting = none → (∀ r ∈ t.plan.rows, r.state = .final) → t.grader = s.grader)
      ∧ ∀ before r after, s.grader.waiting = none → t.plan.rows = before ++ r :: after → (∀ x ∈ before, x.state = .final) →
          (r.state ≠ .final → r.state ≠ .cut → t.grader = s.grader)
          ∧ (r.state = .cut → ∃ w, t.grader.waiting = some w ∧ w.row = r.num
              ∧ w.need = if r.kind = .plate then r.lanes.length else 1)

/-- R90 to R92, R128: CAMPAIGN_BEGIN and CAMPAIGN_END in READY; what a CAMPAIGN_BEGIN is checked for, in order, and
what its payload holds (11.2), with the rounding of millimetres to lines (00, Conventions). R103 to R106:
planning: when a row is laid, the opening row, the GAP row, and a plate row, whose length and lanes the order book gives. That a
camera's count of lines remaining stands in START is the model's choice (log 45), and so are that the extent is compared with the
ribbon line number again after a GAP row (log 26) and that bits 2 to 7 of the policy byte are ignored (log 61). -/
def Obligations.CampaignCommandsTakeEffect : Prop :=
  (∀ (p : List Byte) (s : State), s.cp.binding = .ready →
    (s.given .campaignBegin p →
      ((∀ i : Fin 2, s.plan.slots[i] ≠ .none) → exec .campaignBegin s = .next (s.finish .busy false))
      ∧ (∀ i : Fin 2, s.plan.slots[i] = .none → (∀ j : Fin 2, j < i → s.plan.slots[j] ≠ .none) →
          (∀ code, campCheck s.lp p = some code → exec .campaignBegin s = .next (s.finish code false))
          ∧ (campCheck s.lp p = none →
              ∃ t, exec .campaignBegin s = .next t ∧ s.answeredWith .ok t
                ∧ t.plan.slots[i] = .active (campaignFrom s.lp p)
                ∧ (∀ j : Fin 2, j ≠ i → ∀ c, t.plan.slots[j] ≠ .active c)
                ∧ (∀ k : Fin 8, s.ing.cams[k].cfg.enable = true →
                    t.ing.cams[k] = { s.ing.cams[k] with learn := .start, startCapture := s.ing.captures })
                ∧ (∀ k : Fin 8, s.ing.cams[k].cfg.enable = false → t.ing.cams[k] = s.ing.cams[k])
                ∧ (t.link.lanesPending = some (laneEdges s.ing.pp (campLanes p))
                    ∨ TxFrame.lanes (laneEdges s.ing.pp (campLanes p)) ∈ t.link.txq)
                ∧ t.pos = s.pos ∧ t.ing.cols = s.ing.cols ∧ t.cp.binding = .ready)))
    ∧ (s.given .campaignEnd p →
        ((∀ (i : Fin 2) c, s.plan.slots[i] ≠ .active c) → exec .campaignEnd s = .next (s.finish .state false))
        ∧ (∀ (i : Fin 2) c, s.plan.slots[i] = .active c → (∀ j : Fin 2, j ≠ i → ∀ d, s.plan.slots[j] ≠ .active d) →
            ∃ t, exec .campaignEnd s = .next t ∧ s.answeredWith .ok t
              ∧ t.plan.rows = s.plan.rows.filter (fun r => !(r.state = .planned || r.state = .sealed))
              ∧ t.plan.opening = none ∧ t.link.lanesPending = none
              ∧ ((∃ r ∈ t.plan.rows, r.slot = i) → t.plan.slots[i] = .draining c)
              ∧ ((∀ r ∈ t.plan.rows, r.slot ≠ i) → t.plan.slots[i] = .none)
              ∧ (∀ j : Fin 2, j ≠ i → t.plan.slots[j] = s.plan.slots[j])
              ∧ t.pos = s.pos ∧ t.ing = s.ing ∧ t.cp.binding = .ready)))
  ∧ (∀ (p : List Byte) (lp : Nat),
      let n := byteAt p 0
      let mm (i : Nat) : Nat := field p (0x14 + 2 * i) 2
      let first (i : Nat) : Nat := field p (4 + 4 * i) 2
      let last (i : Nat) : Nat := field p (6 + 4 * i) 2
      let inRange : Prop := 1 ≤ n ∧ n ≤ 4 ∧ (∀ i, i < n → first i ≤ last i ∧ last i ≤ 32767)
        ∧ (2000 ≤ mm 0 ∧ mm 0 ≤ 60000) ∧ (200 ≤ mm 1 ∧ mm 1 ≤ 10000) ∧ mm 1 < mm 0 ∧ (100 ≤ mm 2 ∧ mm 2 ≤ 2000)
        ∧ (50 ≤ mm 3 ∧ mm 3 ≤ 2000) ∧ mm 4 ≤ 500 ∧ mm 5 ≤ 20000 ∧ mm 5 < mm 6 ∧ (1000 ≤ mm 6 ∧ mm 6 ≤ 30000)
        ∧ (200 ≤ mm 7 ∧ mm 7 ≤ 9000) ∧ mm 2 ≤ mm 7 ∧ (1 ≤ mm 8 ∧ mm 8 ≤ 50) ∧ 8 * mm 8 ≤ mm 2
        ∧ (100 ≤ mm 9 ∧ mm 9 ≤ 5000) ∧ mm 10 ≤ 200 ∧ (1 ≤ byteAt p 2 ∧ byteAt p 2 ≤ 3)
        ∧ mmToLines lp (mm 1) < mmToLines lp (mm 0)
      let apart : Prop := ∀ i, i + 1 < n → last i < first (i + 1)
      let x := campaignFrom lp p
      let ln (i : Nat) : Nat := mmToLines lp (mm i)
      (¬ inRange → campCheck lp p = some .range) ∧ (inRange → ¬ apart → campCheck lp p = some .conflict)
      ∧ (inRange → apart → campCheck lp p = none)
      ∧ x.lanes.length = min 4 n ∧ (∀ i, i < 4 → i < n → x.lanes[i]? = some { first := first i, last := last i })
      ∧ x.gc = ln 0 ∧ x.lead = ln 1 ∧ x.minCut = ln 2 ∧ x.strip = ln 3 ∧ x.clearance = ln 4 ∧ x.startGap = ln 5
      ∧ x.planAhead = ln 6 ∧ x.spare = ln 7 ∧ x.tolerance = ln 8 ∧ x.scoreLate = ln 9 ∧ x.commitOffset = ln 0 - ln 1
      ∧ x.edgeBandMm = field p 0x28 2 ∧ x.avoidShift = (byteAt p 0x01).testBit 0
      ∧ x.avoidReassign = (byteAt p 0x01).testBit 1 ∧ (byteAt p 0x02 ≤ 3 → x.cap.code = byteAt p 0x02)
      ∧ ∀ d, 0 < lp → 2 * lp * mmToLines lp d ≤ 2000 * d + lp ∧ 2000 * d + lp < 2 * lp * (mmToLines lp d + 1))
  ∧ (∀ (i : Fin 2) (c : Campaign) (s : State),
      let line := s.pos.line
      let laid (kind : RowKind) (start stop : Nat) (lanes : List LanePlate) (p : Planner) : Planner := { p with
        rows := p.rows ++ [
          { num := p.nextRow, kind := kind, slot := i, start := start, stop := stop, state := .planned, unsealed := false,
            shifts := 0, lanes := lanes, leading := p.rows.getLast?.bind (·.trailing), trailing := none,
            extremes := if start ≤ s.ing.assembled then p.carried else none }],
        nextRow := nextNumber p.nextRow, carried := if s.ing.assembled < stop then none else p.carried,
        counters := { p.counters with laid := inc32 p.counters.laid } }
      let opened : Planner := { s.plan with opening := none }
      ((∀ j d, s.plan.active ≠ some (j, d)) ∨ s.pos.broken = true ∨ 64 ≤ s.plan.rows.length → s.runPlanning = s)
      ∧ (s.plan.opening = none → s.plan.rows = [] → s.runPlanning = s)
      ∧ (s.plan.active = some (i, c) → s.pos.broken = false → s.plan.rows.length < 64 →
          (∀ o, s.plan.opening = some o → s.runPlanning = State.layLoop 65 (s.layOpening o i c))
          ∧ ∀ (r : Row), s.plan.opening = none → s.plan.rows.getLast? = some r →
              (line + c.planAhead ≤ r.stop → s.runPlanning = s)
              ∧ (r.stop < line + c.planAhead → line < r.stop →
                  s.runPlanning = State.layLoop 65 (s.layPlateRow i c r.stop))
              ∧ (r.stop < line + c.planAhead → r.stop ≤ line →
                  s.runPlanning = State.layLoop 65 (State.layFromExtent i c 2 (s.layGap i c r.stop))))
      ∧ (∀ r : Row, s.plan.rows.getLast? = some r →
          let x := r.stop
          (x < line + c.startGap → s.layOpening .change i c =
            { s with plan := laid .change x (max (line + c.startGap) (x + c.minCut)) [] opened })
          ∧ (line + c.startGap ≤ x → s.layOpening .change i c = { s with plan := opened })
          ∧ s.layOpening .brk i c =
              { s with plan := laid .brk x (max (line + c.startGap) (x + c.minCut)) [] opened })
      ∧ (s.plan.rows = [] →
          let a := s.ing.assembled
          s.layOpening .change i c = State.giveRetire
            { s with plan := laid .head a (max (line + c.startGap) (a + 1)) [] opened }
          ∧ s.layOpening .brk i c = State.giveRetire
            { s with plan := laid .brk a (max (line + c.startGap) (a + c.minCut)) [] opened })
      ∧ (∀ x, let t := s.layGap i c x
          let stop := max (line + c.startGap) (x + c.minCut)
          t.plan = { laid .gap x stop [] s.plan with counters := { s.plan.counters with
            laid := inc32 s.plan.counters.laid, starved := inc32 s.plan.counters.starved } }
          ∧ t.ev.pending.getLsbD 19 = true ∧ t = { s with plan := t.plan, ev := t.ev, rings := t.rings })
      ∧ ∀ x,
          let fits (o : Order) : Prop := o.state = .active ∧ 1 ≤ o.remaining - o.planned ∧ c.minCut ≤ o.length
            ∧ ∃ j, j < c.lanes.length ∧ o.laneMask.getLsbD j = true
          let spare : LanePlate := { order := none, provisional := none, reassigned := false, unsealed := false }
          ((∀ o ∈ s.plan.orders, ¬ fits o) → s.layPlateRow i c x =
            { s with plan := laid .plate x (x + c.spare) (List.replicate c.lanes.length spare) s.plan })
          ∧ ∀ before o after, s.plan.orders = before ++ o :: after → fits o →
              (∀ y ∈ before, fits y → y.priority < o.priority) → (∀ y ∈ after, fits y → y.priority ≤ o.priority) →
              let f := fillLanes o.length (List.range c.lanes.length) s.plan.orders
              s.layPlateRow i c x = { s with plan := laid .plate x (x + o.length) f.1 { s.plan with orders := f.2 } })
  ∧ ∀ (length lane : Nat) (rest : List Nat) (os : List Order),
      let fits (o : Order) : Prop := o.state = .active ∧ 1 ≤ o.remaining - o.planned ∧ o.length = length
        ∧ o.laneMask.getLsbD lane = true
      let laid (order : Option Nat) : LanePlate :=
        { order := order, provisional := none, reassigned := false, unsealed := false }
      fillLanes length [] os = ([], os)
      ∧ ((∀ o ∈ os, ¬ fits o) →
          fillLanes length (lane :: rest) os = (laid none :: (fillLanes length rest os).1, (fillLanes length rest os).2))
      ∧ ∀ before o after, os = before ++ o :: after → fits o →
          (∀ y ∈ before, fits y → y.priority < o.priority) → (∀ y ∈ after, fits y → y.priority ≤ o.priority) →
          let next := fillLanes length rest (modOrder o.id (fun y => { y with planned := y.planned + 1 }) os)
          fillLanes length (lane :: rest) os = (laid (some o.id) :: next.1, next.2)

/-- R95 to R97: the order commands in READY, on the order book but for its planned counts, which planning moves; what an
ORDER_ADD is checked for, in order, and what its payload holds (11.2). R107, R100: replanning discards the PLANNED rows that start above the ribbon line number,
returns their planned counts, and lays rows behind those that stay. That the cancelling of a DONE order replans as well is the
model's reading (log 59), and so is that bits 2 to 7 of the flags byte are ignored (log 61). -/
def Obligations.OrderCommandsTakeEffect : Prop :=
  (∀ (p : List Byte) (s : State), s.cp.binding = .ready →
    let id := field p 0 2
    let book (run : Host.Outcome State Fault Refusal) (os : List Order) : Prop :=
      ∃ t, run = .next t ∧ s.answeredWith .ok t ∧ t.plan.orders.map Order.unplanned = os.map Order.unplanned
        ∧ t.plan.slots = s.plan.slots ∧ t.pos = s.pos ∧ t.ing = s.ing ∧ t.cp.binding = .ready
    (s.given .orderAdd p →
      (∀ code, orderCheck s.lp s.plan p = some code → exec .orderAdd s = .next (s.finish code false))
      ∧ (orderCheck s.lp s.plan p = none → book (exec .orderAdd s) (s.plan.orders ++ [orderFrom s.lp p])))
    ∧ (findOrder id s.plan.orders = none →
        (s.given .orderHold p → exec .orderHold s = .next (s.finish .notFound false))
        ∧ (s.given .orderRelease p → exec .orderRelease s = .next (s.finish .notFound false))
        ∧ (s.given .orderCancel p → exec .orderCancel s = .next (s.finish .notFound false)))
    ∧ (∀ o, findOrder id s.plan.orders = some o →
        (s.given .orderHold p →
          (o.state = .active →
            book (exec .orderHold s) (modOrder id (fun o => { o with state := .held }) s.plan.orders))
          ∧ (o.state ≠ .active → exec .orderHold s = .next (s.finish .state false)))
        ∧ (s.given .orderRelease p →
          (o.state = .held →
            book (exec .orderRelease s) (modOrder id (fun o => { o with state := .active }) s.plan.orders))
          ∧ (o.state ≠ .held → exec .orderRelease s = .next (s.finish .state false)))
        ∧ (s.given .orderCancel p →
          (o.state = .cancelled → exec .orderCancel s = .next (s.finish .state false))
          ∧ (o.state = .done ∨ o.state ≠ .cancelled ∧ o.reserved = 0 →
              book (exec .orderCancel s) (s.plan.orders.filter (fun x => x.id ≠ id)))
          ∧ (o.state = .active ∨ o.state = .held → o.reserved ≠ 0 →
              book (exec .orderCancel s) (modOrder id (fun o => { o with state := .cancelled }) s.plan.orders)))))
  ∧ (∀ (p : List Byte) (lp : Nat) (plan : Planner),
      let id := field p 0 2
      let length := mmToLines lp (field p 4 2)
      let given := (byteAt p 9).testBit 1
      let check := orderCheck lp plan p
      let inRange : Prop := 1 ≤ id ∧ (1 ≤ byteAt p 2 ∧ byteAt p 2 ≤ 15) ∧ (200 ≤ field p 4 2 ∧ field p 4 2 ≤ 9000)
        ∧ 1 ≤ field p 6 2 ∧ byteAt p 3 ≤ 2 ∧ byteAt p 8 ≤ 7 ∧ (given = true → 1 ≤ field p 10 2)
        ∧ ∀ i c, plan.active = some (i, c) → c.minCut ≤ length
      let taken : Prop := ∃ x ∈ plan.orders, x.id = id
      let named : Prop := ∃ x ∈ plan.orders, x.id = field p 10 2 ∧ x.length = length
        ∧ x.laneMask = BitVec.ofNat 4 (byteAt p 2)
      (¬ inRange → check = some .range) ∧ (inRange → 32 ≤ plan.orders.length → check = some .full)
      ∧ (inRange → plan.orders.length < 32 → taken ∨ given = true ∧ ¬ named → check = some .conflict)
      ∧ (inRange → plan.orders.length < 32 → ¬ taken → (given = true → named) → check = none)
      ∧ orderFrom lp p =
          { id := id, laneMask := BitVec.ofNat 4 (byteAt p 2), length := length, requested := field p 6 2,
            grade := (orderFrom lp p).grade, priority := byteAt p 8,
            fallback := if given then some (field p 10 2) else none, endCampaign := (byteAt p 9).testBit 0,
            state := .active, made := 0, reserved := 0, remaining := field p 6 2, planned := 0 }
      ∧ (byteAt p 3 ≤ 2 → (orderFrom lp p).grade.code = byteAt p 3))
  ∧ (∀ s : State,
      let ahead (r : Row) : Bool := r.state = .planned && s.pos.line < r.start
      let t := s.replan
      ((∀ i c, s.plan.active ≠ some (i, c)) → t = s)
      ∧ ∀ i c, s.plan.active = some (i, c) →
          t = ((({ s with plan := s.plan.discard ahead } : State).runPlanning).giveRetire)
          ∧ ∃ more, t.plan.rows = s.plan.rows.filter (fun r => !ahead r) ++ more ∧ ∀ r ∈ more, r.state = .planned)
  ∧ ∀ (q : Row → Bool) (p : Planner),
      let gone := p.rows.filter q
      (p.discard q).rows = p.rows.filter (fun r => !q r)
      ∧ (p.discard q).orders = p.orders.map (fun o => { o with
          planned := o.planned - ((gone.flatMap (·.lanes)).filter (fun l => l.order = some o.id)).length })
      ∧ (p.discard q).counters = { p.counters with
          discarded := satAdd Config.max32 p.counters.discarded gone.length }
      ∧ (p.discard q).slots = p.slots ∧ (p.discard q).nextRow = p.nextRow ∧ (p.discard q).nextCut = p.nextCut

/-- R152 to R157: the final grading of the waiting row, its records with grades, outcomes and flags lane by lane, and the wait
while PLATE staging has no room. R156, R161: the tallies of its plates, or of the cullet row. R98, R99: the accounting of a plate for its order, the fallback that qualifies, and the DONE
test; a fallback id is looked up anew, which is the model's choice (log 49). R116: the oldest row is not FINAL afterwards. -/
def Obligations.FinalGradingPlacesRecords : Prop :=
  (∀ (w : Waiting) (row : Row) (c : Campaign) (s : State), s.grader.waiting = some w →
    s.plan.rows.find? (fun r => r.num = w.row) = some row → s.plan.slots[row.slot].campaign = some c →
    let staging := s.rings[plateRing].staging
    let room : Prop := s.rings[plateRing].state = .unset ∨ staging.length + w.need ≤ 16
    let old := s.tally.live
    let actualStart := boundaryLine row.start row.leading
    let actualStop := boundaryLine row.stop row.trailing
    let columns (l : Lane) : Nat := l.last + 1 - l.first
    (¬ room → exec .finalGrading s = .next (if w.counted then s else { s with grader := { s.grader with
      waiting := some { w with counted := true }, stagingFull := true,
      counters := { s.grader.counters with stagingWaits := inc32 s.grader.counters.stagingWaits } } }))
    ∧ (room →
        ∃ t, exec .finalGrading s = .next t ∧ t.pos = s.pos ∧ t.path = s.path ∧ t.ing = s.ing
          ∧ t.cp.binding = s.cp.binding
          ∧ (s.plan.rows.length ≤ 64 → ∀ y ∈ t.plan.rows.head?, y.state ≠ .final)
          ∧ (s.rings[plateRing].state = .unset → t.rings[plateRing].staging = staging)
          ∧ (row.kind ≠ .plate →
              let lines := actualStop - actualStart
              t.tally.live = { old with
                culletRows := tallyAdd old.culletRows 1, culletLines := tallyAdd old.culletLines lines,
                gradedArea := satAdd Config.max64 old.gradedArea (lines * (c.lanes.map columns).sum) }
              ∧ t.grader.nextPlate = nextNumber s.grader.nextPlate
              ∧ t.grader.counters.cullet = inc32 s.grader.counters.cullet
              ∧ (s.rings[plateRing].state ≠ .unset →
                  ∃ x : PlateRec, t.rings[plateRing].staging = staging ++ [{ record := .plate x, issued := none }]
                    ∧ x.num = s.grader.nextPlate ∧ x.row = row.num ∧ x.lane = none ∧ x.kind = row.kind
                    ∧ x.grade = none ∧ x.outcome = .cullet ∧ x.start = row.start ∧ x.stop = row.stop
                    ∧ x.order = none ∧ x.provisional = none ∧ x.score = 0 ∧ x.fatal = 0 ∧ x.actualStart = actualStart
                    ∧ x.actualStop = actualStop ∧ x.flags.unsealed = row.unsealed
                    ∧ x.flags.cutMissed = (cutMissed row.leading || cutMissed row.trailing)
                    ∧ x.flags.cutOffset = (cutOffset row.leading || cutOffset row.trailing)
                    ∧ x.flaws = (if actualStop ≤ actualStart then 0
                        else min 65535 (s.map.flaws.filter (fun f => f.first < actualStop && actualStart ≤ f.last
                          && c.lanes.any (fun l => f.c0 ≤ l.last && l.first ≤ f.c1))).length)
                    ∧ (x.flags.uninspected = true ↔ actualStart < actualStop ∧ ∃ y ∈ s.map.spans,
                        y.start < actualStop ∧ actualStart < y.stop ∧ y.kind ≠ .mapFull)
                    ∧ (x.flags.mapFull = true ↔ actualStart < actualStop ∧ ∃ y ∈ s.map.spans,
                        y.start < actualStop ∧ actualStart < y.stop ∧ (y.kind = .mapFull ∨ y.kind = .mixed))
                    ∧ x.flags.edgeShort = false ∧ x.flags.regraded = false ∧ x.flags.reassigned = false
                    ∧ x.flags.shifted = false
                    ∧ x.day = s.pos.day ∧ x.tod = s.pos.tod))
          ∧ (row.kind = .plate →
              let n := min row.lanes.length c.lanes.length
              let lanes := (row.lanes.zip c.lanes).map (fun (l, lane) => (l, s.gradeFinal c row lane l))
              let areas := (row.lanes.zip c.lanes).map (fun (_, lane) => (actualStop - actualStart) * columns lane)
              let good := ((lanes.zip areas).filter (fun x => x.1.2.grade ≠ .reject)).map (·.2)
              (∀ i : Fin 4, t.tally.live.grades[i] = Nat.repeat (tallyAdd · 1)
                  (lanes.filter (fun x => x.2.grade.code = i.val)).length old.grades[i]
                ∧ t.tally.live.outcomes[i] = Nat.repeat (tallyAdd · 1)
                  ((s.outcomes lanes).2.filter (fun k => k.code = i.val)).length old.outcomes[i])
              ∧ t.tally.live.gradedArea = areas.foldl (satAdd Config.max64) old.gradedArea
              ∧ t.tally.live.goodArea = good.foldl (satAdd Config.max64) old.goodArea
              ∧ t.tally.live = { old with
                  grades := t.tally.live.grades, outcomes := t.tally.live.outcomes,
                  gradedArea := t.tally.live.gradedArea, goodArea := t.tally.live.goodArea }
              ∧ t.grader.counters.plates = Nat.repeat inc32 n s.grader.counters.plates
              ∧ ((∃ x ∈ lanes, x.2.grade = .reject) → t.ev.pending.getLsbD 26 = true) ∧
              t.grader.nextPlate = Nat.repeat nextNumber n s.grader.nextPlate
              ∧ (s.rings[plateRing].state ≠ .unset →
                  ∃ xs : List PlateRec,
                    t.rings[plateRing].staging = staging ++ xs.map (fun x => { record := .plate x, issued := none })
                    ∧ xs.map (·.num) = numbersFrom s.grader.nextPlate n
                    ∧ xs.map (·.lane) = (List.range n).map some
                    ∧ xs.map (·.order) = (row.lanes.take n).map (·.order)
                    ∧ xs.map (fun x => (x.provisional, x.grade, x.score, x.flaws, x.fatal))
                        = lanes.map (fun (l, g) => (l.provisional, some g.grade, g.score, g.flaws, g.fatal))
                    ∧ xs.map (·.outcome) = (s.outcomes lanes).2
                    ∧ xs.map (·.flags) = lanes.map (fun (l, g) =>
                        { uninspected := g.uninspected, mapFull := g.mapFull, unsealed := l.unsealed,
                          cutMissed := cutMissed row.leading || cutMissed row.trailing,
                          cutOffset := cutOffset row.leading || cutOffset row.trailing, edgeShort := g.edgeShort,
                          regraded := l.provisional.any (fun p => p ≠ g.grade), reassigned := l.reassigned,
                          shifted := 0 < row.shifts })
                    ∧ ∀ x ∈ xs, x.row = row.num ∧ x.kind = .plate ∧ x.grade ≠ none ∧ x.start = row.start
                        ∧ x.stop = row.stop ∧ x.actualStart = actualStart ∧ x.actualStop = actualStop))))
  ∧ (∀ (l : LanePlate) (g : Grade) (s : State),
      (l.order = none → s.laneOutcome l g = (s, .spare)) ∧ ∀ id, l.order = some id → s.laneOutcome l g = s.settle id g)
  ∧ (∀ (l : LanePlate) (g : PlateResult) (rest : List (LanePlate × PlateResult)) (s : State),
      s.outcomes [] = (s, [])
      ∧ s.outcomes ((l, g) :: rest) = (((s.laneOutcome l g.grade).1.outcomes rest).1,
          (s.laneOutcome l g.grade).2 :: ((s.laneOutcome l g.grade).1.outcomes rest).2))
  ∧ (∀ (id : Nat) (g : Grade) (x : Order) (s : State), findOrder id s.plan.orders = some x →
      let meets (o : Order) : Prop := g ≠ .reject ∧ g.code ≤ o.grade.code
      let booked (os : List Order) : State := { s with plan := { s.plan with orders := os } }
      let back := modOrder id (fun o => { o with reserved := o.reserved - 1, remaining := o.remaining + 1 }) s.plan.orders
      (∀ f, fallbackFor g x s.plan.orders = some f ↔ ∃ n, x.fallback = some n ∧ findOrder n s.plan.orders = some f
        ∧ f.state = .active ∧ 1 ≤ f.remaining - f.planned ∧ meets f)
      ∧ (meets x → s.settle id g = (State.doneTest id (booked (modOrder id (fun o =>
          { o with reserved := o.reserved - 1, made := o.made + 1 }) s.plan.orders)), .made))
      ∧ (¬ meets x → ∀ f, fallbackFor g x s.plan.orders = some f →
          s.settle id g = (State.doneTest f.id (State.doneTest id (booked (modOrder f.id (fun o =>
            { o with remaining := o.remaining - 1, made := o.made + 1 }) back))), .fallback))
      ∧ (¬ meets x → fallbackFor g x s.plan.orders = none → s.settle id g = (State.doneTest id (booked back), .failed)))
  ∧ (∀ (id : Nat) (o : Order) (s : State), findOrder id s.plan.orders = some o →
      let finished : State := { s with plan := { s.plan with
        orders := modOrder id (fun o => { o with state := .done }) s.plan.orders } }
      let ended := finished.raise .orderDone id o.made
      let over_ : Prop := (o.state = .active ∨ o.state = .held) ∧ o.remaining = 0 ∧ o.reserved = 0
      (over_ → o.endCampaign = false → s.doneTest id = ended)
      ∧ (over_ → o.endCampaign = true → s.doneTest id = ended.endCampaign)
      ∧ (o.state = .cancelled → o.reserved = 0 →
          s.doneTest id = { s with plan := { s.plan with orders := s.plan.orders.filter (fun x => x.id ≠ id) } })
      ∧ (¬ over_ → ¬ (o.state = .cancelled ∧ o.reserved = 0) → s.doneTest id = s))

/-- R147: the computed grade of a plate. -/
def Obligations.ComputedGradeFollowsTable : Prop :=
  ∀ (t : GradeTable) (empty : Bool) (fatal score : Nat),
    (empty = true ∨ 1 ≤ fatal → t.computed empty fatal score = .reject)
    ∧ (empty = false → fatal = 0 →
        (score ≤ t.ta → t.computed empty fatal score = .a)
        ∧ (t.ta < score → score ≤ t.tb → t.computed empty fatal score = .b)
        ∧ (t.ta < score → t.tb < score → score ≤ t.tc → t.computed empty fatal score = .c)
        ∧ (t.ta < score → t.tb < score → t.tc < score → t.computed empty fatal score = .reject))

/-- R144 to R150: what the grade of a plate is made of: the score, the sum of the points of its flaws by zone; the numbers of
its flaws and of its fatal flaws; the grade, the worse of the computed one and the cap where a cap applies; the edge test. -/
def Obligations.PlateGradeIsCappedAndEdgeTested : Prop :=
  ∀ (t : GradeTable) (m : FlawMap) (r : Rect) (cap : Grade) (unsealed missed : Bool) (ext : Option Extremes),
    let g := gradePlate t m r cap unsealed missed ext
    let attributed (f : Flaw) : Prop :=
      f ∈ m.flaws ∧ r.start < r.stop ∧ f.first < r.stop ∧ r.start ≤ f.last ∧ f.c0 ≤ r.lane.last ∧ r.lane.first ≤ f.c1
    let core (f : Flaw) : Prop :=
      r.lane.first + r.bandCols ≤ (f.c0 + f.c1) / 2 ∧ (f.c0 + f.c1) / 2 + r.bandCols ≤ r.lane.last
        ∧ r.start + r.bandLines ≤ (f.first + f.last) / 2 ∧ (f.first + f.last) / 2 + 1 + r.bandLines ≤ r.stop
    let fatal (f : Flaw) : Prop := attributed f ∧ core f ∧ t.fatal.getLsbD (f.cls.code * 8 + f.bin) = true
    let inSpan (k : SpanKind) : Prop := ∃ x ∈ m.spans, x.kind = k ∧ x.start < r.stop ∧ r.start < x.stop
    let short : Prop := ∃ e, ext = some e ∧ (r.lane.first < e.left ∨ e.right < r.lane.last)
    let mine := m.flaws.filter (fun f => r.start < r.stop && f.first < r.stop && r.start ≤ f.last && f.c0 ≤ r.lane.last
      && r.lane.first ≤ f.c1)
    let inCore (f : Flaw) : Bool :=
      r.lane.first + r.bandCols ≤ (f.c0 + f.c1) / 2 && (f.c0 + f.c1) / 2 + r.bandCols ≤ r.lane.last
        && r.start + r.bandLines ≤ (f.first + f.last) / 2 && (f.first + f.last) / 2 + 1 + r.bandLines ≤ r.stop
    let worse (x y : Grade) : Grade := if x.code < y.code then y else x
    g.score = min 65535 ((mine.map (fun f => if inCore f then t.weights[classIndex f.cls f.bin]
      else t.weights[classIndex f.cls f.bin] * t.edgeFactor / 4)).sum)
    ∧ g.flaws = min 65535 mine.length
    ∧ g.fatal = min 65535 (mine.filter (fun f => inCore f && t.fatal.getLsbD (classIndex f.cls f.bin))).length
    ∧ (¬ short → g.uninspected = true ∨ g.mapFull = true ∨ unsealed = true ∨ missed = true →
        g.grade = worse (t.computed (decide (r.stop ≤ r.start)) g.fatal g.score) cap)
    ∧ (g.edgeShort = true ↔ short) ∧ (short → g.grade = .reject)
    ∧ (r.stop ≤ r.start → g.grade = .reject ∧ g.flaws = 0 ∧ g.fatal = 0 ∧ g.score = 0)
    ∧ ((∃ f, fatal f ∧ f.bin < 8) → g.grade = .reject)
    ∧ (r.start < r.stop → (g.mapFull = true ↔ inSpan .mapFull ∨ inSpan .mixed))
    ∧ (r.start < r.stop → (g.uninspected = true ↔ ∃ k, k ≠ .mapFull ∧ inSpan k))
    ∧ (g.uninspected = true ∨ g.mapFull = true ∨ unsealed = true ∨ missed = true → cap.code ≤ g.grade.code)
    ∧ (¬ short → g.uninspected = false → g.mapFull = false → unsealed = false → missed = false →
        g.grade = t.computed (decide (r.stop ≤ r.start)) g.fatal g.score)
    ∧ (∀ f, t.points true f = t.weights[classIndex f.cls f.bin]
        ∧ t.points false f = t.weights[classIndex f.cls f.bin] * t.edgeFactor / 4)

/-! ## The Cut Link (06) -/

/-- R122, R127, R130, R133: the oldest frame of the queue goes into the shift stage with the settings in force; a frame that has
been sent is counted, and its cut, if still QUEUED, becomes SENT with its ack timer at 0; an expired ack timer repeats its
cut while repeats are left, and misses it with NO_ACK otherwise. R136: the cuts whose score deadline a line trigger reaches are
missed with DEADLINE in list order, and the others stand. R122 and 11.6: the levels a frame puts on CUT_TX and the payloads of
the frames sent. -/
def Obligations.LinkSendsAndRepeatsFrames : Prop :=
  (∀ s : State,
      (∀ f rest, s.link.on = true → s.link.shift = none → s.link.txq = f :: rest →
        ∃ t more, exec .frameSendStart s = .next t ∧ t = { s with link := t.link }
          ∧ t.link.shift = some { frame := f, rate := s.link.settings.rate, breakLen := s.link.settings.breakLen,
                                  wire := frameBits s.link.settings.breakLen f.code f.payload }
          ∧ t.link.txq = rest ++ more ∧ t.link.txq.length ≤ max 8 rest.length ∧ t.link.counters = s.link.counters
          ∧ (s.link.lanesPending = none → s.readiness = false → t.link.txq = rest ∧ t.link.cuts = s.link.cuts))
      ∧ (∀ st num line e x, s.link.shift = some st → st.frame = .cut num line e x →
          exec .frameSendComplete s = .next { s with link := { s.link with
            shift := none,
            cuts := s.link.cuts.map (fun c =>
              if c.num = num then
                if c.status = .queued then
                  { c with status := .sent, timer := some { count := 0, timeout := s.link.settings.ackTimeout } }
                else c
              else c),
            counters := { s.link.counters with sentCut := inc32 s.link.counters.sentCut } } })
      ∧ (∀ st edges, s.link.shift = some st → st.frame = .lanes edges →
          exec .frameSendComplete s = .next { s with link := { s.link with
            shift := none, counters := { s.link.counters with sentLanes := inc32 s.link.counters.sentLanes } } }))
  ∧ (∀ (num : Idx) (c : Cut) (s : State), findCut num s.link.cuts = some c → c.status = .sent →
      (∃ x, c.timer = some x ∧ x.timeout ≤ x.count) →
      ∃ t, exec (.ackTimeout num) s = .next t ∧ t.pos = s.pos ∧ t.path = s.path ∧ t.ing = s.ing
        ∧ t.cp.binding = s.cp.binding
        ∧ (c.repeats < s.link.settings.repeats →
            t.link.counters.repeats = inc32 s.link.counters.repeats ∧ t.plan = s.plan
            ∧ ∃ x, findCut num t.link.cuts = some x ∧ x.repeats = c.repeats + 1 ∧ x.timer = none
                ∧ (x.status = .unsent ∨ x.status = .queued))
        ∧ (s.link.settings.repeats ≤ c.repeats →
            t.link.counters.missed[1] = inc32 s.link.counters.missed[1] ∧ t.ev.pending.getLsbD 21 = true
            ∧ t.tally.live.missed = tallyAdd s.tally.live.missed 1
            ∧ (∀ x ∈ t.link.cuts, x.num = num → x.status = .missed)
            ∧ (∀ r ∈ t.plan.rows, ∀ k, r.leading = some k ∨ r.trailing = some k → k.num = num → k.res = .missed)))
  ∧ (∀ s : State,
      let late := s.link.cuts.filter (fun c => !c.isResolved && c.line + c.gc + c.scoreLate ≤ s.pos.line)
      let t := s.deadlineTest
      t = State.settleLink (late.foldl (fun u c => u.missCut c.num .deadline 0) s)
      ∧ t.link.counters.missed[5] = Nat.repeat inc32 late.length s.link.counters.missed[5]
      ∧ t.tally.live.missed = Nat.repeat (tallyAdd · 1) late.length s.tally.live.missed
      ∧ (∀ x ∈ late, t.ev.pending.getLsbD 21 = true
          ∧ (∀ y ∈ t.link.cuts, y.num = x.num → y.status = .missed)
          ∧ (∀ f ∈ t.link.txq, f.isCut x.num = false)
          ∧ ∀ r ∈ t.plan.rows, ∀ k, r.leading = some k ∨ r.trailing = some k → k.num = x.num → k.res = .missed)
      ∧ (∀ y ∈ t.link.cuts, y.isResolved = false → s.pos.line < y.line + y.gc + y.scoreLate)
      ∧ (late = [] → t.plan = s.plan ∧ t.ev = s.ev ∧ t.tally = s.tally ∧ t.link.counters = s.link.counters)
      ∧ t.pos = s.pos ∧ t.path = s.path ∧ t.ing = s.ing)
  ∧ (∀ (breakLen : Nat) (kind : Byte) (payload : List Byte),
      frameBits breakLen kind payload = List.replicate breakLen false ++ [true, true]
        ++ ([0xC3, kind, BitVec.ofNat 8 payload.length] ++ payload ++ [checksum kind payload]).flatMap charBits
      ∧ (checksum kind payload).toNat = 255 - (kind.toNat + payload.length + (payload.map (·.toNat)).sum) % 256
      ∧ ∀ c : Byte, ∃ parity : Bool,
          charBits c = [false, c.getLsbD 0, c.getLsbD 1, c.getLsbD 2, c.getLsbD 3, c.getLsbD 4, c.getLsbD 5, c.getLsbD 6,
            c.getLsbD 7, parity, true]
          ∧ (((charBits c).drop 1).take 9).count true % 2 = 0)
  ∧ (∀ (num : Idx) (line : Nat) (plateEnd repeated : Bool),
      let f := TxFrame.cut num line plateEnd repeated
      f.code = 0x01 ∧ f.payload.length = 8 ∧ field f.payload 0 2 = num.toNat ∧ field f.payload 2 5 = line % 2 ^ 40
      ∧ (byteAt f.payload 7).testBit 0 = plateEnd ∧ (byteAt f.payload 7).testBit 1 = !plateEnd
      ∧ (byteAt f.payload 7).testBit 2 = repeated ∧ byteAt f.payload 7 < 2 ^ 3)
  ∧ ∀ (edges : List (Nat × Nat)),
      let f := TxFrame.lanes edges
      f.code = 0x02 ∧ f.payload.length = 4 * edges.length
      ∧ ∀ (i l r : Nat), edges[i]? = some (l, r) →
          field f.payload (4 * i) 2 = l % 2 ^ 16 ∧ field f.payload (4 * i + 2) 2 = r % 2 ^ 16

/-- R132, R134, R135: the cutter's answers about a cut of the list; each well-formed frame is counted, and its action has
made its changes. -/
def Obligations.CutterAnswersResolveCuts : Prop :=
  ∀ (p : List Byte) (x : Cut) (s : State),
    let num : Idx := BitVec.ofNat 16 (field p 0 2)
    let actual := field p 2 5
    let off := (actual - x.line) + (x.line - actual)
    let open_ : Prop := x.status = .unsent ∨ x.status = .queued ∨ x.status = .sent ∨ x.status = .accepted
    let took (t : State) (i : Fin 4) : Prop :=
      t.link.counters.received[i] = inc32 s.link.counters.received[i]
        ∧ (∃ a, t.link.acting = some a ∧ a.done = true) ∧ t.pos = s.pos ∧ t.path = s.path ∧ t.ing = s.ing
    let recorded (t : State) (res : Resolution) : Prop :=
      ∀ r ∈ t.plan.rows, ∀ k, r.leading = some k ∨ r.trailing = some k → k.num = num → k.res = res
    let duplicate (t : State) : Prop :=
      t.link.counters.duplicate = inc32 s.link.counters.duplicate ∧ t.link.cuts = s.link.cuts ∧ t.ev = s.ev
        ∧ t.plan = s.plan
    let late (t : State) : Prop :=
      t.link.counters.late = inc32 s.link.counters.late ∧ t.link.cuts = s.link.cuts ∧ t.ev.pending.getLsbD 24 = true
        ∧ t.plan = s.plan
    findCut num s.link.cuts = some x →
    (s.framed 0x81 p → ∃ t, exec .accept s = .next t ∧ took t 0
      ∧ (x.status = .unsent ∨ x.status = .queued ∨ x.status = .sent →
          (∀ y ∈ t.link.cuts, y.num = num → y.status = .accepted ∧ y.timer = none)
          ∧ (∀ f ∈ t.link.txq, f.isCut num = false) ∧ t.plan = s.plan ∧ t.ev = s.ev)
      ∧ (x.status = .accepted ∨ x.status = .scored → duplicate t) ∧ (x.status = .missed → late t))
    ∧ (s.framed 0x82 p → ∃ t, exec .scored s = .next t ∧ took t 1
      ∧ (open_ → off ≤ 4 * x.tolerance →
          recorded t (.scored actual (decide (x.tolerance < off)))
          ∧ t.tally.live.scored = tallyAdd s.tally.live.scored 1
          ∧ (∀ y ∈ t.link.cuts, y.num = num → y.status = .scored)
          ∧ (x.tolerance < off → t.ev.pending.getLsbD 22 = true))
      ∧ (open_ → 4 * x.tolerance < off →
          recorded t .missed ∧ (∀ y ∈ t.link.cuts, y.num = num → y.status = .missed)
          ∧ t.ev.pending.getLsbD 21 = true)
      ∧ (open_ → ∀ y ∈ s.link.cuts.takeWhile (fun y => y.num ≠ num), y.isResolved = false →
          t.ev.pending.getLsbD 21 = true ∧ ∀ z ∈ t.link.cuts, z.num = y.num → z.status = .missed)
      ∧ (x.status = .scored → duplicate t) ∧ (x.status = .missed → late t))
    ∧ (s.framed 0x83 p → ∃ t, exec .refuse s = .next t ∧ took t 2
      ∧ (open_ →
          t.link.counters.refused = inc32 s.link.counters.refused ∧ recorded t .missed
          ∧ (∀ y ∈ t.link.cuts, y.num = num → y.status = .missed) ∧ t.ev.pending.getLsbD 21 = true)
      ∧ (x.status = .missed → duplicate t) ∧ (x.status = .scored → late t))

/-- R131, R137: an answer that names no cut of the list is late when the number lies 1 to 256 behind the next one and unknown
otherwise; a READY frame sets the cutter's state, and readiness follows: where it rises, the cuts still UNSENT whose line has
reached the cutter are missed with NOT_READY, and a LANES frame of the ACTIVE campaign is requested (R128). -/
def Obligations.ReadyAndStrangeAnswers : Prop :=
  ∀ (p : List Byte) (s : State),
    let num : Idx := BitVec.ofNat 16 (field p 0 2)
    let behind := (s.link.next - num).toNat
    let strange (run : Host.Outcome State Fault Refusal) : Prop := ∃ t, run = .next t
      ∧ t.link.cuts = s.link.cuts ∧ t.plan = s.plan ∧ t.ev.pending.getLsbD 24 = true
      ∧ (1 ≤ behind ∧ behind ≤ 256 → t.link.counters.late = inc32 s.link.counters.late
          ∧ t.link.counters.unknown = s.link.counters.unknown)
      ∧ (¬ (1 ≤ behind ∧ behind ≤ 256) → t.link.counters.unknown = inc32 s.link.counters.unknown
          ∧ t.link.counters.late = s.link.counters.late)
    (findCut num s.link.cuts = none →
      (s.framed 0x81 p → strange (exec .accept s)) ∧ (s.framed 0x82 p → strange (exec .scored s))
      ∧ (s.framed 0x83 p → strange (exec .refuse s)))
    ∧ (s.framed 0x84 p → ∃ t, exec .ready s = .next t
        ∧ t.link.ready = decide (byteAt p 0 = 1) ∧ t.link.counters.received[3] = inc32 s.link.counters.received[3]
        ∧ (∃ a, t.link.acting = some a ∧ a.done = true) ∧ t.pos = s.pos ∧ t.path = s.path ∧ t.ing = s.ing
        ∧ (byteAt p 0 = 0 → s.readiness = true →
            (∀ f ∈ t.link.txq, f.isAnyCut = false) ∧ t.plan = s.plan
            ∧ t.link.cuts.map (·.num) = s.link.cuts.map (·.num))
        ∧ (byteAt p 0 = 1 → s.readiness = false → t.readiness = true → t.link.notReady = false)
        ∧ (byteAt p 0 = 1 → s.readiness = false → t.readiness = true →
            let gone := s.link.cuts.filter (fun x => x.status = .unsent && x.line + x.gc ≤ s.pos.line)
            t.link.counters.missed[6] = Nat.repeat inc32 gone.length s.link.counters.missed[6]
            ∧ (∀ x ∈ gone, t.ev.pending.getLsbD 21 = true
                ∧ (∀ y ∈ t.link.cuts, y.num = x.num → y.status = .missed)
                ∧ ∀ r ∈ t.plan.rows, ∀ k, r.leading = some k ∨ r.trailing = some k → k.num = x.num → k.res = .missed)
            ∧ (∀ i c, s.plan.active = some (i, c) →
                t.link.lanesPending = some (laneEdges s.ing.pp c.lanes)
                  ∨ TxFrame.lanes (laneEdges s.ing.pp c.lanes) ∈ t.link.txq))
        ∧ (s.readiness = t.readiness → t.link.cuts = s.link.cuts ∧ t.link.txq = s.link.txq ∧ t.plan = s.plan
            ∧ t.ev = s.ev))

/-- R123 to R126: the framer: what a character or a break does in each state, the discard of a frame, a malformed frame, and
the end of an action, after which it takes what the receiver holds, in the order of completion; R125: one character and one
break are held, a further character is lost, and after a loss a frame in progress is discarded with OVERRUN. That FRAME_DISCARD
stands for the character or break that discards is the model's choice (log 24), and so are the argument 0 of a malformed frame
with fewer than two payload bytes (log 19), and that every lost character counts one stray in HUNT while a lost break has no
effect (log 18). -/
def Obligations.FramerTakesCharacters : Prop :=
  ∀ (b : Byte) (c : RxChar) (s : State),
    let framer (f : Framer) : State := { s with link := { s.link with framer := f } }
    let stray : State := { s with link := { s.link with
      counters := { s.link.counters with stray := inc32 s.link.counters.stray } } }
    let f := s.link.framer
    let good : RxChar := { data := b, parity := parityBit b, stop := true }
    let run := exec (.characterComplete good) s
    (s.link.on = true → s.link.acting = none →
      exec (.characterComplete c) s = .next (s.takeChar c) ∧ exec .breakTaken s = .next s.takeBreak)
    ∧ (s.link.on = false → exec (.characterComplete c) s = .next s ∧ exec .breakTaken s = .next s)
    ∧ (s.link.on = true → s.link.acting = none →
        (f.state = .hunt → exec (.characterComplete c) s = .next stray)
        ∧ (f.state = .delimiter → run = .next (if b = 0xC3 then framer { f with state := .kind }
            else s.discardFrame .delimiter .hunt))
        ∧ (f.state = .kind → run = .next (framer { f with state := .length, kind := b }))
        ∧ (f.state = .length → b.toNat ≤ 24 → run = .next (framer { f with
            state := if b = 0 then .check else .payload, length := b.toNat, bytes := [] }))
        ∧ (f.state = .length → 24 < b.toNat → run = .next (s.discardFrame .length .hunt))
        ∧ (f.state = .payload → run = .next (framer { f with
            state := if f.length ≤ f.bytes.length + 1 then .check else .payload, bytes := f.bytes ++ [b] }))
        ∧ (f.state = .check → b ≠ checksum f.kind f.bytes → run = .next (s.discardFrame .checksum .hunt))
        ∧ (f.state = .check → b = checksum f.kind f.bytes → run = .next { s with link := { s.link with
            framer := Framer.hunt, acting := some { kind := f.kind, payload := f.bytes, done := false } } })
        ∧ (f.state ≠ .hunt → c.stop = false →
            exec (.characterComplete c) s = .next (s.discardFrame .framing .hunt))
        ∧ (f.state ≠ .hunt → c.stop = true → c.parity ≠ parityBit c.data →
            exec (.characterComplete c) s = .next (s.discardFrame .parity .hunt))
        ∧ (f.state = .hunt ∨ f.state = .delimiter →
            exec .breakTaken s = .next (framer { Framer.hunt with state := .delimiter }))
        ∧ (f.state ≠ .hunt → f.state ≠ .delimiter →
            exec .breakTaken s = .next (s.discardFrame .truncated .delimiter)
            ∧ exec (.frameDiscard .brk) s = exec .breakTaken s)
        ∧ (f.state ≠ .hunt → c.stop = false ∨ c.parity ≠ parityBit c.data →
            exec (.frameDiscard (.char c)) s = exec (.characterComplete c) s)
        ∧ (f.state = .delimiter ∧ b ≠ 0xC3 ∨ f.state = .length ∧ 24 < b.toNat
              ∨ f.state = .check ∧ b ≠ checksum f.kind f.bytes →
            exec (.frameDiscard (.char good)) s = run)
        ∧ (f.state ≠ .hunt → exec .frameGapTimeout s = .next (s.discardFrame .gap .hunt)))
    ∧ (∀ k next, s.discardFrame k next =
        let n := inc32 s.link.counters.errors[k.code]
        (({ s with link := { s.link with
            framer := { Framer.hunt with state := next },
            counters := { s.link.counters with errors := s.link.counters.errors.set k.code n } } } : State).raise
          .linkError k.code.val n).tallied (fun t => { t with linkErrors := tallyAt t.linkErrors k.code 1 }))
    ∧ (∀ a, s.link.acting = some a →
        (s.link.on = true → s.link.heldChar = none → exec (.characterComplete c) s = .next { s with link := { s.link with
          heldChar := some c } })
        ∧ (s.link.on = true → s.link.heldChar ≠ none → exec (.characterComplete c) s = .next { s with link := { s.link with
          lost := s.link.lost + 1 } })
        ∧ (s.link.on = true → s.link.heldBreak = true → exec .breakTaken s = .next s)
        ∧ (s.link.on = true → s.link.heldBreak = false → exec .breakTaken s = .next { s with link := { s.link with
          heldBreak := true, breakFirst := s.link.heldChar.isNone } })
        ∧ (a.done = false → wellFormedFrame a.kind a.payload = false →
            exec .malformedFrame s = .next (State.actionDone (({ s with link := { s.link with
              counters := { s.link.counters with malformed := inc32 s.link.counters.malformed } } } : State).raise
                .linkProtocol (256 * a.kind.toNat) (if a.payload.length < 2 then 0 else field a.payload 0 2))))
        ∧ (a.done = true →
            let ended : State := { s with link := { s.link with
              acting := none, heldChar := none, heldBreak := false, breakFirst := false, lost := 0 } }
            (s.link.heldChar = none → s.link.heldBreak = false → exec .frameActionEnd s = .next ended)
            ∧ (s.link.heldChar = none → s.link.heldBreak = true → exec .frameActionEnd s = .next ended.takeBreak)
            ∧ (∀ h, s.link.heldChar = some h → s.link.heldBreak = false → s.link.lost = 0 →
                exec .frameActionEnd s = .next (ended.takeChar h))
            ∧ (∀ h, s.link.heldChar = some h →
                let strays (u : State) : State := { u with link := { u.link with counters := { u.link.counters with
                  stray := satAdd Config.max32 u.link.counters.stray s.link.lost } } }
                (s.link.heldBreak = false → 0 < s.link.lost →
                  (f.state = .hunt → exec .frameActionEnd s = .next (strays (ended.takeChar h)))
                  ∧ (f.state ≠ .hunt → exec .frameActionEnd s = .next (ended.discardFrame .overrun .hunt)))
                ∧ (s.link.heldBreak = true → s.link.breakFirst = true →
                    exec .frameActionEnd s = .next (if s.link.lost = 0 then ended.takeBreak.takeChar h
                      else ended.takeBreak.discardFrame .overrun .hunt))
                ∧ (s.link.heldBreak = true → s.link.breakFirst = false →
                    exec .frameActionEnd s = .next (State.takeBreak (if s.link.lost = 0 then ended.takeChar h
                      else if f.state = .hunt then strays (ended.takeChar h)
                      else ended.discardFrame .overrun .hunt))))))
end

