-- ==== Sys2Proof/Laws/Columns.lean ====
section
/-! SUPPORT. The column store keeps its canonical form, and reads back what was set. -/

namespace Sys2Proof.Machine

theorem Cols.wfFrom_mono {lo lo' : Nat} (h : lo' ≤ lo) {cs : Cols} (w : Cols.wfFrom lo cs = true) :
    Cols.wfFrom lo' cs = true := by
  cases cs with
  | nil => rfl
  | cons x xs => simp [Cols.wfFrom] at w ⊢; exact ⟨⟨by omega, w.1.2⟩, w.2⟩

theorem Cols.set_wfFrom (col : Nat) (v : BN) (cs : Cols) (lo : Nat) (h : lo ≤ col) (w : Cols.wfFrom lo cs = true) :
    Cols.wfFrom lo (Cols.set col v cs) = true := by
  induction cs generalizing lo with
  | nil => unfold Cols.set; split <;> simp_all [Cols.wfFrom]
  | cons x xs ih =>
    obtain ⟨c, u⟩ := x
    simp [Cols.wfFrom] at w
    unfold Cols.set
    split
    · (split <;> simp_all [Cols.wfFrom]) <;> omega
    · split
      · split
        · exact Cols.wfFrom_mono (by omega) w.2
        · simp_all [Cols.wfFrom]
      · simp [Cols.wfFrom, w.1]; exact ih (c + 1) (by omega) w.2

/-- Setting a column keeps the canonical form. -/
theorem Cols.set_wf (col : Nat) (v : BN) (cs : Cols) (w : cs.wf = true) : (Cols.set col v cs).wf = true :=
  Cols.set_wfFrom col v cs 0 (Nat.zero_le _) w

/-- Setting columns one after another keeps the canonical form. -/
theorem Cols.setAll_wf (new : List (Nat × BN)) (cs : Cols) (w : cs.wf = true) : (cs.setAll new).wf = true := by
  unfold Cols.setAll
  induction new generalizing cs with
  | nil => exact w
  | cons x xs ih => exact ih _ (Cols.set_wf x.1 x.2 cs w)

/-- A column below every listed one reads as unlearned. -/
theorem Cols.get_below {lo col : Nat} (h : col < lo) {cs : Cols} (w : Cols.wfFrom lo cs = true) :
    cs.get col = BN.unlearned := by
  cases cs with
  | nil => rfl
  | cons x xs =>
    simp [Cols.wfFrom] at w
    rw [Cols.get, if_neg (by omega), if_pos (by omega)]

theorem Cols.get_set_from (col k : Nat) (v : BN) (cs : Cols) (lo : Nat) (w : Cols.wfFrom lo cs = true) :
    (Cols.set col v cs).get k = if k = col then v else cs.get k := by
  induction cs generalizing lo with
  | nil =>
    unfold Cols.set
    by_cases hv : v = BN.unlearned
    · rw [if_pos hv]; split <;> simp [Cols.get, hv]
    · rw [if_neg hv]
      by_cases hk : k = col
      · subst hk; simp [Cols.get]
      · simp [Cols.get, hk, Ne.symm hk]
  | cons x xs ih =>
    obtain ⟨c, u⟩ := x
    simp [Cols.wfFrom] at w
    have hb : ∀ j, j < c + 1 → Cols.get j xs = BN.unlearned := fun j hj => Cols.get_below hj w.2
    have hi := ih (c + 1) w.2
    unfold Cols.set
    by_cases h1 : col < c
    · rw [if_pos h1]
      by_cases hv : v = BN.unlearned
      · rw [if_pos hv]
        by_cases hk : k = col
        · subst hk; rw [if_pos rfl, Cols.get, if_neg (by omega), if_pos h1, hv]
        · rw [if_neg hk]
      · rw [if_neg hv]
        by_cases hk : k = col
        · subst hk; simp [Cols.get]
        · rw [if_neg hk]
          conv => lhs; rw [Cols.get]
          rw [if_neg (by omega)]
          by_cases h2 : k < col
          · rw [if_pos h2, Cols.get, if_neg (by omega), if_pos (by omega)]
          · rw [if_neg h2]
    · rw [if_neg h1]
      by_cases h2 : col = c
      · rw [if_pos h2]
        subst h2
        by_cases hv : v = BN.unlearned
        · rw [if_pos hv]
          by_cases hk : k = col
          · subst hk; rw [if_pos rfl, hb k (by omega), hv]
          · rw [if_neg hk]
            by_cases h3 : k < col
            · rw [hb k (by omega), Cols.get, if_neg (by omega), if_pos h3]
            · rw [Cols.get, if_neg (by omega), if_neg h3]
        · rw [if_neg hv]
          by_cases hk : k = col
          · subst hk; simp [Cols.get]
          · simp [Cols.get, hk, Ne.symm hk]
      · rw [if_neg h2, Cols.get, hi]
        by_cases hk : c = k
        · rw [if_pos hk, if_neg (by omega), Cols.get, if_pos hk]
        · rw [if_neg hk]
          by_cases h3 : k < c
          · rw [if_pos h3, if_neg (by omega), Cols.get, if_neg hk, if_pos h3]
          · rw [if_neg h3]
            conv => rhs; rw [Cols.get]
            rw [if_neg hk, if_neg h3]

/-- What the column store reads after a column is set. -/
theorem Cols.get_set (col k : Nat) (v : BN) (cs : Cols) (w : cs.wf = true) :
    (Cols.set col v cs).get k = if k = col then v else cs.get k := Cols.get_set_from col k v cs 0 w

end Sys2Proof.Machine
end

