-- ==== Sys2Proof/Laws/State.lean ====
section
/-! SUPPORT. One lemma for each field under each change of a part of the state: the changed part, and every other part as
it was. -/

namespace Sys2Proof.Machine.State

@[simp] theorem modPos_pos (f : Position → Position) (s : State) : (s.modPos f).pos = f s.pos := rfl
@[simp] theorem modPos_path (f : Position → Position) (s : State) : (s.modPos f).path = s.path := rfl
@[simp] theorem modPos_ing (f : Position → Position) (s : State) : (s.modPos f).ing = s.ing := rfl
@[simp] theorem modPos_blobs (f : Position → Position) (s : State) : (s.modPos f).blobs = s.blobs := rfl
@[simp] theorem modPos_map (f : Position → Position) (s : State) : (s.modPos f).map = s.map := rfl
@[simp] theorem modPos_plan (f : Position → Position) (s : State) : (s.modPos f).plan = s.plan := rfl
@[simp] theorem modPos_link (f : Position → Position) (s : State) : (s.modPos f).link = s.link := rfl
@[simp] theorem modPos_grader (f : Position → Position) (s : State) : (s.modPos f).grader = s.grader := rfl
@[simp] theorem modPos_tally (f : Position → Position) (s : State) : (s.modPos f).tally = s.tally := rfl
@[simp] theorem modPos_cp (f : Position → Position) (s : State) : (s.modPos f).cp = s.cp := rfl
@[simp] theorem modPos_ev (f : Position → Position) (s : State) : (s.modPos f).ev = s.ev := rfl
@[simp] theorem modPos_rings (f : Position → Position) (s : State) : (s.modPos f).rings = s.rings := rfl
@[simp] theorem modPos_pending (f : Position → Position) (s : State) : (s.modPos f).pending = s.pending := rfl

@[simp] theorem modPath_pos (f : Path → Path) (s : State) : (s.modPath f).pos = s.pos := rfl
@[simp] theorem modPath_path (f : Path → Path) (s : State) : (s.modPath f).path = f s.path := rfl
@[simp] theorem modPath_ing (f : Path → Path) (s : State) : (s.modPath f).ing = s.ing := rfl
@[simp] theorem modPath_blobs (f : Path → Path) (s : State) : (s.modPath f).blobs = s.blobs := rfl
@[simp] theorem modPath_map (f : Path → Path) (s : State) : (s.modPath f).map = s.map := rfl
@[simp] theorem modPath_plan (f : Path → Path) (s : State) : (s.modPath f).plan = s.plan := rfl
@[simp] theorem modPath_link (f : Path → Path) (s : State) : (s.modPath f).link = s.link := rfl
@[simp] theorem modPath_grader (f : Path → Path) (s : State) : (s.modPath f).grader = s.grader := rfl
@[simp] theorem modPath_tally (f : Path → Path) (s : State) : (s.modPath f).tally = s.tally := rfl
@[simp] theorem modPath_cp (f : Path → Path) (s : State) : (s.modPath f).cp = s.cp := rfl
@[simp] theorem modPath_ev (f : Path → Path) (s : State) : (s.modPath f).ev = s.ev := rfl
@[simp] theorem modPath_rings (f : Path → Path) (s : State) : (s.modPath f).rings = s.rings := rfl
@[simp] theorem modPath_pending (f : Path → Path) (s : State) : (s.modPath f).pending = s.pending := rfl

@[simp] theorem modIng_pos (f : Ingest → Ingest) (s : State) : (s.modIng f).pos = s.pos := rfl
@[simp] theorem modIng_path (f : Ingest → Ingest) (s : State) : (s.modIng f).path = s.path := rfl
@[simp] theorem modIng_ing (f : Ingest → Ingest) (s : State) : (s.modIng f).ing = f s.ing := rfl
@[simp] theorem modIng_blobs (f : Ingest → Ingest) (s : State) : (s.modIng f).blobs = s.blobs := rfl
@[simp] theorem modIng_map (f : Ingest → Ingest) (s : State) : (s.modIng f).map = s.map := rfl
@[simp] theorem modIng_plan (f : Ingest → Ingest) (s : State) : (s.modIng f).plan = s.plan := rfl
@[simp] theorem modIng_link (f : Ingest → Ingest) (s : State) : (s.modIng f).link = s.link := rfl
@[simp] theorem modIng_grader (f : Ingest → Ingest) (s : State) : (s.modIng f).grader = s.grader := rfl
@[simp] theorem modIng_tally (f : Ingest → Ingest) (s : State) : (s.modIng f).tally = s.tally := rfl
@[simp] theorem modIng_cp (f : Ingest → Ingest) (s : State) : (s.modIng f).cp = s.cp := rfl
@[simp] theorem modIng_ev (f : Ingest → Ingest) (s : State) : (s.modIng f).ev = s.ev := rfl
@[simp] theorem modIng_rings (f : Ingest → Ingest) (s : State) : (s.modIng f).rings = s.rings := rfl
@[simp] theorem modIng_pending (f : Ingest → Ingest) (s : State) : (s.modIng f).pending = s.pending := rfl

@[simp] theorem modBlobs_pos (f : Blobs → Blobs) (s : State) : (s.modBlobs f).pos = s.pos := rfl
@[simp] theorem modBlobs_path (f : Blobs → Blobs) (s : State) : (s.modBlobs f).path = s.path := rfl
@[simp] theorem modBlobs_ing (f : Blobs → Blobs) (s : State) : (s.modBlobs f).ing = s.ing := rfl
@[simp] theorem modBlobs_blobs (f : Blobs → Blobs) (s : State) : (s.modBlobs f).blobs = f s.blobs := rfl
@[simp] theorem modBlobs_map (f : Blobs → Blobs) (s : State) : (s.modBlobs f).map = s.map := rfl
@[simp] theorem modBlobs_plan (f : Blobs → Blobs) (s : State) : (s.modBlobs f).plan = s.plan := rfl
@[simp] theorem modBlobs_link (f : Blobs → Blobs) (s : State) : (s.modBlobs f).link = s.link := rfl
@[simp] theorem modBlobs_grader (f : Blobs → Blobs) (s : State) : (s.modBlobs f).grader = s.grader := rfl
@[simp] theorem modBlobs_tally (f : Blobs → Blobs) (s : State) : (s.modBlobs f).tally = s.tally := rfl
@[simp] theorem modBlobs_cp (f : Blobs → Blobs) (s : State) : (s.modBlobs f).cp = s.cp := rfl
@[simp] theorem modBlobs_ev (f : Blobs → Blobs) (s : State) : (s.modBlobs f).ev = s.ev := rfl
@[simp] theorem modBlobs_rings (f : Blobs → Blobs) (s : State) : (s.modBlobs f).rings = s.rings := rfl
@[simp] theorem modBlobs_pending (f : Blobs → Blobs) (s : State) : (s.modBlobs f).pending = s.pending := rfl

@[simp] theorem modMap_pos (f : FlawMap → FlawMap) (s : State) : (s.modMap f).pos = s.pos := rfl
@[simp] theorem modMap_path (f : FlawMap → FlawMap) (s : State) : (s.modMap f).path = s.path := rfl
@[simp] theorem modMap_ing (f : FlawMap → FlawMap) (s : State) : (s.modMap f).ing = s.ing := rfl
@[simp] theorem modMap_blobs (f : FlawMap → FlawMap) (s : State) : (s.modMap f).blobs = s.blobs := rfl
@[simp] theorem modMap_map (f : FlawMap → FlawMap) (s : State) : (s.modMap f).map = f s.map := rfl
@[simp] theorem modMap_plan (f : FlawMap → FlawMap) (s : State) : (s.modMap f).plan = s.plan := rfl
@[simp] theorem modMap_link (f : FlawMap → FlawMap) (s : State) : (s.modMap f).link = s.link := rfl
@[simp] theorem modMap_grader (f : FlawMap → FlawMap) (s : State) : (s.modMap f).grader = s.grader := rfl
@[simp] theorem modMap_tally (f : FlawMap → FlawMap) (s : State) : (s.modMap f).tally = s.tally := rfl
@[simp] theorem modMap_cp (f : FlawMap → FlawMap) (s : State) : (s.modMap f).cp = s.cp := rfl
@[simp] theorem modMap_ev (f : FlawMap → FlawMap) (s : State) : (s.modMap f).ev = s.ev := rfl
@[simp] theorem modMap_rings (f : FlawMap → FlawMap) (s : State) : (s.modMap f).rings = s.rings := rfl
@[simp] theorem modMap_pending (f : FlawMap → FlawMap) (s : State) : (s.modMap f).pending = s.pending := rfl

@[simp] theorem modPlan_pos (f : Planner → Planner) (s : State) : (s.modPlan f).pos = s.pos := rfl
@[simp] theorem modPlan_path (f : Planner → Planner) (s : State) : (s.modPlan f).path = s.path := rfl
@[simp] theorem modPlan_ing (f : Planner → Planner) (s : State) : (s.modPlan f).ing = s.ing := rfl
@[simp] theorem modPlan_blobs (f : Planner → Planner) (s : State) : (s.modPlan f).blobs = s.blobs := rfl
@[simp] theorem modPlan_map (f : Planner → Planner) (s : State) : (s.modPlan f).map = s.map := rfl
@[simp] theorem modPlan_plan (f : Planner → Planner) (s : State) : (s.modPlan f).plan = f s.plan := rfl
@[simp] theorem modPlan_link (f : Planner → Planner) (s : State) : (s.modPlan f).link = s.link := rfl
@[simp] theorem modPlan_grader (f : Planner → Planner) (s : State) : (s.modPlan f).grader = s.grader := rfl
@[simp] theorem modPlan_tally (f : Planner → Planner) (s : State) : (s.modPlan f).tally = s.tally := rfl
@[simp] theorem modPlan_cp (f : Planner → Planner) (s : State) : (s.modPlan f).cp = s.cp := rfl
@[simp] theorem modPlan_ev (f : Planner → Planner) (s : State) : (s.modPlan f).ev = s.ev := rfl
@[simp] theorem modPlan_rings (f : Planner → Planner) (s : State) : (s.modPlan f).rings = s.rings := rfl
@[simp] theorem modPlan_pending (f : Planner → Planner) (s : State) : (s.modPlan f).pending = s.pending := rfl

@[simp] theorem modLink_pos (f : Link → Link) (s : State) : (s.modLink f).pos = s.pos := rfl
@[simp] theorem modLink_path (f : Link → Link) (s : State) : (s.modLink f).path = s.path := rfl
@[simp] theorem modLink_ing (f : Link → Link) (s : State) : (s.modLink f).ing = s.ing := rfl
@[simp] theorem modLink_blobs (f : Link → Link) (s : State) : (s.modLink f).blobs = s.blobs := rfl
@[simp] theorem modLink_map (f : Link → Link) (s : State) : (s.modLink f).map = s.map := rfl
@[simp] theorem modLink_plan (f : Link → Link) (s : State) : (s.modLink f).plan = s.plan := rfl
@[simp] theorem modLink_link (f : Link → Link) (s : State) : (s.modLink f).link = f s.link := rfl
@[simp] theorem modLink_grader (f : Link → Link) (s : State) : (s.modLink f).grader = s.grader := rfl
@[simp] theorem modLink_tally (f : Link → Link) (s : State) : (s.modLink f).tally = s.tally := rfl
@[simp] theorem modLink_cp (f : Link → Link) (s : State) : (s.modLink f).cp = s.cp := rfl
@[simp] theorem modLink_ev (f : Link → Link) (s : State) : (s.modLink f).ev = s.ev := rfl
@[simp] theorem modLink_rings (f : Link → Link) (s : State) : (s.modLink f).rings = s.rings := rfl
@[simp] theorem modLink_pending (f : Link → Link) (s : State) : (s.modLink f).pending = s.pending := rfl

@[simp] theorem modGrader_pos (f : Grader → Grader) (s : State) : (s.modGrader f).pos = s.pos := rfl
@[simp] theorem modGrader_path (f : Grader → Grader) (s : State) : (s.modGrader f).path = s.path := rfl
@[simp] theorem modGrader_ing (f : Grader → Grader) (s : State) : (s.modGrader f).ing = s.ing := rfl
@[simp] theorem modGrader_blobs (f : Grader → Grader) (s : State) : (s.modGrader f).blobs = s.blobs := rfl
@[simp] theorem modGrader_map (f : Grader → Grader) (s : State) : (s.modGrader f).map = s.map := rfl
@[simp] theorem modGrader_plan (f : Grader → Grader) (s : State) : (s.modGrader f).plan = s.plan := rfl
@[simp] theorem modGrader_link (f : Grader → Grader) (s : State) : (s.modGrader f).link = s.link := rfl
@[simp] theorem modGrader_grader (f : Grader → Grader) (s : State) : (s.modGrader f).grader = f s.grader := rfl
@[simp] theorem modGrader_tally (f : Grader → Grader) (s : State) : (s.modGrader f).tally = s.tally := rfl
@[simp] theorem modGrader_cp (f : Grader → Grader) (s : State) : (s.modGrader f).cp = s.cp := rfl
@[simp] theorem modGrader_ev (f : Grader → Grader) (s : State) : (s.modGrader f).ev = s.ev := rfl
@[simp] theorem modGrader_rings (f : Grader → Grader) (s : State) : (s.modGrader f).rings = s.rings := rfl
@[simp] theorem modGrader_pending (f : Grader → Grader) (s : State) : (s.modGrader f).pending = s.pending := rfl

@[simp] theorem modTally_pos (f : Tally → Tally) (s : State) : (s.modTally f).pos = s.pos := rfl
@[simp] theorem modTally_path (f : Tally → Tally) (s : State) : (s.modTally f).path = s.path := rfl
@[simp] theorem modTally_ing (f : Tally → Tally) (s : State) : (s.modTally f).ing = s.ing := rfl
@[simp] theorem modTally_blobs (f : Tally → Tally) (s : State) : (s.modTally f).blobs = s.blobs := rfl
@[simp] theorem modTally_map (f : Tally → Tally) (s : State) : (s.modTally f).map = s.map := rfl
@[simp] theorem modTally_plan (f : Tally → Tally) (s : State) : (s.modTally f).plan = s.plan := rfl
@[simp] theorem modTally_link (f : Tally → Tally) (s : State) : (s.modTally f).link = s.link := rfl
@[simp] theorem modTally_grader (f : Tally → Tally) (s : State) : (s.modTally f).grader = s.grader := rfl
@[simp] theorem modTally_tally (f : Tally → Tally) (s : State) : (s.modTally f).tally = f s.tally := rfl
@[simp] theorem modTally_cp (f : Tally → Tally) (s : State) : (s.modTally f).cp = s.cp := rfl
@[simp] theorem modTally_ev (f : Tally → Tally) (s : State) : (s.modTally f).ev = s.ev := rfl
@[simp] theorem modTally_rings (f : Tally → Tally) (s : State) : (s.modTally f).rings = s.rings := rfl
@[simp] theorem modTally_pending (f : Tally → Tally) (s : State) : (s.modTally f).pending = s.pending := rfl

@[simp] theorem modCp_pos (f : CmdProc → CmdProc) (s : State) : (s.modCp f).pos = s.pos := rfl
@[simp] theorem modCp_path (f : CmdProc → CmdProc) (s : State) : (s.modCp f).path = s.path := rfl
@[simp] theorem modCp_ing (f : CmdProc → CmdProc) (s : State) : (s.modCp f).ing = s.ing := rfl
@[simp] theorem modCp_blobs (f : CmdProc → CmdProc) (s : State) : (s.modCp f).blobs = s.blobs := rfl
@[simp] theorem modCp_map (f : CmdProc → CmdProc) (s : State) : (s.modCp f).map = s.map := rfl
@[simp] theorem modCp_plan (f : CmdProc → CmdProc) (s : State) : (s.modCp f).plan = s.plan := rfl
@[simp] theorem modCp_link (f : CmdProc → CmdProc) (s : State) : (s.modCp f).link = s.link := rfl
@[simp] theorem modCp_grader (f : CmdProc → CmdProc) (s : State) : (s.modCp f).grader = s.grader := rfl
@[simp] theorem modCp_tally (f : CmdProc → CmdProc) (s : State) : (s.modCp f).tally = s.tally := rfl
@[simp] theorem modCp_cp (f : CmdProc → CmdProc) (s : State) : (s.modCp f).cp = f s.cp := rfl
@[simp] theorem modCp_ev (f : CmdProc → CmdProc) (s : State) : (s.modCp f).ev = s.ev := rfl
@[simp] theorem modCp_rings (f : CmdProc → CmdProc) (s : State) : (s.modCp f).rings = s.rings := rfl
@[simp] theorem modCp_pending (f : CmdProc → CmdProc) (s : State) : (s.modCp f).pending = s.pending := rfl

@[simp] theorem modEv_pos (f : Events → Events) (s : State) : (s.modEv f).pos = s.pos := rfl
@[simp] theorem modEv_path (f : Events → Events) (s : State) : (s.modEv f).path = s.path := rfl
@[simp] theorem modEv_ing (f : Events → Events) (s : State) : (s.modEv f).ing = s.ing := rfl
@[simp] theorem modEv_blobs (f : Events → Events) (s : State) : (s.modEv f).blobs = s.blobs := rfl
@[simp] theorem modEv_map (f : Events → Events) (s : State) : (s.modEv f).map = s.map := rfl
@[simp] theorem modEv_plan (f : Events → Events) (s : State) : (s.modEv f).plan = s.plan := rfl
@[simp] theorem modEv_link (f : Events → Events) (s : State) : (s.modEv f).link = s.link := rfl
@[simp] theorem modEv_grader (f : Events → Events) (s : State) : (s.modEv f).grader = s.grader := rfl
@[simp] theorem modEv_tally (f : Events → Events) (s : State) : (s.modEv f).tally = s.tally := rfl
@[simp] theorem modEv_cp (f : Events → Events) (s : State) : (s.modEv f).cp = s.cp := rfl
@[simp] theorem modEv_ev (f : Events → Events) (s : State) : (s.modEv f).ev = f s.ev := rfl
@[simp] theorem modEv_rings (f : Events → Events) (s : State) : (s.modEv f).rings = s.rings := rfl
@[simp] theorem modEv_pending (f : Events → Events) (s : State) : (s.modEv f).pending = s.pending := rfl

@[simp] theorem modRing_pos (r : Fin 4) (f : Ring → Ring) (s : State) : (s.modRing r f).pos = s.pos := rfl
@[simp] theorem modRing_path (r : Fin 4) (f : Ring → Ring) (s : State) : (s.modRing r f).path = s.path := rfl
@[simp] theorem modRing_ing (r : Fin 4) (f : Ring → Ring) (s : State) : (s.modRing r f).ing = s.ing := rfl
@[simp] theorem modRing_blobs (r : Fin 4) (f : Ring → Ring) (s : State) : (s.modRing r f).blobs = s.blobs := rfl
@[simp] theorem modRing_map (r : Fin 4) (f : Ring → Ring) (s : State) : (s.modRing r f).map = s.map := rfl
@[simp] theorem modRing_plan (r : Fin 4) (f : Ring → Ring) (s : State) : (s.modRing r f).plan = s.plan := rfl
@[simp] theorem modRing_link (r : Fin 4) (f : Ring → Ring) (s : State) : (s.modRing r f).link = s.link := rfl
@[simp] theorem modRing_grader (r : Fin 4) (f : Ring → Ring) (s : State) : (s.modRing r f).grader = s.grader := rfl
@[simp] theorem modRing_tally (r : Fin 4) (f : Ring → Ring) (s : State) : (s.modRing r f).tally = s.tally := rfl
@[simp] theorem modRing_cp (r : Fin 4) (f : Ring → Ring) (s : State) : (s.modRing r f).cp = s.cp := rfl
@[simp] theorem modRing_ev (r : Fin 4) (f : Ring → Ring) (s : State) : (s.modRing r f).ev = s.ev := rfl
@[simp] theorem modRing_rings (r : Fin 4) (f : Ring → Ring) (s : State) : (s.modRing r f).rings = upd s.rings r f := rfl
@[simp] theorem modRing_pending (r : Fin 4) (f : Ring → Ring) (s : State) : (s.modRing r f).pending = s.pending := rfl

@[simp] theorem modCam_pos (c : Fin 8) (f : Camera → Camera) (s : State) : (s.modCam c f).pos = s.pos := rfl
@[simp] theorem modCam_path (c : Fin 8) (f : Camera → Camera) (s : State) : (s.modCam c f).path = s.path := rfl
@[simp] theorem modCam_ing (c : Fin 8) (f : Camera → Camera) (s : State) : (s.modCam c f).ing = { s.ing with cams := upd s.ing.cams c f } := rfl
@[simp] theorem modCam_blobs (c : Fin 8) (f : Camera → Camera) (s : State) : (s.modCam c f).blobs = s.blobs := rfl
@[simp] theorem modCam_map (c : Fin 8) (f : Camera → Camera) (s : State) : (s.modCam c f).map = s.map := rfl
@[simp] theorem modCam_plan (c : Fin 8) (f : Camera → Camera) (s : State) : (s.modCam c f).plan = s.plan := rfl
@[simp] theorem modCam_link (c : Fin 8) (f : Camera → Camera) (s : State) : (s.modCam c f).link = s.link := rfl
@[simp] theorem modCam_grader (c : Fin 8) (f : Camera → Camera) (s : State) : (s.modCam c f).grader = s.grader := rfl
@[simp] theorem modCam_tally (c : Fin 8) (f : Camera → Camera) (s : State) : (s.modCam c f).tally = s.tally := rfl
@[simp] theorem modCam_cp (c : Fin 8) (f : Camera → Camera) (s : State) : (s.modCam c f).cp = s.cp := rfl
@[simp] theorem modCam_ev (c : Fin 8) (f : Camera → Camera) (s : State) : (s.modCam c f).ev = s.ev := rfl
@[simp] theorem modCam_rings (c : Fin 8) (f : Camera → Camera) (s : State) : (s.modCam c f).rings = s.rings := rfl
@[simp] theorem modCam_pending (c : Fin 8) (f : Camera → Camera) (s : State) : (s.modCam c f).pending = s.pending := rfl

@[simp] theorem modTerm_pos (t : Fin 6) (f : Terminal → Terminal) (s : State) : (s.modTerm t f).pos = { s.pos with terms := upd s.pos.terms t f } := rfl
@[simp] theorem modTerm_path (t : Fin 6) (f : Terminal → Terminal) (s : State) : (s.modTerm t f).path = s.path := rfl
@[simp] theorem modTerm_ing (t : Fin 6) (f : Terminal → Terminal) (s : State) : (s.modTerm t f).ing = s.ing := rfl
@[simp] theorem modTerm_blobs (t : Fin 6) (f : Terminal → Terminal) (s : State) : (s.modTerm t f).blobs = s.blobs := rfl
@[simp] theorem modTerm_map (t : Fin 6) (f : Terminal → Terminal) (s : State) : (s.modTerm t f).map = s.map := rfl
@[simp] theorem modTerm_plan (t : Fin 6) (f : Terminal → Terminal) (s : State) : (s.modTerm t f).plan = s.plan := rfl
@[simp] theorem modTerm_link (t : Fin 6) (f : Terminal → Terminal) (s : State) : (s.modTerm t f).link = s.link := rfl
@[simp] theorem modTerm_grader (t : Fin 6) (f : Terminal → Terminal) (s : State) : (s.modTerm t f).grader = s.grader := rfl
@[simp] theorem modTerm_tally (t : Fin 6) (f : Terminal → Terminal) (s : State) : (s.modTerm t f).tally = s.tally := rfl
@[simp] theorem modTerm_cp (t : Fin 6) (f : Terminal → Terminal) (s : State) : (s.modTerm t f).cp = s.cp := rfl
@[simp] theorem modTerm_ev (t : Fin 6) (f : Terminal → Terminal) (s : State) : (s.modTerm t f).ev = s.ev := rfl
@[simp] theorem modTerm_rings (t : Fin 6) (f : Terminal → Terminal) (s : State) : (s.modTerm t f).rings = s.rings := rfl
@[simp] theorem modTerm_pending (t : Fin 6) (f : Terminal → Terminal) (s : State) : (s.modTerm t f).pending = s.pending := rfl

@[simp] theorem count_pos (f : PathCounters → PathCounters) (s : State) : (s.count f).pos = s.pos := rfl
@[simp] theorem count_path (f : PathCounters → PathCounters) (s : State) : (s.count f).path = { s.path with counters := f s.path.counters } := rfl
@[simp] theorem count_ing (f : PathCounters → PathCounters) (s : State) : (s.count f).ing = s.ing := rfl
@[simp] theorem count_blobs (f : PathCounters → PathCounters) (s : State) : (s.count f).blobs = s.blobs := rfl
@[simp] theorem count_map (f : PathCounters → PathCounters) (s : State) : (s.count f).map = s.map := rfl
@[simp] theorem count_plan (f : PathCounters → PathCounters) (s : State) : (s.count f).plan = s.plan := rfl
@[simp] theorem count_link (f : PathCounters → PathCounters) (s : State) : (s.count f).link = s.link := rfl
@[simp] theorem count_grader (f : PathCounters → PathCounters) (s : State) : (s.count f).grader = s.grader := rfl
@[simp] theorem count_tally (f : PathCounters → PathCounters) (s : State) : (s.count f).tally = s.tally := rfl
@[simp] theorem count_cp (f : PathCounters → PathCounters) (s : State) : (s.count f).cp = s.cp := rfl
@[simp] theorem count_ev (f : PathCounters → PathCounters) (s : State) : (s.count f).ev = s.ev := rfl
@[simp] theorem count_rings (f : PathCounters → PathCounters) (s : State) : (s.count f).rings = s.rings := rfl
@[simp] theorem count_pending (f : PathCounters → PathCounters) (s : State) : (s.count f).pending = s.pending := rfl

@[simp] theorem answer_pos (a : Answer) (s : State) : (s.answer a).pos = s.pos := rfl
@[simp] theorem answer_path (a : Answer) (s : State) : (s.answer a).path = { s.path with answers := s.path.answers ++ [a] } := rfl
@[simp] theorem answer_ing (a : Answer) (s : State) : (s.answer a).ing = s.ing := rfl
@[simp] theorem answer_blobs (a : Answer) (s : State) : (s.answer a).blobs = s.blobs := rfl
@[simp] theorem answer_map (a : Answer) (s : State) : (s.answer a).map = s.map := rfl
@[simp] theorem answer_plan (a : Answer) (s : State) : (s.answer a).plan = s.plan := rfl
@[simp] theorem answer_link (a : Answer) (s : State) : (s.answer a).link = s.link := rfl
@[simp] theorem answer_grader (a : Answer) (s : State) : (s.answer a).grader = s.grader := rfl
@[simp] theorem answer_tally (a : Answer) (s : State) : (s.answer a).tally = s.tally := rfl
@[simp] theorem answer_cp (a : Answer) (s : State) : (s.answer a).cp = s.cp := rfl
@[simp] theorem answer_ev (a : Answer) (s : State) : (s.answer a).ev = s.ev := rfl
@[simp] theorem answer_rings (a : Answer) (s : State) : (s.answer a).rings = s.rings := rfl
@[simp] theorem answer_pending (a : Answer) (s : State) : (s.answer a).pending = s.pending := rfl

@[simp] theorem landed_pos (n : Nat) (s : State) : (s.landed n).pos = s.pos := rfl
@[simp] theorem landed_path (n : Nat) (s : State) : (s.landed n).path = { s.path with down := s.path.down.filter (fun a => a.serial != n) } := rfl
@[simp] theorem landed_ing (n : Nat) (s : State) : (s.landed n).ing = s.ing := rfl
@[simp] theorem landed_blobs (n : Nat) (s : State) : (s.landed n).blobs = s.blobs := rfl
@[simp] theorem landed_map (n : Nat) (s : State) : (s.landed n).map = s.map := rfl
@[simp] theorem landed_plan (n : Nat) (s : State) : (s.landed n).plan = s.plan := rfl
@[simp] theorem landed_link (n : Nat) (s : State) : (s.landed n).link = s.link := rfl
@[simp] theorem landed_grader (n : Nat) (s : State) : (s.landed n).grader = s.grader := rfl
@[simp] theorem landed_tally (n : Nat) (s : State) : (s.landed n).tally = s.tally := rfl
@[simp] theorem landed_cp (n : Nat) (s : State) : (s.landed n).cp = s.cp := rfl
@[simp] theorem landed_ev (n : Nat) (s : State) : (s.landed n).ev = s.ev := rfl
@[simp] theorem landed_rings (n : Nat) (s : State) : (s.landed n).rings = s.rings := rfl
@[simp] theorem landed_pending (n : Nat) (s : State) : (s.landed n).pending = s.pending := rfl

@[simp] theorem landAll_pos (q : InFlight → Bool) (s : State) : (s.landAll q).pos = s.pos := rfl
@[simp] theorem landAll_path (q : InFlight → Bool) (s : State) : (s.landAll q).path = { s.path with down := s.path.down.filter (fun a => !q a) } := rfl
@[simp] theorem landAll_ing (q : InFlight → Bool) (s : State) : (s.landAll q).ing = s.ing := rfl
@[simp] theorem landAll_blobs (q : InFlight → Bool) (s : State) : (s.landAll q).blobs = s.blobs := rfl
@[simp] theorem landAll_map (q : InFlight → Bool) (s : State) : (s.landAll q).map = s.map := rfl
@[simp] theorem landAll_plan (q : InFlight → Bool) (s : State) : (s.landAll q).plan = s.plan := rfl
@[simp] theorem landAll_link (q : InFlight → Bool) (s : State) : (s.landAll q).link = s.link := rfl
@[simp] theorem landAll_grader (q : InFlight → Bool) (s : State) : (s.landAll q).grader = s.grader := rfl
@[simp] theorem landAll_tally (q : InFlight → Bool) (s : State) : (s.landAll q).tally = s.tally := rfl
@[simp] theorem landAll_cp (q : InFlight → Bool) (s : State) : (s.landAll q).cp = s.cp := rfl
@[simp] theorem landAll_ev (q : InFlight → Bool) (s : State) : (s.landAll q).ev = s.ev := rfl
@[simp] theorem landAll_rings (q : InFlight → Bool) (s : State) : (s.landAll q).rings = s.rings := rfl
@[simp] theorem landAll_pending (q : InFlight → Bool) (s : State) : (s.landAll q).pending = s.pending := rfl

@[simp] theorem popWrite_pos  (s : State) : (s.popWrite).pos = s.pos := rfl
@[simp] theorem popWrite_path  (s : State) : (s.popWrite).path = { s.path with writes := s.path.writes.tail, hold := none } := rfl
@[simp] theorem popWrite_ing  (s : State) : (s.popWrite).ing = s.ing := rfl
@[simp] theorem popWrite_blobs  (s : State) : (s.popWrite).blobs = s.blobs := rfl
@[simp] theorem popWrite_map  (s : State) : (s.popWrite).map = s.map := rfl
@[simp] theorem popWrite_plan  (s : State) : (s.popWrite).plan = s.plan := rfl
@[simp] theorem popWrite_link  (s : State) : (s.popWrite).link = s.link := rfl
@[simp] theorem popWrite_grader  (s : State) : (s.popWrite).grader = s.grader := rfl
@[simp] theorem popWrite_tally  (s : State) : (s.popWrite).tally = s.tally := rfl
@[simp] theorem popWrite_cp  (s : State) : (s.popWrite).cp = s.cp := rfl
@[simp] theorem popWrite_ev  (s : State) : (s.popWrite).ev = s.ev := rfl
@[simp] theorem popWrite_rings  (s : State) : (s.popWrite).rings = s.rings := rfl
@[simp] theorem popWrite_pending  (s : State) : (s.popWrite).pending = s.pending := rfl

@[simp] theorem popRead_pos (n : Nat) (s : State) : (s.popRead n).pos = s.pos := rfl
@[simp] theorem popRead_path (n : Nat) (s : State) : (s.popRead n).path = { s.path with reads := s.path.reads.eraseIdx n } := rfl
@[simp] theorem popRead_ing (n : Nat) (s : State) : (s.popRead n).ing = s.ing := rfl
@[simp] theorem popRead_blobs (n : Nat) (s : State) : (s.popRead n).blobs = s.blobs := rfl
@[simp] theorem popRead_map (n : Nat) (s : State) : (s.popRead n).map = s.map := rfl
@[simp] theorem popRead_plan (n : Nat) (s : State) : (s.popRead n).plan = s.plan := rfl
@[simp] theorem popRead_link (n : Nat) (s : State) : (s.popRead n).link = s.link := rfl
@[simp] theorem popRead_grader (n : Nat) (s : State) : (s.popRead n).grader = s.grader := rfl
@[simp] theorem popRead_tally (n : Nat) (s : State) : (s.popRead n).tally = s.tally := rfl
@[simp] theorem popRead_cp (n : Nat) (s : State) : (s.popRead n).cp = s.cp := rfl
@[simp] theorem popRead_ev (n : Nat) (s : State) : (s.popRead n).ev = s.ev := rfl
@[simp] theorem popRead_rings (n : Nat) (s : State) : (s.popRead n).rings = s.rings := rfl
@[simp] theorem popRead_pending (n : Nat) (s : State) : (s.popRead n).pending = s.pending := rfl

@[simp] theorem tallied_pos (f : Tallies → Tallies) (s : State) : (s.tallied f).pos = s.pos := rfl
@[simp] theorem tallied_path (f : Tallies → Tallies) (s : State) : (s.tallied f).path = s.path := rfl
@[simp] theorem tallied_ing (f : Tallies → Tallies) (s : State) : (s.tallied f).ing = s.ing := rfl
@[simp] theorem tallied_blobs (f : Tallies → Tallies) (s : State) : (s.tallied f).blobs = s.blobs := rfl
@[simp] theorem tallied_map (f : Tallies → Tallies) (s : State) : (s.tallied f).map = s.map := rfl
@[simp] theorem tallied_plan (f : Tallies → Tallies) (s : State) : (s.tallied f).plan = s.plan := rfl
@[simp] theorem tallied_link (f : Tallies → Tallies) (s : State) : (s.tallied f).link = s.link := rfl
@[simp] theorem tallied_grader (f : Tallies → Tallies) (s : State) : (s.tallied f).grader = s.grader := rfl
@[simp] theorem tallied_cp (f : Tallies → Tallies) (s : State) : (s.tallied f).cp = s.cp := rfl
@[simp] theorem tallied_ev (f : Tallies → Tallies) (s : State) : (s.tallied f).ev = s.ev := rfl
@[simp] theorem tallied_rings (f : Tallies → Tallies) (s : State) : (s.tallied f).rings = s.rings := rfl
@[simp] theorem tallied_pending (f : Tallies → Tallies) (s : State) : (s.tallied f).pending = s.pending := rfl

@[simp] theorem issue_pos (w : AccessFor) (a : Addr) (b : List (Option Byte)) (n : Nat) (s : State) : (s.issue w a b n).pos = s.pos := rfl
@[simp] theorem issue_path (w : AccessFor) (a : Addr) (b : List (Option Byte)) (n : Nat) (s : State) : (s.issue w a b n).path = 
    { s.path with down := s.path.down ++ [{ serial := s.path.nextAccess, what := w, addr := a, bytes := b, len := n }],
                  nextAccess := s.path.nextAccess + 1 } := rfl
@[simp] theorem issue_ing (w : AccessFor) (a : Addr) (b : List (Option Byte)) (n : Nat) (s : State) : (s.issue w a b n).ing = s.ing := rfl
@[simp] theorem issue_blobs (w : AccessFor) (a : Addr) (b : List (Option Byte)) (n : Nat) (s : State) : (s.issue w a b n).blobs = s.blobs := rfl
@[simp] theorem issue_map (w : AccessFor) (a : Addr) (b : List (Option Byte)) (n : Nat) (s : State) : (s.issue w a b n).map = s.map := rfl
@[simp] theorem issue_plan (w : AccessFor) (a : Addr) (b : List (Option Byte)) (n : Nat) (s : State) : (s.issue w a b n).plan = s.plan := rfl
@[simp] theorem issue_link (w : AccessFor) (a : Addr) (b : List (Option Byte)) (n : Nat) (s : State) : (s.issue w a b n).link = s.link := rfl
@[simp] theorem issue_grader (w : AccessFor) (a : Addr) (b : List (Option Byte)) (n : Nat) (s : State) : (s.issue w a b n).grader = s.grader := rfl
@[simp] theorem issue_tally (w : AccessFor) (a : Addr) (b : List (Option Byte)) (n : Nat) (s : State) : (s.issue w a b n).tally = s.tally := rfl
@[simp] theorem issue_cp (w : AccessFor) (a : Addr) (b : List (Option Byte)) (n : Nat) (s : State) : (s.issue w a b n).cp = s.cp := rfl
@[simp] theorem issue_ev (w : AccessFor) (a : Addr) (b : List (Option Byte)) (n : Nat) (s : State) : (s.issue w a b n).ev = s.ev := rfl
@[simp] theorem issue_rings (w : AccessFor) (a : Addr) (b : List (Option Byte)) (n : Nat) (s : State) : (s.issue w a b n).rings = s.rings := rfl
@[simp] theorem issue_pending (w : AccessFor) (a : Addr) (b : List (Option Byte)) (n : Nat) (s : State) : (s.issue w a b n).pending = s.pending := rfl

end Sys2Proof.Machine.State
end

