-- ==== Sys2Proof/Laws/Frame.lean ====
section
/-! SUPPORT. What each operation leaves alone: one lemma for each, so that no later proof unfolds it for that. `outer`
gathers the parts that most operations keep; where an operation changes some of them, its lemma is about the others. -/

namespace Sys2Proof.Machine

set_option linter.unusedTactic false
set_option linter.unreachableTactic false
set_option linter.unnecessarySeqFocus false

/-- What most of a step leaves alone: the queue of waiting commands, the Path Unit, the Position Unit, the column store,
the binding state, the campaign slots. -/
structure Outer where
  pending : List Instr
  path : Path
  pos : Position
  cols : Cols
  binding : Binding
  slots : Vector CampSlot 2
deriving DecidableEq, Repr

def State.outer (s : State) : Outer :=
  { pending := s.pending, path := s.path, pos := s.pos, cols := s.ing.cols, binding := s.cp.binding,
    slots := s.plan.slots }

/-- The outer parts with another Position Unit, with other campaign slots, with other ports and counters of the Path
Unit (its table, straps, queues and hold slot kept), or with another Path Unit and column store
    (the table and the straps
kept). -/
def Outer.atPos (p : Position) (o : Outer) : Outer := { o with pos := p }
def Outer.atSlots (v : Vector CampSlot 2) (o : Outer) : Outer := { o with slots := v }
def Outer.atPorts (q : Path) (o : Outer) : Outer :=
  { o with path := { q with window := o.path.window, straps := o.path.straps, writes := o.path.writes,
                            reads := o.path.reads, hold := o.path.hold } }
def Outer.atPath (q : Path) (c : Cols) (o : Outer) : Outer :=
  { o with path := { q with window := o.path.window, straps := o.path.straps }, cols := c }

@[simp] theorem State.modPlan_outer (f : Planner → Planner) (s : State) (h : (f s.plan).slots = s.plan.slots) :
    (s.modPlan f).outer = s.outer := by
  simp [State.outer, h]
@[simp] theorem State.modCp_outer (f : CmdProc → CmdProc) (s : State) (h : (f s.cp).binding = s.cp.binding) :
    (s.modCp f).outer = s.outer := by
  simp [State.outer, h]
@[simp] theorem State.modPos_outer (p : Position) (f : Position → Position) (s : State) :
    (s.modPos f).outer.atPos p = s.outer.atPos p := rfl
@[simp] theorem State.modTerm_outer (p : Position) (t : Fin 6) (f : Terminal → Terminal) (s : State) :
    (s.modTerm t f).outer.atPos p = s.outer.atPos p := rfl
@[simp] theorem State.modPlan_outerS (v : Vector CampSlot 2) (f : Planner → Planner) (s : State) :
    (s.modPlan f).outer.atSlots v = s.outer.atSlots v := rfl
@[simp] theorem State.modIng_outerQ (q : Path) (c : Cols)
    (f : Ingest → Ingest) (s : State) : (s.modIng f).outer.atPath q c = s.outer.atPath q c := rfl
@[simp] theorem State.modPath_outerQ (q : Path) (c : Cols)
    (f : Path → Path) (s : State) (hw : (f s.path).window = s.path.window) (hk : (f s.path).straps = s.path.straps) :
    (s.modPath f).outer.atPath q c = s.outer.atPath q c := by
  simp [State.outer, Outer.atPath, hw, hk]
@[simp] theorem State.popWrite_outer (q : Path) (c : Cols)
    (s : State) : s.popWrite.outer.atPath q c = s.outer.atPath q c := rfl
@[simp] theorem State.popRead_outer (q : Path) (c : Cols)
    (n : Nat) (s : State) : (s.popRead n).outer.atPath q c = s.outer.atPath q c := rfl
@[simp] theorem State.modBlobs_outer (f : Blobs → Blobs) (s : State) : (s.modBlobs f).outer = s.outer := rfl
@[simp] theorem State.modMap_outer (f : FlawMap → FlawMap) (s : State) : (s.modMap f).outer = s.outer := rfl
@[simp] theorem State.modLink_outer (f : Link → Link) (s : State) : (s.modLink f).outer = s.outer := rfl
@[simp] theorem State.modGrader_outer (f : Grader → Grader) (s : State) : (s.modGrader f).outer = s.outer := rfl
@[simp] theorem State.modTally_outer (f : Tally → Tally) (s : State) : (s.modTally f).outer = s.outer := rfl
@[simp] theorem State.modEv_outer (f : Events → Events) (s : State) : (s.modEv f).outer = s.outer := rfl
@[simp] theorem State.modRing_outer (r : Fin 4) (f : Ring → Ring) (s : State) : (s.modRing r f).outer = s.outer := rfl
@[simp] theorem State.modCam_outer (c : Fin 8) (f : Camera → Camera) (s : State) : (s.modCam c f).outer = s.outer := rfl
@[simp] theorem State.count_outer (q : Path) (f : PathCounters → PathCounters) (s : State) :
    (s.count f).outer.atPorts q = s.outer.atPorts q := rfl
@[simp] theorem State.answer_outer (q : Path) (a : Answer) (s : State) :
    (s.answer a).outer.atPorts q = s.outer.atPorts q := rfl
@[simp] theorem State.landed_outer (q : Path) (n : Nat) (s : State) :
    (s.landed n).outer.atPorts q = s.outer.atPorts q := rfl
@[simp] theorem State.landAll_outer (q : Path) (l : InFlight → Bool) (s : State) :
    (s.landAll l).outer.atPorts q = s.outer.atPorts q := rfl
@[simp] theorem State.issue_outer (q : Path) (w : AccessFor) (a : Addr) (b : List (Option Byte)) (n : Nat) (s : State) :
    (s.issue w a b n).outer.atPorts q = s.outer.atPorts q := rfl
@[simp] theorem State.issueWrite_outer (q : Path) (w : AccessFor) (a : Addr) (b : List Byte) (s : State) :
    (s.issueWrite w a b).outer.atPorts q = s.outer.atPorts q := rfl

@[simp] theorem State.count_outerQ (q : Path) (c : Cols) (f : PathCounters → PathCounters) (s : State) :
    (s.count f).outer.atPath q c = s.outer.atPath q c := rfl
@[simp] theorem State.answer_outerQ (q : Path) (c : Cols) (a : Answer) (s : State) :
    (s.answer a).outer.atPath q c = s.outer.atPath q c := rfl
@[simp] theorem State.landed_outerQ (q : Path) (c : Cols) (n : Nat) (s : State) :
    (s.landed n).outer.atPath q c = s.outer.atPath q c := rfl
@[simp] theorem State.landAll_outerQ (q : Path) (c : Cols) (l : InFlight → Bool) (s : State) :
    (s.landAll l).outer.atPath q c = s.outer.atPath q c := rfl
@[simp] theorem State.issue_outerQ (q : Path) (c : Cols) (w : AccessFor) (a : Addr) (b : List (Option Byte))
    (n : Nat) (s : State) :
    (s.issue w a b n).outer.atPath q c = s.outer.atPath q c := rfl
@[simp] theorem State.issueWrite_outerQ (q : Path) (c : Cols) (w : AccessFor) (a : Addr) (b : List Byte) (s : State) :
    (s.issueWrite w a b).outer.atPath q c = s.outer.atPath q c := rfl

/-- A change of the Ingest Unit that keeps the column store. -/
@[simp] theorem State.modIng_outer (f : Ingest → Ingest) (s : State) (h : (f s.ing).cols = s.ing.cols) :
    (s.modIng f).outer = s.outer := by
  simp [State.outer, h]

def Outer.atCols (c : Cols) (o : Outer) : Outer := { o with cols := c }
@[simp] theorem State.modIng_outerC (c : Cols) (f : Ingest → Ingest) (s : State) :
    (s.modIng f).outer.atCols c = s.outer.atCols c := rfl
theorem Outer.atPath_ofCols {a b : Outer} {c : Cols} (h : a.atCols c = b.atCols c) (q : Path) :
    a.atPath q c = b.atPath q c := by
  have e : ∀ o : Outer, (o.atCols c).atPath q c = o.atPath q c := fun _ => rfl
  rw [← e a, h, e b]

/-- Folding an operation that leaves the outer parts alone leaves them alone. -/
@[simp] theorem foldl_outer {α : Type} (f : State → α → State) (h : ∀ s x, (f s x).outer = s.outer) (l : List α)
    (s : State) : (l.foldl f s).outer = s.outer := by
  induction l generalizing s with
  | nil => rfl
  | cons x xs ih => simp [ih, h]

@[simp] theorem ite_outer (c : Prop) [Decidable c] (a b : State) :
    (if c then a else b).outer = if c then a.outer else b.outer := by
  split <;> rfl

/-- The same where the operation keeps only a part of the outer parts. -/
theorem foldl_of {α β : Type} (g : State → β) (f : State → α → State) (h : ∀ s x, g (f s x) = g s) (l : List α)
    (s : State) : g (l.foldl f s) = g s := by
  induction l generalizing s with
  | nil => rfl
  | cons x xs ih => simp [ih, h]

@[simp] theorem Planner.tidyCarried_slots (p : Planner) : p.tidyCarried.slots = p.slots := by
  unfold Planner.tidyCarried; split <;> rfl
@[simp] theorem Planner.discard_slots (q : Row → Bool) (p : Planner) : (p.discard q).slots = p.slots := by
  simp [Planner.discard]
@[simp] theorem Planner.removeOrder_slots (n : Nat) (p : Planner) : (p.removeOrder n).slots = p.slots := rfl
@[simp] theorem Planner.spareOrder_slots (n : Nat) (p : Planner) : (p.spareOrder n).slots = p.slots := rfl

/-- An operation that changes only ports and counters changes nothing of the coarser parts. -/
@[simp] theorem Outer.atPath_atPorts (p q : Path) (c : Cols) (o : Outer) :
    (o.atPorts p).atPath q c = o.atPath q c := rfl
theorem Outer.atPath_of {a b : Outer} (p : Path) (h : a.atPorts p = b.atPorts p) (q : Path) (c : Cols) :
    a.atPath q c = b.atPath q c := by
  rw [← Outer.atPath_atPorts p, h, Outer.atPath_atPorts]
theorem Outer.of_atPorts {β : Type} (g : Outer → β) (hg : ∀ q o, g (o.atPorts q) = g o) (p : Path) {a b : Outer}
    (h : a.atPorts p = b.atPorts p) : g a = g b := by
  rw [← hg p, h, hg]

/-! Flags -/

@[simp] theorem State.stageEvent_outer (r : EventRec) (s : State) :
    (State.stageEvent r s).outer = s.outer := by
  unfold State.stageEvent; (try dsimp only); (repeat' split) <;> first | rfl | simp
@[simp] theorem State.raise_outer (k : EventKind) (a1 a2 : Nat) (s : State) :
    (State.raise k a1 a2 s).outer = s.outer := by
  unfold State.raise; (try dsimp only); (repeat' split) <;> first | rfl | simp
@[simp] theorem State.raiseIf_outer (c : Bool) (k : EventKind) (a1 a2 : Nat) (s : State) :
    (State.raiseIf c k a1 a2 s).outer = s.outer := by
  unfold State.raiseIf; (try dsimp only); (repeat' split) <;> first | rfl | simp

/-! Results -/

@[simp] theorem State.issueHeader_outer (q0 : Path) (hold : Option Nat) (s : State) :
    (State.issueHeader hold s).outer.atPorts q0 = s.outer.atPorts q0 := rfl
@[simp] theorem State.writeBackIfDue_outer (q0 : Path) (s : State) :
    (State.writeBackIfDue s).outer.atPorts q0 = s.outer.atPorts q0 := by
  unfold State.writeBackIfDue; (try dsimp only); (repeat' split) <;> first | rfl | simp
@[simp] theorem State.writeBackIfDue_outerQ (q0 : Path) (c0 : Cols) (s : State) :
    (State.writeBackIfDue s).outer.atPath q0 c0 = s.outer.atPath q0 c0 :=
  Outer.atPath_of s.path (State.writeBackIfDue_outer s.path s) q0 c0
@[simp] theorem State.writeBack_outer (q0 : Path) (s : State) :
    (State.writeBack s).outer.atPorts q0 = s.outer.atPorts q0 := by
  unfold State.writeBack; (try dsimp only); (repeat' split) <;> first | rfl | simp
@[simp] theorem State.writeBack_outerQ (q0 : Path) (c0 : Cols) (s : State) :
    (State.writeBack s).outer.atPath q0 c0 = s.outer.atPath q0 c0 :=
  Outer.atPath_of s.path (State.writeBack_outer s.path s) q0 c0
@[simp] theorem State.writeStateWord_outer (q0 : Path) (s : State) :
    (State.writeStateWord s).outer.atPorts q0 = s.outer.atPorts q0 := by
  unfold State.writeStateWord; (try dsimp only); (repeat' split) <;> first | rfl | simp
@[simp] theorem State.writeStateWord_outerQ (q0 : Path) (c0 : Cols) (s : State) :
    (State.writeStateWord s).outer.atPath q0 c0 = s.outer.atPath q0 c0 :=
  Outer.atPath_of s.path (State.writeStateWord_outer s.path s) q0 c0
@[simp] theorem State.writeResult_outer (q0 : Path) (slots : List Idx) (first : Idx) (code : ResultCode)
    (detail : Nat) (s : State) :
    (State.writeResult slots first code detail s).outer.atPorts q0 = s.outer.atPorts q0 := by
  unfold State.writeResult; dsimp only
  rw [foldl_of (·.outer.atPorts q0) _ (fun _ _ => by simp)]; simp
@[simp] theorem State.writeResult_outerQ (q0 : Path) (c0 : Cols) (slots : List Idx) (first : Idx)
    (code : ResultCode) (detail : Nat) (s : State) :
    (State.writeResult slots first code detail s).outer.atPath q0 c0 = s.outer.atPath q0 c0 :=
  Outer.atPath_of s.path (State.writeResult_outer s.path slots first code detail s) q0 c0
@[simp] theorem State.answerCommand_outer (q0 : Path) (first : Idx) (tag n : Nat) (notify : Bool) (code : ResultCode)
    (force : Bool) (s : State) :
    (State.answerCommand first tag n notify code force s).outer.atPorts q0 = s.outer.atPorts q0 := by
  unfold State.answerCommand; (try dsimp only); (repeat' split) <;> first | rfl | simp
@[simp] theorem State.answerCommand_outerQ (q0 : Path) (c0 : Cols) (first : Idx) (tag n : Nat) (notify : Bool)
    (code : ResultCode) (force : Bool) (s : State) :
    (State.answerCommand first tag n notify code force s).outer.atPath q0 c0 = s.outer.atPath q0 c0 :=
  Outer.atPath_of s.path (State.answerCommand_outer s.path first tag n notify code force s) q0 c0
@[simp] theorem State.finish_outer (q0 : Path) (code : ResultCode) (force : Bool) (s : State) :
    (State.finish code force s).outer.atPorts q0 = s.outer.atPorts q0 := by
  unfold State.finish; (try dsimp only); (repeat' split) <;> first | rfl | simp
@[simp] theorem State.finish_outerQ (q0 : Path) (c0 : Cols) (code : ResultCode) (force : Bool) (s : State) :
    (State.finish code force s).outer.atPath q0 c0 = s.outer.atPath q0 c0 :=
  Outer.atPath_of s.path (State.finish_outer s.path code force s) q0 c0
@[simp] theorem State.chainFault_outer (q0 : Path) (cause : FaultCause) (offending : List Idx) (s : State) :
    (State.chainFault cause offending s).outer.atPorts q0 = s.outer.atPorts q0 := by
  unfold State.chainFault; (try dsimp only); (repeat' split) <;> first | rfl | simp
@[simp] theorem State.chainFault_outerQ (q0 : Path) (c0 : Cols) (cause : FaultCause) (offending : List Idx)
    (s : State) :
    (State.chainFault cause offending s).outer.atPath q0 c0 = s.outer.atPath q0 c0 :=
  Outer.atPath_of s.path (State.chainFault_outer s.path cause offending s) q0 c0

/-! Tally -/

@[simp] theorem State.tallied_outer (f : Tallies → Tallies) (s : State) :
    (State.tallied f s).outer = s.outer := by
  unfold State.tallied; (try dsimp only); (repeat' split) <;> first | rfl | simp
@[simp] theorem State.placeReport_outer (r : Report) (s : State) :
    (State.placeReport r s).outer = s.outer := by
  unfold State.placeReport; (try dsimp only); (repeat' split) <;> first | rfl | simp
@[simp] theorem State.performClose_outer (cause : CloseCause) (s : State) :
    (State.performClose cause s).outer = s.outer := by
  unfold State.performClose; (try dsimp only); (repeat' split) <;> first | rfl | simp
@[simp] theorem State.closeShift_outer (cause : CloseCause) (s : State) :
    (State.closeShift cause s).outer = s.outer := by
  unfold State.closeShift; (try dsimp only); (repeat' split) <;> first | rfl | simp
@[simp] theorem State.performDeferred_outer (q0 : Path) (s : State) :
    (State.performDeferred s).outer.atPorts q0 = s.outer.atPorts q0 := by
  unfold State.performDeferred; (try dsimp only); (repeat' split) <;> first | rfl | simp
@[simp] theorem State.performDeferred_outerQ (q0 : Path) (c0 : Cols) (s : State) :
    (State.performDeferred s).outer.atPath q0 c0 = s.outer.atPath q0 c0 :=
  Outer.atPath_of s.path (State.performDeferred_outer s.path s) q0 c0
@[simp] theorem State.boundaryTest_outer (s : State) :
    (State.boundaryTest s).outer = s.outer := by
  unfold State.boundaryTest; (try dsimp only); (repeat' split) <;> first | rfl | simp

/-! MapUnit -/

@[simp] theorem State.requestSpan_outer (k : SpanKind) (a b : Nat) (s : State) :
    (State.requestSpan k a b s).outer = s.outer := by
  unfold State.requestSpan; (try dsimp only); (repeat' split) <;> first | rfl | simp
@[simp] theorem State.requestFlawRecord_outer (f : Flaw) (s : State) :
    (State.requestFlawRecord f s).outer = s.outer := by
  unfold State.requestFlawRecord; (try dsimp only); (repeat' split) <;> first | rfl | simp
@[simp] theorem State.refuseFlaw_outer (f : Flaw) (s : State) :
    (State.refuseFlaw f s).outer = s.outer := by
  unfold State.refuseFlaw; (try dsimp only); (repeat' split) <;> first | rfl | simp
@[simp] theorem State.placeFlaw_outer (f : Flaw) (s : State) :
    (State.placeFlaw f s).1.outer = s.outer := by
  unfold State.placeFlaw; (try dsimp only); (repeat' split) <;> first | rfl | simp
@[simp] theorem State.offerBlob_outer (b : Blob) (s : State) :
    (State.offerBlob b s).outer = s.outer := by
  unfold State.offerBlob; (try dsimp only); (repeat' split) <;> first | rfl | simp
@[simp] theorem State.setRetire_outer (r : Retire) (s : State) :
    (State.setRetire r s).outer = s.outer := by
  unfold State.setRetire; (try dsimp only); (repeat' split) <;> first | rfl | simp

/-! BlobTracker -/

@[simp] theorem State.setEntries_outer (l : List Blob) (s : State) :
    (State.setEntries l s).outer = s.outer := by
  unfold State.setEntries; (try dsimp only); (repeat' split) <;> first | rfl | simp
@[simp] theorem State.closeByGap_outer (closing : List Blob) (s : State) :
    (State.closeByGap closing s).outer = s.outer := by
  unfold State.closeByGap; (try dsimp only); (repeat' split) <;> first | rfl | simp
@[simp] theorem State.splitBlob_outer (s : State) (b : Blob) :
    (State.splitBlob s b).outer = s.outer := by
  unfold State.splitBlob; (try dsimp only); (repeat' split) <;> first | rfl | simp
theorem Joining.makeRoom_outer (n : Nat) (j : Joining) : (j.makeRoom n).st.outer = j.st.outer := by
  unfold Joining.makeRoom; (try dsimp only); (repeat' split) <;> first | rfl | simp
@[simp] theorem Joining.run_outer (gc n : Nat) (before : List Blob) (j : Joining) (r : Run) :
    (j.run gc n before r).st.outer = j.st.outer := by
  unfold Joining.run; (try dsimp only); split
  · simp [Joining.makeRoom_outer]
  · simp
@[simp] theorem Joining.runs_outer (gc n : Nat) (before : List Blob) (rs : List Run) (j : Joining) :
    (rs.foldl (Joining.run gc n before) j).st.outer = j.st.outer := by
  induction rs generalizing j with
  | nil => rfl
  | cons r rs ih => simp [ih]
@[simp] theorem State.trackLine_outer (n : Nat) (runs : List Run) (s : State) :
    (State.trackLine n runs s).outer = s.outer := by
  unfold State.trackLine; (try dsimp only); (repeat' split) <;> first | rfl | simp

/-! Grading -/

@[simp] theorem State.testWaiting_outer (s : State) :
    (State.testWaiting s).outer = s.outer := by
  unfold State.testWaiting; (try dsimp only); (repeat' split) <;> first | rfl | simp
@[simp] theorem State.handToGrader_outer (s : State) :
    (State.handToGrader s).outer = s.outer := by
  unfold State.handToGrader; (try dsimp only); (repeat' split) <;> first | rfl | simp

/-! Planner -/

@[simp] theorem State.recordEdges_outer (line left right : Nat) (s : State) :
    (State.recordEdges line left right s).outer = s.outer := by
  exact State.modPlan_outer _ _ (by (repeat' split) <;> rfl)
@[simp] theorem State.giveRetire_outer (s : State) :
    (State.giveRetire s).outer = s.outer := by
  unfold State.giveRetire; (try dsimp only); (repeat' split) <;> first | rfl | simp
@[simp] theorem State.endCampaign_outer (v0 : Vector CampSlot 2) (s : State) :
    (State.endCampaign s).outer.atSlots v0 = s.outer.atSlots v0 := by
  unfold State.endCampaign; (try dsimp only); (repeat' split) <;> first | rfl | simp
@[simp] theorem State.doneTest_outer (v0 : Vector CampSlot 2) (id : Nat) (s : State) :
    (State.doneTest id s).outer.atSlots v0 = s.outer.atSlots v0 := by
  unfold State.doneTest; (try dsimp only); (repeat' split) <;> first | rfl | simp
@[simp] theorem State.settle_outer (v0 : Vector CampSlot 2) (id : Nat) (g : Grade) (s : State) :
    (State.settle id g s).1.outer.atSlots v0 = s.outer.atSlots v0 := by
  unfold State.settle; (try dsimp only); (repeat' split) <;> first | rfl | simp
@[simp] theorem State.recordResolution_outer (num : Idx) (res : Resolution) (s : State) :
    (State.recordResolution num res s).outer = s.outer := by
  unfold State.recordResolution; (try dsimp only); (repeat' split) <;> first | rfl | simp

/-! CutLink -/

@[simp] theorem State.fillQueue_outer (s : State) :
    (State.fillQueue s).outer = s.outer := by
  unfold State.fillQueue; (try dsimp only); (repeat' split) <;> first | rfl | simp
@[simp] theorem State.requestLanes_outer (s : State) :
    (State.requestLanes s).outer = s.outer := by
  unfold State.requestLanes; (try dsimp only); (repeat' split) <;> first | rfl | simp
@[simp] theorem State.heldUnsent_outer (num : Idx) (s : State) :
    (State.heldUnsent num s).outer = s.outer := by
  unfold State.heldUnsent; (try dsimp only); (repeat' split) <;> first | rfl | simp
@[simp] theorem State.reportMissed_outer (num : Idx) (cause : MissCause) (reason : Nat) (s : State) :
    (State.reportMissed num cause reason s).outer = s.outer := by
  unfold State.reportMissed; (try dsimp only); (repeat' split) <;> first | rfl | simp
@[simp] theorem State.missCut_outer (num : Idx) (cause : MissCause) (reason : Nat) (s : State) :
    (State.missCut num cause reason s).outer = s.outer := by
  unfold State.missCut; (try dsimp only); (repeat' split) <;> first | rfl | simp
@[simp] theorem State.missCuts_outer (nums : List Idx) (cause : MissCause) (s : State) :
    (State.missCuts nums cause s).outer = s.outer := by
  unfold State.missCuts; (try dsimp only); (repeat' split) <;> first | rfl | simp
@[simp] theorem State.scoreCut_outer (c : Cut) (actual : Nat) (offset : Bool) (s : State) :
    (State.scoreCut c actual offset s).outer = s.outer := by
  unfold State.scoreCut; (try dsimp only); (repeat' split) <;> first | rfl | simp
@[simp] theorem State.settleLink_outer (s : State) :
    (State.settleLink s).outer = s.outer := by
  unfold State.settleLink; (try dsimp only); (repeat' split) <;> first | rfl | simp
@[simp] theorem State.handOn_outer (num : Idx) (line : Nat) (plateEnd : Bool) (gc scoreLate tolerance : Nat)
    (s : State) :
    (State.handOn num line plateEnd gc scoreLate tolerance s).outer = s.outer := by
  unfold State.handOn; (try dsimp only); (repeat' split) <;> first | rfl | simp
@[simp] theorem State.deadlineTest_outer (s : State) :
    (State.deadlineTest s).outer = s.outer := by
  unfold State.deadlineTest; (try dsimp only); (repeat' split) <;> first | rfl | simp
@[simp] theorem State.readinessFell_outer (s : State) :
    (State.readinessFell s).outer = s.outer := by
  unfold State.readinessFell; (try dsimp only); (repeat' split) <;> first | rfl | simp
@[simp] theorem State.readinessRose_outer (s : State) :
    (State.readinessRose s).outer = s.outer := by
  unfold State.readinessRose; (try dsimp only); (repeat' split) <;> first | rfl | simp
@[simp] theorem State.judgeReadiness_outer (old : Bool) (s : State) :
    (State.judgeReadiness old s).outer = s.outer := by
  unfold State.judgeReadiness; (try dsimp only); (repeat' split) <;> first | rfl | simp
@[simp] theorem State.lateAnswer_outer (kind : Byte) (c : Idx) (s : State) :
    (State.lateAnswer kind c s).outer = s.outer := by
  unfold State.lateAnswer; (try dsimp only); (repeat' split) <;> first | rfl | simp
@[simp] theorem State.strangeAnswer_outer (kind : Byte) (c : Idx) (s : State) :
    (State.strangeAnswer kind c s).outer = s.outer := by
  unfold State.strangeAnswer; (try dsimp only); (repeat' split) <;> first | rfl | simp
@[simp] theorem State.duplicateAnswer_outer (s : State) :
    (State.duplicateAnswer s).outer = s.outer := by
  unfold State.duplicateAnswer; (try dsimp only); (repeat' split) <;> first | rfl | simp
@[simp] theorem State.answerAccept_outer (c : Idx) (s : State) :
    (State.answerAccept c s).outer = s.outer := by
  unfold State.answerAccept; (try dsimp only); (repeat' split) <;> first | rfl | simp
@[simp] theorem State.answerScored_outer (c : Idx) (actual : Nat) (s : State) :
    (State.answerScored c actual s).outer = s.outer := by
  unfold State.answerScored; (try dsimp only); (repeat' split) <;> first | rfl | simp
@[simp] theorem State.answerRefuse_outer (c : Idx) (reason : Nat) (s : State) :
    (State.answerRefuse c reason s).outer = s.outer := by
  unfold State.answerRefuse; (try dsimp only); (repeat' split) <;> first | rfl | simp
@[simp] theorem State.answerReady_outer (ready : Bool) (s : State) :
    (State.answerReady ready s).outer = s.outer := by
  unfold State.answerReady; (try dsimp only); (repeat' split) <;> first | rfl | simp
@[simp] theorem State.ackExpired_outer (c : Cut) (s : State) :
    (State.ackExpired c s).outer = s.outer := by
  unfold State.ackExpired; (try dsimp only); (repeat' split) <;> first | rfl | simp
@[simp] theorem State.countAckTimers_outer (s : State) :
    (State.countAckTimers s).outer = s.outer := by
  unfold State.countAckTimers; (try dsimp only); (repeat' split) <;> first | rfl | simp
@[simp] theorem State.discardFrame_outer (k : LinkErrorKind) (next : FramerState) (s : State) :
    (State.discardFrame k next s).outer = s.outer := by
  unfold State.discardFrame; (try dsimp only); (repeat' split) <;> first | rfl | simp
@[simp] theorem State.setFramer_outer (f : Framer) (s : State) :
    (State.setFramer f s).outer = s.outer := by
  unfold State.setFramer; (try dsimp only); (repeat' split) <;> first | rfl | simp
@[simp] theorem State.stray_outer (n : Nat) (s : State) :
    (State.stray n s).outer = s.outer := by
  unfold State.stray; (try dsimp only); (repeat' split) <;> first | rfl | simp
@[simp] theorem State.completeFrame_outer (s : State) :
    (State.completeFrame s).outer = s.outer := by
  unfold State.completeFrame; (try dsimp only); (repeat' split) <;> first | rfl | simp
@[simp] theorem State.takeGood_outer (b : Byte) (s : State) :
    (State.takeGood b s).outer = s.outer := by
  unfold State.takeGood; (try dsimp only); (repeat' split) <;> first | rfl | simp
@[simp] theorem State.takeChar_outer (c : RxChar) (s : State) :
    (State.takeChar c s).outer = s.outer := by
  unfold State.takeChar; (try dsimp only); (repeat' split) <;> first | rfl | simp
@[simp] theorem State.takeBreak_outer (s : State) :
    (State.takeBreak s).outer = s.outer := by
  unfold State.takeBreak; (try dsimp only); (repeat' split) <;> first | rfl | simp
@[simp] theorem State.holdInput_outer (i : RxInput) (s : State) :
    (State.holdInput i s).outer = s.outer := by
  unfold State.holdInput; (try dsimp only); (repeat' split) <;> first | rfl | simp
@[simp] theorem State.receive_outer (i : RxInput) (s : State) :
    (State.receive i s).outer = s.outer := by
  unfold State.receive; (try dsimp only); (repeat' split) <;> first | rfl | simp
@[simp] theorem State.takeHeldChar_outer (c : RxChar) (lost : Nat) (s : State) :
    (State.takeHeldChar c lost s).outer = s.outer := by
  unfold State.takeHeldChar; (try dsimp only); (repeat' split) <;> first | rfl | simp
@[simp] theorem State.endAction_outer (s : State) :
    (State.endAction s).outer = s.outer := by
  unfold State.endAction; (try dsimp only); (repeat' split) <;> first | rfl | simp
@[simp] theorem State.actionDone_outer (s : State) :
    (State.actionDone s).outer = s.outer := by
  unfold State.actionDone; (try dsimp only); (repeat' split) <;> first | rfl | simp
@[simp] theorem State.countReceived_outer (i : Fin 4) (s : State) :
    (State.countReceived i s).outer = s.outer := by
  unfold State.countReceived; (try dsimp only); (repeat' split) <;> first | rfl | simp

/-! Planning -/

@[simp] theorem State.layRow_outer (kind : RowKind) (slot : Fin 2) (start stop : Nat) (lanes : List LanePlate)
    (s : State) :
    (State.layRow kind slot start stop lanes s).outer = s.outer := by
  unfold State.layRow; (try dsimp only); (repeat' split) <;> first | rfl | simp
@[simp] theorem State.layOpening_outer (o : Opening) (i : Fin 2) (c : Campaign) (s : State) :
    (State.layOpening o i c s).outer = s.outer := by
  unfold State.layOpening; (try dsimp only); (repeat' split) <;> first | rfl | simp
@[simp] theorem State.layGap_outer (i : Fin 2) (c : Campaign) (x : Nat) (s : State) :
    (State.layGap i c x s).outer = s.outer := by
  unfold State.layGap; (try dsimp only); (repeat' split) <;> first | rfl | simp
@[simp] theorem State.layPlateRow_outer (i : Fin 2) (c : Campaign) (x : Nat) (s : State) :
    (State.layPlateRow i c x s).outer = s.outer := by
  unfold State.layPlateRow; (try dsimp only); (repeat' split) <;> first | rfl | simp
@[simp] theorem State.layFromExtent_outer (i : Fin 2) (c : Campaign) (fuel : Nat) (s : State) :
    (State.layFromExtent i c fuel s).outer = s.outer := by
  induction fuel generalizing s with
  | zero => rfl
  | succ n ih => unfold State.layFromExtent; (try dsimp only); (repeat' split) <;> first | rfl | simp_all
@[simp] theorem State.layLoop_outer  (fuel : Nat) (s : State) :
    (State.layLoop fuel s).outer = s.outer := by
  induction fuel generalizing s with
  | zero => rfl
  | succ n ih => unfold State.layLoop; (try dsimp only); (repeat' split) <;> first | rfl | simp_all
@[simp] theorem State.runPlanning_outer (s : State) :
    (State.runPlanning s).outer = s.outer := by
  unfold State.runPlanning; (try dsimp only); (repeat' split) <;> first | rfl | simp
@[simp] theorem State.replan_outer (s : State) :
    (State.replan s).outer = s.outer := by
  unfold State.replan; (try dsimp only); (repeat' split) <;> first | rfl | simp
@[simp] theorem State.commitRow_outer (r : Row) (c : Campaign) (s : State) :
    (State.commitRow r c s).outer = s.outer := by
  unfold State.commitRow; (try dsimp only); (repeat' split) <;> first | rfl | simp
@[simp] theorem State.commitLoop_outer  (fuel : Nat) (s : State) :
    (State.commitLoop fuel s).outer = s.outer := by
  induction fuel generalizing s with
  | zero => rfl
  | succ n ih => unfold State.commitLoop; (try dsimp only); (repeat' split) <;> first | rfl | simp_all
@[simp] theorem State.commitTest_outer (s : State) :
    (State.commitTest s).outer = s.outer := by
  unfold State.commitTest; (try dsimp only); (repeat' split) <;> first | rfl | simp
@[simp] theorem State.setRow_outer (r : Row) (s : State) :
    (State.setRow r s).outer = s.outer := by
  unfold State.setRow; (try dsimp only); (repeat' split) <;> first | rfl | simp
@[simp] theorem State.shiftRow_outer (r : Row) (start : Nat) (s : State) :
    (State.shiftRow r start s).outer = s.outer := by
  unfold State.shiftRow; (try dsimp only); (repeat' split) <;> first | rfl | simp
@[simp] theorem State.acceptRow_outer (r : Row) (c : Campaign) (s : State) :
    (State.acceptRow r c s).outer = s.outer := by
  unfold State.acceptRow; (try dsimp only); (repeat' split) <;> first | rfl | simp
@[simp] theorem State.sealRow_outer (r : Row) (c : Campaign) (s : State) :
    (State.sealRow r c s).1.outer = s.outer := by
  unfold State.sealRow; (try dsimp only); (repeat' split) <;> first | rfl | simp
@[simp] theorem State.sealLoop_outer (n : Nat) (f : Option Nat) (fuel : Nat) (s : State) :
    (State.sealLoop n f fuel s).outer = s.outer := by
  induction fuel generalizing s with
  | zero => rfl
  | succ k ih =>
    unfold State.sealLoop; split
    · rfl
    · split
      · rfl
      · split
        · split
          · rename_i h
            rw [ih, ← State.sealRow_outer _ _ s, h]
          · rename_i h
            rw [← State.sealRow_outer _ _ s, h]
        · rfl
@[simp] theorem State.lineDone_outer (n : Nat) (s : State) :
    (State.lineDone n s).outer = s.outer := by
  unfold State.lineDone; (try dsimp only); (repeat' split) <;> first | rfl | simp
@[simp] theorem State.planTrigger_outer (s : State) :
    (State.planTrigger s).outer = s.outer := by
  unfold State.planTrigger; (try dsimp only); (repeat' split) <;> first | rfl | simp
@[simp] theorem State.planBreak_outer (s : State) :
    (State.planBreak s).outer = s.outer := by
  unfold State.planBreak; (try dsimp only); (repeat' split) <;> first | rfl | simp
@[simp] theorem State.planClear_outer (s : State) :
    (State.planClear s).outer = s.outer := by
  unfold State.planClear; (try dsimp only); (repeat' split) <;> first | rfl | simp

/-! Ingest -/

@[simp] theorem State.updateEdges_outer (m : Nat) (status : Vector CamStatus 8) (s : State) :
    (State.updateEdges m status s).outer = s.outer := by
  unfold State.updateEdges; (try dsimp only); (repeat' split) <;> first | rfl | simp
theorem Ingest.adoptDetect_cols (g : Ingest) : g.adoptDetect.cols = g.cols := by
  unfold Ingest.adoptDetect; split <;> rfl
@[simp] theorem State.trackAndReport_outer (m : Nat) (runs : List Run) (s : State) :
    (State.trackAndReport m runs s).outer = s.outer := by
  unfold State.trackAndReport; (try dsimp only); (repeat' split) <;> first | rfl | simp
@[simp] theorem State.handOver_outer (m : Nat) (entry : Option Pulse) (s : State) :
    (State.handOver m entry s).outer = s.outer := by
  have h : (s.modIng Ingest.adoptDetect).outer = s.outer := State.modIng_outer _ _ (Ingest.adoptDetect_cols _)
  unfold State.handOver; (try dsimp only); (repeat' split) <;> simp [h]
@[simp] theorem State.assembleLoop_outer (top fuel : Nat) (s : State) :
    (State.assembleLoop top fuel s).outer = s.outer := by
  induction fuel generalizing s with
  | zero => rfl
  | succ n ih => unfold State.assembleLoop; (try dsimp only); (repeat' split) <;> first | rfl | simp_all
@[simp] theorem State.assembleUpTo_outer (top : Nat) (s : State) :
    (State.assembleUpTo top s).outer = s.outer := State.assembleLoop_outer top _ s
@[simp] theorem State.assemble_outer (s : State) :
    (State.assemble s).outer = s.outer := State.assembleUpTo_outer _ s
@[simp] theorem State.captureOrder_outer (cam : Fin 8) (off : Nat) (cause : OrderCause) (s : State) :
    (State.captureOrder cam off cause s).outer = s.outer := by
  unfold State.captureOrder; (try dsimp only); (repeat' split) <;> first | rfl | simp
@[simp] theorem State.camCount_outer (cam : Fin 8) (f : CamCounters → CamCounters) (s : State) :
    (State.camCount cam f s).outer = s.outer := by
  unfold State.camCount; (try dsimp only); (repeat' split) <;> first | rfl | simp
@[simp] theorem State.declareLost_outer (cam : Fin 8) (cause : LostCause) (declared : Nat → Bool) (s : State) :
    (State.declareLost cam cause declared s).outer = s.outer := by
  unfold State.declareLost; (try dsimp only); (repeat' split) <;> first | rfl | simp
@[simp] theorem State.forceOut_outer (s : State) :
    (State.forceOut s).outer = s.outer := by
  unfold State.forceOut; (try dsimp only); (repeat' split) <;> first | rfl | simp
@[simp] theorem State.ingestTrigger_outer (n : Nat) (t : Trigger) (s : State) :
    (State.ingestTrigger n t s).outer = s.outer := by
  unfold State.ingestTrigger; (try dsimp only); (repeat' split) <;> first | rfl | simp
@[simp] theorem State.startLearning_outer (s : State) :
    (State.startLearning s).outer = s.outer := by
  unfold State.startLearning; (try dsimp only); (repeat' split) <;> first | rfl | simp
@[simp] theorem State.completeLine_outer (c0 : Cols) (cam : Fin 8) (s : State) :
    (State.completeLine cam s).outer.atCols c0 = s.outer.atCols c0 := by
  unfold State.completeLine; (try dsimp only); (repeat' split) <;> first | rfl | simp
@[simp] theorem State.completeLine_outerQ (q0 : Path) (c0 : Cols) (cam : Fin 8) (s : State) :
    (State.completeLine cam s).outer.atPath q0 c0 = s.outer.atPath q0 c0 :=
  Outer.atPath_ofCols (State.completeLine_outer c0 cam s) q0
@[simp] theorem State.tapBytes_outer (c0 : Cols) (cam : Fin 8) (px : List (Nat × Byte)) (s : State) :
    (State.tapBytes cam px s).outer.atCols c0 = s.outer.atCols c0 := by
  unfold State.tapBytes; (try dsimp only); (repeat' split) <;> first | rfl | simp
@[simp] theorem State.tapBytes_outerQ (q0 : Path) (c0 : Cols) (cam : Fin 8) (px : List (Nat × Byte)) (s : State) :
    (State.tapBytes cam px s).outer.atPath q0 c0 = s.outer.atPath q0 c0 :=
  Outer.atPath_ofCols (State.tapBytes_outer c0 cam px s) q0
@[simp] theorem State.beginLine_outer (c0 : Cols) (cam : Fin 8) (slot j : Nat) (px : List (Nat × Byte)) (s : State) :
    (State.beginLine cam slot j px s).outer.atCols c0 = s.outer.atCols c0 := by
  unfold State.beginLine; (try dsimp only); (repeat' split) <;> first | rfl | simp
@[simp] theorem State.beginLine_outerQ (q0 : Path) (c0 : Cols) (cam : Fin 8) (slot j : Nat) (px : List (Nat × Byte))
    (s : State) :
    (State.beginLine cam slot j px s).outer.atPath q0 c0 = s.outer.atPath q0 c0 :=
  Outer.atPath_ofCols (State.beginLine_outer c0 cam slot j px s) q0
@[simp] theorem State.offerNew_outer (c0 : Cols) (cam : Fin 8) (off slot : Nat) (px : List (Nat × Byte)) (s : State) :
    (State.offerNew cam off slot px s).1.outer.atCols c0 = s.outer.atCols c0 := by
  unfold State.offerNew; (try dsimp only); (repeat' split) <;> first | rfl | simp
@[simp] theorem State.offerNew_outerQ (q0 : Path) (c0 : Cols) (cam : Fin 8) (off slot : Nat) (px : List
    (Nat × Byte)) (s : State) :
    (State.offerNew cam off slot px s).1.outer.atPath q0 c0 = s.outer.atPath q0 c0 :=
  Outer.atPath_ofCols (State.offerNew_outer c0 cam off slot px s) q0
@[simp] theorem State.offer_outer (c0 : Cols) (cam : Fin 8) (off : Nat) (bytes : List (Option Byte)) (s : State) :
    (State.offer cam off bytes s).1.outer.atCols c0 = s.outer.atCols c0 := by
  unfold State.offer; (try dsimp only); (repeat' split) <;> first | rfl | simp
@[simp] theorem State.offer_outerQ (q0 : Path) (c0 : Cols) (cam : Fin 8) (off : Nat) (bytes : List (Option Byte))
    (s : State) :
    (State.offer cam off bytes s).1.outer.atPath q0 c0 = s.outer.atPath q0 c0 :=
  Outer.atPath_ofCols (State.offer_outer c0 cam off bytes s) q0
@[simp] theorem State.captureExpired_outer (cam : Fin 8) (slot : Nat) (s : State) :
    (State.captureExpired cam slot s).outer = s.outer := by
  unfold State.captureExpired; (try dsimp only); (repeat' split) <;> first | rfl | simp
@[simp] theorem State.lineMarks_outer (cam : Fin 8) (r : LineResult) (s : State) :
    (State.lineMarks cam r s).outer = s.outer := by
  unfold State.lineMarks; (try dsimp only); (repeat' split) <;> first | rfl | simp
@[simp] theorem State.deliver_outer (cam : Fin 8) (line : Nat) (r : LineResult) (s : State) :
    (State.deliver cam line r s).outer = s.outer := by
  unfold State.deliver; simp
@[simp] theorem State.lagRule_outer (cam : Fin 8) (q : Nat) (s : State) :
    (State.lagRule cam q s).outer = s.outer := by
  unfold State.lagRule; (try dsimp only); (repeat' split) <;> first | rfl | simp
@[simp] theorem State.endClassification_outer (cam : Fin 8) (bufB : Bool) (s : State) :
    (State.endClassification cam bufB s).1.outer = s.outer := by
  unfold State.endClassification; dsimp only; split
  · rfl
  · rfl
  · split
    · simp
    · simp
@[simp] theorem State.flushLines_outer  (fuel : Nat) (s : State) :
    (State.flushLines fuel s).outer = s.outer := by
  induction fuel generalizing s with
  | zero => rfl
  | succ n ih => unfold State.flushLines; (try dsimp only); (repeat' split) <;> first | rfl | simp_all
@[simp] theorem State.flushIngest_outer (s : State) :
    (State.flushIngest s).outer = s.outer := by
  unfold State.flushIngest; (try dsimp only); (repeat' split) <;> first | rfl | simp
@[simp] theorem State.newGeometry_outer (cfgs : Vector CamSettings 8) (pp holdLimit : Nat) (s : State) :
    (State.newGeometry cfgs pp holdLimit s).outer = s.outer := by
  unfold State.newGeometry; (try dsimp only); (repeat' split) <;> first | rfl | simp

/-! Position -/

@[simp] theorem State.followBreak_outer (p0 : Position) (s : State) :
    (State.followBreak s).outer.atPos p0 = s.outer.atPos p0 := by
  unfold State.followBreak; (try dsimp only); (repeat' split) <;> first | rfl | simp
@[simp] theorem State.followPark_outer (p0 : Position) (cause : Nat) (s : State) :
    (State.followPark cause s).outer.atPos p0 = s.outer.atPos p0 := by
  unfold State.followPark; (try dsimp only); (repeat' split) <;> first | rfl | simp
@[simp] theorem State.follow_outer (p0 : Position) (oldReady oldShift : Bool) (s : State) :
    (State.follow oldReady oldShift s).outer.atPos p0 = s.outer.atPos p0 := by
  unfold State.follow; (try dsimp only); (repeat' split) <;> first | rfl | simp
theorem State.changeTerm_outer (p0 : Position) (t : Fin 6) (f : Terminal → Terminal) (event : State → State) (s : State)
    (h : ∀ s, (event s).outer = s.outer) : (s.changeTerm t f event).outer.atPos p0 = s.outer.atPos p0 := by
  unfold State.changeTerm; simp [h]
@[simp] theorem State.termEvent_outer (t : Fin 6) (old : Terminal) (s : State) :
    (State.termEvent t old s).outer = s.outer := by
  unfold State.termEvent; (try dsimp only); (repeat' split) <;> first | rfl | simp
@[simp] theorem State.sampleTerm_outer (p0 : Position) (pins : BitVec 6) (s : State) (t : Fin 6) :
    (State.sampleTerm pins s t).outer.atPos p0 = s.outer.atPos p0 := by
  unfold State.sampleTerm; dsimp only; split
  · exact State.changeTerm_outer _ _ _ _ _ (fun s => by simp)
  · simp
@[simp] theorem State.sampleAll_outer (p0 : Position) (pins : BitVec 6) (s : State) :
    (State.sampleAll pins s).outer.atPos p0 = s.outer.atPos p0 := by
  exact foldl_of (·.outer.atPos p0) _ (fun s x => State.sampleTerm_outer p0 pins s x) _ s
@[simp] theorem State.advanceTime_outer (p0 : Position) (pins : BitVec 6) (s : State) :
    (State.advanceTime pins s).outer.atPos p0 = s.outer.atPos p0 := by
  unfold State.advanceTime; dsimp only
  split <;> simp
@[simp] theorem State.stallTimeoutTaken_outer (p0 : Position) (s : State) :
    (State.stallTimeoutTaken s).outer.atPos p0 = s.outer.atPos p0 := by
  unfold State.stallTimeoutTaken; (try dsimp only); (repeat' split) <;> first | rfl | simp
@[simp] theorem State.stallRestart_outer (p0 : Position) (s : State) :
    (State.stallRestart s).outer.atPos p0 = s.outer.atPos p0 := by
  unfold State.stallRestart; (try dsimp only); (repeat' split) <;> first | rfl | simp
@[simp] theorem State.lineSpan_outer (n : Nat) (k : Option SpanKind) (s : State) :
    (State.lineSpan n k s).outer = s.outer := by
  unfold State.lineSpan; (try dsimp only); (repeat' split) <;> first | rfl | simp
@[simp] theorem State.lineTrigger_outer (p0 : Position) (s : State) :
    (State.lineTrigger s).outer.atPos p0 = s.outer.atPos p0 := by
  unfold State.lineTrigger; dsimp only
  simp
@[simp] theorem State.forwardCount_outer (p0 : Position) (s : State) :
    (State.forwardCount s).outer.atPos p0 = s.outer.atPos p0 := by
  unfold State.forwardCount; (try dsimp only); (repeat' split) <;> first | rfl | simp
@[simp] theorem State.backwardCount_outer (p0 : Position) (s : State) :
    (State.backwardCount s).outer.atPos p0 = s.outer.atPos p0 := by
  unfold State.backwardCount; (try dsimp only); (repeat' split) <;> first | rfl | simp
@[simp] theorem State.encoder_outer (p0 : Position) (a b : Bool) (s : State) :
    (State.encoder a b s).outer.atPos p0 = s.outer.atPos p0 := by
  unfold State.encoder; (try dsimp only); (repeat' split) <;> first | rfl | simp

/-! Path -/

@[simp] theorem State.refuseHead_outer (q0 : Path) (c0 : Cols) (w : QueuedWrite) (s : State) :
    (State.refuseHead w s).outer.atPath q0 c0 = s.outer.atPath q0 c0 := by
  unfold State.refuseHead; (try dsimp only); (repeat' split) <;> first | rfl | simp
@[simp] theorem State.refuseCrossing_outer (q0 : Path) (c0 : Cols) (w : QueuedWrite) (s : State) :
    (State.refuseCrossing w s).outer.atPath q0 c0 = s.outer.atPath q0 c0 := by
  unfold State.refuseCrossing; (try dsimp only); (repeat' split) <;> first | rfl | simp
@[simp] theorem State.refuseGuarded_outer (q0 : Path) (c0 : Cols) (w : QueuedWrite) (r : Fin 4) (s : State) :
    (State.refuseGuarded w r s).outer.atPath q0 c0 = s.outer.atPath q0 c0 := by
  unfold State.refuseGuarded; (try dsimp only); (repeat' split) <;> first | rfl | simp
theorem State.guarded_outer (q0 : Path) (c0 : Cols) (w : QueuedWrite)
    (k : State → State) (s : State) (h : ∀ s, (k s).outer.atPath q0 c0 = s.outer.atPath q0 c0) :
    (s.guarded w k).outer.atPath q0 c0 = s.outer.atPath q0 c0 := by
  unfold State.guarded; split <;> simp [h]
@[simp] theorem State.observe_outer (q0 : Path) (w : QueuedWrite) (s : State) (x : Fin 4 × Nat) :
    (State.observe w s x).outer.atPorts q0 = s.outer.atPorts q0 := by
  unfold State.observe; (try dsimp only); (repeat' split) <;> first | rfl | simp
@[simp] theorem State.observe_outerQ (q0 : Path) (c0 : Cols) (w : QueuedWrite) (s : State) (x : Fin 4 × Nat) :
    (State.observe w s x).outer.atPath q0 c0 = s.outer.atPath q0 c0 :=
  Outer.atPath_of s.path (State.observe_outer s.path w s x) q0 c0
@[simp] theorem State.forwardHead_outer (q0 : Path) (c0 : Cols) (w : QueuedWrite) (what : AccessFor) (s : State) :
    (State.forwardHead w what s).outer.atPath q0 c0 = s.outer.atPath q0 c0 := by
  unfold State.forwardHead
  rw [foldl_of (·.outer.atPath q0 c0) _ (fun s r => State.observe_outerQ q0 c0 w s r)]; simp
@[simp] theorem State.forwardPlain_outer (q0 : Path) (c0 : Cols) (w : QueuedWrite) (s : State) :
    (State.forwardPlain w s).outer.atPath q0 c0 = s.outer.atPath q0 c0 := by
  unfold State.forwardPlain; simp
@[simp] theorem State.forwardPosted_outer (q0 : Path) (c0 : Cols) (w : QueuedWrite) (s : State) :
    (State.forwardPosted w s).outer.atPath q0 c0 = s.outer.atPath q0 c0 := by
  unfold State.forwardPosted; simp
@[simp] theorem State.forwardHeldProducer_outer (q0 : Path) (c0 : Cols) (s : State) :
    (State.forwardHeldProducer s).outer.atPath q0 c0 = s.outer.atPath q0 c0 := by
  unfold State.forwardHeldProducer
  (repeat' split) <;> first | exact State.guarded_outer _ _ _ _ _ (fun s => by simp) | simp
@[simp] theorem State.faultAckNotice_outer (q0 : Path) (before : Nat) (s : State) :
    (State.faultAckNotice before s).outer.atPorts q0 = s.outer.atPorts q0 := by
  unfold State.faultAckNotice; (try dsimp only); (repeat' split) <;> first | rfl | simp
@[simp] theorem State.faultAckNotice_outerQ (q0 : Path) (c0 : Cols) (before : Nat) (s : State) :
    (State.faultAckNotice before s).outer.atPath q0 c0 = s.outer.atPath q0 c0 :=
  Outer.atPath_of s.path (State.faultAckNotice_outer s.path before s) q0 c0
@[simp] theorem State.learnProducer_outer (w : QueuedWrite) (s : State) :
    (State.learnProducer w s).outer = s.outer := by
  unfold State.learnProducer; (try dsimp only); (repeat' split) <;> first | rfl | simp
@[simp] theorem State.holdProducer_outer (q0 : Path) (c0 : Cols) (w : QueuedWrite) (s : State) :
    (State.holdProducer w s).outer.atPath q0 c0 = s.outer.atPath q0 c0 := by
  unfold State.holdProducer; (try dsimp only); (repeat' split) <;> first | rfl | simp
@[simp] theorem State.producerTaken_outer (q0 : Path) (c0 : Cols) (w : QueuedWrite) (s : State) :
    (State.producerTaken w s).outer.atPath q0 c0 = s.outer.atPath q0 c0 := by
  unfold State.producerTaken; dsimp only
  split
  · simp
  · (repeat' split) <;> simp
  · (repeat' split) <;> simp
@[simp] theorem State.plainHead_outer (q0 : Path) (c0 : Cols) (w : QueuedWrite) (s : State) :
    (State.plainHead w s).outer.atPath q0 c0 = s.outer.atPath q0 c0 := by
  unfold State.plainHead
  (repeat' split) <;> first | exact State.guarded_outer _ _ _ _ _ (fun s => by simp) | simp
@[simp] theorem State.offerWrite_outer (q0 : Path) (c0 : Cols) (w : QueuedWrite) (s : State) :
    (State.offerWrite w s).outer.atPath q0 c0 = s.outer.atPath q0 c0 := by
  have h := State.offer_outerQ q0 c0 w.cls.cam w.cls.offset w.burst.bytes s
  unfold State.offerWrite; split <;> (rename_i e; rw [e] at h; simpa using h)
@[simp] theorem State.captureHead_outer (q0 : Path) (c0 : Cols) (w : QueuedWrite) (s : State) :
    (State.captureHead w s).outer.atPath q0 c0 = s.outer.atPath q0 c0 := by
  unfold State.captureHead
  exact State.guarded_outer _ _ _ _ _ (fun s => by (try dsimp only); (try split) <;> simp)
@[simp] theorem State.reoffer_outer (q0 : Path) (c0 : Cols) (s : State) :
    (State.reoffer s).outer.atPath q0 c0 = s.outer.atPath q0 c0 := by
  unfold State.reoffer
  (repeat' split) <;> first | exact State.guarded_outer _ _ _ _ _ (fun s => by simp) | simp
@[simp] theorem State.reofferFor_outer (q0 : Path) (c0 : Cols) (cam : Fin 8) (s : State) :
    (State.reofferFor cam s).outer.atPath q0 c0 = s.outer.atPath q0 c0 := by
  unfold State.reofferFor; (try dsimp only); (repeat' split) <;> first | rfl | simp
@[simp] theorem State.captureExpiry_outer (q0 : Path) (c0 : Cols) (w : QueuedWrite) (s : State) :
    (State.captureExpiry w s).outer.atPath q0 c0 = s.outer.atPath q0 c0 := by
  unfold State.captureExpiry; dsimp only
  rw [State.captureExpired_outer, State.guarded_outer _ _ _ _ _ (fun s => by simp)]; simp
@[simp] theorem State.faultAckHead_outer (q0 : Path) (c0 : Cols) (w : QueuedWrite) (s : State) :
    (State.faultAckHead w s).outer.atPath q0 c0 = s.outer.atPath q0 c0 := by
  unfold State.faultAckHead
  exact State.guarded_outer _ _ _ _ _ (fun s => by (try dsimp only); (try split) <;> simp)
@[simp] theorem State.producerHead_outer (q0 : Path) (c0 : Cols) (w : QueuedWrite) (s : State) :
    (State.producerHead w s).outer.atPath q0 c0 = s.outer.atPath q0 c0 := by
  unfold State.producerHead
  exact State.guarded_outer _ _ _ _ _ (fun s => by (try dsimp only); (try split) <;> simp)
@[simp] theorem State.liveHead_outer (q0 : Path) (c0 : Cols) (w : QueuedWrite) (s : State) :
    (State.liveHead w s).outer.atPath q0 c0 = s.outer.atPath q0 c0 := by
  unfold State.liveHead
  exact State.guarded_outer _ _ _ _ _ (fun s => by (try dsimp only); (try split) <;> simp)
@[simp] theorem State.releaseRead_outer (q0 : Path) (c0 : Cols) (pos : Nat) (r : QueuedRead) (s : State) :
    (State.releaseRead pos r s).outer.atPath q0 c0 = s.outer.atPath q0 c0 := by
  unfold State.releaseRead; (try dsimp only); (repeat' split) <;> first | rfl | simp

/-! Rings -/

@[simp] theorem State.issueRecord_outer (q0 : Path) (r : Fin 4) (s : State) :
    (State.issueRecord r s).outer.atPorts q0 = s.outer.atPorts q0 := by
  unfold State.issueRecord; (try dsimp only); (repeat' split) <;> first | rfl | simp
@[simp] theorem State.issueRecord_outerQ (q0 : Path) (c0 : Cols) (r : Fin 4) (s : State) :
    (State.issueRecord r s).outer.atPath q0 c0 = s.outer.atPath q0 c0 :=
  Outer.atPath_of s.path (State.issueRecord_outer s.path r s) q0 c0
@[simp] theorem State.issueReport_outer (q0 : Path) (s : State) :
    (State.issueReport s).outer.atPorts q0 = s.outer.atPorts q0 := by
  unfold State.issueReport; (try dsimp only); (repeat' split) <;> first | rfl | simp
@[simp] theorem State.issueReport_outerQ (q0 : Path) (c0 : Cols) (s : State) :
    (State.issueReport s).outer.atPath q0 c0 = s.outer.atPath q0 c0 :=
  Outer.atPath_of s.path (State.issueReport_outer s.path s) q0 c0
@[simp] theorem State.relive_outer (q0 : Path) (q : AccessFor → Bool) (l : Life) (s : State) :
    (State.relive q l s).outer.atPorts q0 = s.outer.atPorts q0 := rfl
@[simp] theorem State.relive_outerQ (q0 : Path) (c0 : Cols) (q : AccessFor → Bool) (l : Life) (s : State) :
    (State.relive q l s).outer.atPath q0 c0 = s.outer.atPath q0 c0 := rfl
@[simp] theorem State.memError_outer (addr : Addr) (source : Nat) (s : State) :
    (State.memError addr source s).outer = s.outer := by
  unfold State.memError; simp
@[simp] theorem State.dropReport_outer (q0 : Path) (s : State) :
    (State.dropReport s).outer.atPorts q0 = s.outer.atPorts q0 := by
  unfold State.dropReport; (try dsimp only); (repeat' split) <;> first | rfl | simp
@[simp] theorem State.dropReport_outerQ (q0 : Path) (c0 : Cols) (s : State) :
    (State.dropReport s).outer.atPath q0 c0 = s.outer.atPath q0 c0 :=
  Outer.atPath_of s.path (State.dropReport_outer s.path s) q0 c0
@[simp] theorem State.ringChanged_outer (r : Fin 4) (s : State) :
    (State.ringChanged r s).outer = s.outer := by
  unfold State.ringChanged; (try dsimp only); (repeat' split) <;> first | rfl | simp
@[simp] theorem State.stopRing_outer (q0 : Path) (r : Fin 4) (addr : Addr) (source : Nat) (s : State) :
    (State.stopRing r addr source s).outer.atPorts q0 = s.outer.atPorts q0 := by
  unfold State.stopRing; (try dsimp only); (repeat' split) <;> first | rfl | simp
@[simp] theorem State.stopRing_outerQ (q0 : Path) (c0 : Cols) (r : Fin 4) (addr : Addr) (source : Nat) (s : State) :
    (State.stopRing r addr source s).outer.atPath q0 c0 = s.outer.atPath q0 c0 :=
  Outer.atPath_of s.path (State.stopRing_outer s.path r addr source s) q0 c0
@[simp] theorem State.resetRing_outer (q0 : Path) (r : Fin 4) (s : State) :
    (State.resetRing r s).outer.atPorts q0 = s.outer.atPorts q0 := by
  unfold State.resetRing; (try dsimp only); (repeat' split) <;> first | rfl | simp
@[simp] theorem State.resetRing_outerQ (q0 : Path) (c0 : Cols) (r : Fin 4) (s : State) :
    (State.resetRing r s).outer.atPath q0 c0 = s.outer.atPath q0 c0 :=
  Outer.atPath_of s.path (State.resetRing_outer s.path r s) q0 c0
@[simp] theorem State.setupRing_outer (q0 : Path) (r : Fin 4) (base capacity notify : Nat) (s : State) :
    (State.setupRing r base capacity notify s).outer.atPorts q0 = s.outer.atPorts q0 := by
  unfold State.setupRing; (try dsimp only); (repeat' split) <;> first | rfl | simp
@[simp] theorem State.setupRing_outerQ (q0 : Path) (c0 : Cols) (r : Fin 4) (base capacity notify : Nat) (s : State) :
    (State.setupRing r base capacity notify s).outer.atPath q0 c0 = s.outer.atPath q0 c0 :=
  Outer.atPath_of s.path (State.setupRing_outer s.path r base capacity notify s) q0 c0
@[simp] theorem State.headerAnswered_outer (q0 : Path) (r : Fin 4) (s : State) :
    (State.headerAnswered r s).outer.atPorts q0 = s.outer.atPorts q0 := by
  unfold State.headerAnswered; (try dsimp only); (repeat' split) <;> first | rfl | simp
@[simp] theorem State.headerAnswered_outerQ (q0 : Path) (c0 : Cols) (r : Fin 4) (s : State) :
    (State.headerAnswered r s).outer.atPath q0 c0 = s.outer.atPath q0 c0 :=
  Outer.atPath_of s.path (State.headerAnswered_outer s.path r s) q0 c0
@[simp] theorem State.raiseDone_outer (first : Idx) (s : State) :
    (State.raiseDone first s).outer = s.outer := by
  unfold State.raiseDone; (try dsimp only); (repeat' split) <;> first | rfl | simp
@[simp] theorem State.resultAnswered_outer (q0 : Path) (serial : Nat) (first : Idx) (s : State) :
    (State.resultAnswered serial first s).outer.atPorts q0 = s.outer.atPorts q0 := by
  unfold State.resultAnswered; simp
@[simp] theorem State.releaseHeld_outer (q0 : Path) (c0 : Cols) (serial : Option Nat) (s : State) :
    (State.releaseHeld serial s).outer.atPath q0 c0 = s.outer.atPath q0 c0 := by
  unfold State.releaseHeld; (try dsimp only); (repeat' split) <;> first | rfl | simp
@[simp] theorem State.headerDone_outer (q0 : Path) (c0 : Cols) (serial : Nat) (why : HeaderFor) (s : State) :
    (State.headerDone serial why s).outer.atPath q0 c0 = s.outer.atPath q0 c0 := by
  unfold State.headerDone; (try dsimp only); (repeat' split) <;> first | rfl | simp
@[simp] theorem State.countError_outer (q0 : Path) (s : State) :
    (State.countError s).outer.atPorts q0 = s.outer.atPorts q0 := by
  unfold State.countError; (try dsimp only); (repeat' split) <;> first | rfl | simp
@[simp] theorem State.countError_outerQ (q0 : Path) (c0 : Cols) (s : State) :
    (State.countError s).outer.atPath q0 c0 = s.outer.atPath q0 c0 :=
  Outer.atPath_of s.path (State.countError_outer s.path s) q0 c0
@[simp] theorem State.ringError_outer (q0 : Path) (r : Fin 4) (life : Life) (a : InFlight) (source : Nat) (s : State) :
    (State.ringError r life a source s).outer.atPorts q0 = s.outer.atPorts q0 := by
  unfold State.ringError; (try dsimp only); (repeat' split) <;> first | rfl | simp
@[simp] theorem State.ringError_outerQ (q0 : Path) (c0 : Cols) (r : Fin 4) (life : Life) (a : InFlight)
    (source : Nat) (s : State) :
    (State.ringError r life a source s).outer.atPath q0 c0 = s.outer.atPath q0 c0 :=
  Outer.atPath_of s.path (State.ringError_outer s.path r life a source s) q0 c0
@[simp] theorem State.accessError_outer (q0 : Path) (c0 : Cols) (a : InFlight) (s : State) :
    (State.accessError a s).outer.atPath q0 c0 = s.outer.atPath q0 c0 := by
  unfold State.accessError; (try dsimp only); (repeat' split) <;> first | rfl | simp
@[simp] theorem State.slotReadError_outer (q0 : Path) (s : State) :
    (State.slotReadError s).outer.atPorts q0 = s.outer.atPorts q0 := by
  unfold State.slotReadError; (try dsimp only); (repeat' split) <;> first | rfl | simp
@[simp] theorem State.slotReadError_outerQ (q0 : Path) (c0 : Cols) (s : State) :
    (State.slotReadError s).outer.atPath q0 c0 = s.outer.atPath q0 c0 :=
  Outer.atPath_of s.path (State.slotReadError_outer s.path s) q0 c0
@[simp] theorem State.wordAnswered_outer (ring : Fin 4) (v : Idx) (s : State) :
    (State.wordAnswered ring v s).outer = s.outer := by
  unfold State.wordAnswered; (try dsimp only); (repeat' split) <;> first | rfl | simp
@[simp] theorem State.reportBurstsOver_outer (q0 : Path) (s : State) :
    (State.reportBurstsOver s).outer.atPorts q0 = s.outer.atPorts q0 := by
  unfold State.reportBurstsOver; (try dsimp only); (repeat' split) <;> first | rfl | simp
@[simp] theorem State.reportBurstsOver_outerQ (q0 : Path) (c0 : Cols) (s : State) :
    (State.reportBurstsOver s).outer.atPath q0 c0 = s.outer.atPath q0 c0 :=
  Outer.atPath_of s.path (State.reportBurstsOver_outer s.path s) q0 c0

/-! FinalGrading -/

@[simp] theorem State.laneOutcome_outer (v0 : Vector CampSlot 2) (s : State) (l : LanePlate) (g : Grade) :
    (State.laneOutcome s l g).1.outer.atSlots v0 = s.outer.atSlots v0 := by
  unfold State.laneOutcome; (try dsimp only); (repeat' split) <;> first | rfl | simp
@[simp] theorem State.outcomes_outer (v0 : Vector CampSlot 2) (l : List (LanePlate × PlateResult)) (s : State) :
    (s.outcomes l).1.outer.atSlots v0 = s.outer.atSlots v0 := by
  induction l generalizing s with
  | nil => rfl
  | cons x xs ih => simp [State.outcomes, ih]
@[simp] theorem State.placePlate_outer (p : PlateRec) (s : State) :
    (State.placePlate p s).outer = s.outer := by
  unfold State.placePlate; (try dsimp only); (repeat' split) <;> first | rfl | simp
@[simp] theorem State.finishPlate_outer (row : Row) (s : State) (x : LaneFinal) :
    (State.finishPlate row s x).outer = s.outer := by
  unfold State.finishPlate; (try dsimp only); (repeat' split) <;> first | rfl | simp
@[simp] theorem State.rejectEvent_outer (row : Row) (s : State) (p : LaneFinal × Nat) :
    (State.rejectEvent row s p).outer = s.outer := by
  unfold State.rejectEvent; (try dsimp only); (repeat' split) <;> first | rfl | simp
@[simp] theorem State.gradePlateRow_outer (v0 : Vector CampSlot 2) (row : Row) (c : Campaign) (s : State) :
    (State.gradePlateRow row c s).outer.atSlots v0 = s.outer.atSlots v0 := by
  unfold State.gradePlateRow; dsimp only
  rw [foldl_outer _ (fun _ _ => by simp), foldl_outer _ (fun _ _ => by simp)]; simp
@[simp] theorem State.gradeCulletRow_outer (row : Row) (c : Campaign) (s : State) :
    (State.gradeCulletRow row c s).outer = s.outer := by
  unfold State.gradeCulletRow; (try dsimp only); (repeat' split) <;> first | rfl | simp
@[simp] theorem State.retireLoop_outer (v0 : Vector CampSlot 2) (fuel : Nat) (s : State) :
    (State.retireLoop fuel s).outer.atSlots v0 = s.outer.atSlots v0 := by
  induction fuel generalizing s with
  | zero => rfl
  | succ n ih => unfold State.retireLoop; (try dsimp only); (repeat' split) <;> first | rfl | simp_all
@[simp] theorem State.rowDone_outer (v0 : Vector CampSlot 2) (num : Nat) (s : State) :
    (State.rowDone num s).outer.atSlots v0 = s.outer.atSlots v0 := by
  unfold State.rowDone; (try dsimp only); (repeat' split) <;> first | rfl | simp
@[simp] theorem State.gradeRow_outer (v0 : Vector CampSlot 2) (row : Row) (s : State) :
    (State.gradeRow row s).outer.atSlots v0 = s.outer.atSlots v0 := by
  unfold State.gradeRow; (try dsimp only); (repeat' split) <;> first | rfl | simp
@[simp] theorem State.finalGrading_outer (v0 : Vector CampSlot 2) (w : Waiting) (s : State) :
    (State.finalGrading w s).outer.atSlots v0 = s.outer.atSlots v0 := by
  unfold State.finalGrading; (try dsimp only); (repeat' split) <;> first | rfl | simp

/-! Commands -/

@[simp] theorem State.applyChain_outer (q0 : Path) (chain : List ChainSlot) (s : State) :
    (State.applyChain chain s).outer.atPorts q0 = s.outer.atPorts q0 := by
  unfold State.applyChain; (try dsimp only); (repeat' split) <;> first | rfl | simp
@[simp] theorem State.applyChain_outerQ (q0 : Path) (c0 : Cols) (chain : List ChainSlot) (s : State) :
    (State.applyChain chain s).outer.atPath q0 c0 = s.outer.atPath q0 c0 :=
  Outer.atPath_of s.path (State.applyChain_outer s.path chain s) q0 c0
@[simp] theorem State.writeBackIfDone_outer (q0 : Path) (s : State) :
    (State.writeBackIfDone s).outer.atPorts q0 = s.outer.atPorts q0 := by
  unfold State.writeBackIfDone; (try dsimp only); (repeat' split) <;> first | rfl | simp
@[simp] theorem State.writeBackIfDone_outerQ (q0 : Path) (c0 : Cols) (s : State) :
    (State.writeBackIfDone s).outer.atPath q0 c0 = s.outer.atPath q0 c0 :=
  Outer.atPath_of s.path (State.writeBackIfDone_outer s.path s) q0 c0
@[simp] theorem State.bufferSlot_outer (q0 : Path) (slot : ChainSlot) (s : State) :
    (State.bufferSlot slot s).outer.atPorts q0 = s.outer.atPorts q0 := by
  unfold State.bufferSlot; (try dsimp only); (repeat' split) <;> first | rfl | simp
@[simp] theorem State.bufferSlot_outerQ (q0 : Path) (c0 : Cols) (slot : ChainSlot) (s : State) :
    (State.bufferSlot slot s).outer.atPath q0 c0 = s.outer.atPath q0 c0 :=
  Outer.atPath_of s.path (State.bufferSlot_outer s.path slot s) q0 c0
@[simp] theorem State.chainStage_outer (q0 : Path) (slot : ChainSlot) (chained : Bool) (s : State) :
    (State.chainStage slot chained s).outer.atPorts q0 = s.outer.atPorts q0 := by
  unfold State.chainStage; (try dsimp only); (repeat' split) <;> first | rfl | simp
@[simp] theorem State.chainStage_outerQ (q0 : Path) (c0 : Cols) (slot : ChainSlot) (chained : Bool) (s : State) :
    (State.chainStage slot chained s).outer.atPath q0 c0 = s.outer.atPath q0 c0 :=
  Outer.atPath_of s.path (State.chainStage_outer s.path slot chained s) q0 c0
theorem State.unlessFails_of {β : Type} (g : Outer → β) (hg : ∀ q o, g (o.atPorts q) = g o) (check : Option ResultCode)
    (take : State → State) (s : State) (h : ∀ s, g (take s).outer = g s.outer) :
    g (s.unlessFails check take).outer = g s.outer := by
  have a : ∀ k (x : State), g (x.answerWith k).outer = g x.outer :=
    fun k x => Outer.of_atPorts g hg x.path (State.finish_outer x.path k false x)
  unfold State.unlessFails; split <;> simp [a, h]
theorem State.readyOnly_of {β : Type} (g : Outer → β) (hg : ∀ q o, g (o.atPorts q) = g o) (k : State → State)
    (s : State)
    (h : ∀ s, g (k s).outer = g s.outer) : g (s.readyOnly k).outer = g s.outer := by
  have a : ∀ k (x : State), g (x.answerWith k).outer = g x.outer :=
    fun k x => Outer.of_atPorts g hg x.path (State.finish_outer x.path k false x)
  unfold State.readyOnly; split <;> simp [a, h]
theorem State.boundOrReady_of {β : Type} (g : Outer → β) (hg : ∀ q o, g (o.atPorts q) = g o) (k : State → State)
    (s : State) (h : ∀ s, g (k s).outer = g s.outer) : g (s.boundOrReady k).outer = g s.outer := by
  have a : ∀ k (x : State), g (x.answerWith k).outer = g x.outer :=
    fun k x => Outer.of_atPorts g hg x.path (State.finish_outer x.path k false x)
  unfold State.boundOrReady; split <;> simp [a, h]
@[simp] theorem State.takeSlot_outer (q0 : Path) (bytes : List Byte) (s : State) :
    (State.takeSlot bytes s).outer.atPorts q0 = s.outer.atPorts q0 := by
  unfold State.takeSlot; (try dsimp only); (repeat' split) <;> first | rfl | simp
@[simp] theorem State.takeSlot_outerQ (q0 : Path) (c0 : Cols) (bytes : List Byte) (s : State) :
    (State.takeSlot bytes s).outer.atPath q0 c0 = s.outer.atPath q0 c0 :=
  Outer.atPath_of s.path (State.takeSlot_outer s.path bytes s) q0 c0
@[simp] theorem State.answerWith_outer (q0 : Path) (code : ResultCode) (s : State) :
    (State.answerWith code s).outer.atPorts q0 = s.outer.atPorts q0 := by
  unfold State.answerWith; (try dsimp only); (repeat' split) <;> first | rfl | simp
@[simp] theorem State.answerWith_outerQ (q0 : Path) (c0 : Cols) (code : ResultCode) (s : State) :
    (State.answerWith code s).outer.atPath q0 c0 = s.outer.atPath q0 c0 :=
  Outer.atPath_of s.path (State.answerWith_outer s.path code s) q0 c0
@[simp] theorem State.detect_outer (q0 : Path) (p : List Byte) (s : State) :
    (State.detect p s).outer.atPorts q0 = s.outer.atPorts q0 := by
  unfold State.detect
  refine State.readyOnly_of (Outer.atPorts q0) (fun _ _ => rfl) _ _ (fun s => ?_)
  (repeat' split) <;> first
    | exact State.unlessFails_of (Outer.atPorts q0) (fun _ _ => rfl) _ _ _ (fun s => by simp)
    | simp
@[simp] theorem State.detect_outerQ (q0 : Path) (c0 : Cols) (p : List Byte) (s : State) :
    (State.detect p s).outer.atPath q0 c0 = s.outer.atPath q0 c0 :=
  Outer.atPath_of s.path (State.detect_outer s.path p s) q0 c0
@[simp] theorem State.classifyCmd_outer (q0 : Path) (p : List Byte) (s : State) :
    (State.classifyCmd p s).outer.atPorts q0 = s.outer.atPorts q0 := by
  unfold State.classifyCmd
  refine State.readyOnly_of (Outer.atPorts q0) (fun _ _ => rfl) _ _ (fun s => ?_)
  (repeat' split) <;> first
    | exact State.unlessFails_of (Outer.atPorts q0) (fun _ _ => rfl) _ _ _ (fun s => by simp)
    | simp
@[simp] theorem State.classifyCmd_outerQ (q0 : Path) (c0 : Cols) (p : List Byte) (s : State) :
    (State.classifyCmd p s).outer.atPath q0 c0 = s.outer.atPath q0 c0 :=
  Outer.atPath_of s.path (State.classifyCmd_outer s.path p s) q0 c0
@[simp] theorem State.gradeTable_outer (q0 : Path) (p : List Byte) (s : State) :
    (State.gradeTable p s).outer.atPorts q0 = s.outer.atPorts q0 := by
  unfold State.gradeTable
  refine State.readyOnly_of (Outer.atPorts q0) (fun _ _ => rfl) _ _ (fun s => ?_)
  refine State.unlessFails_of (Outer.atPorts q0) (fun _ _ => rfl) _ _ _ (fun s => ?_)
  exact congrArg (Outer.atPorts q0) (State.modGrader_outer _ s)
@[simp] theorem State.gradeTable_outerQ (q0 : Path) (c0 : Cols) (p : List Byte) (s : State) :
    (State.gradeTable p s).outer.atPath q0 c0 = s.outer.atPath q0 c0 :=
  Outer.atPath_of s.path (State.gradeTable_outer s.path p s) q0 c0
@[simp] theorem State.beginCampaign_outer (v0 : Vector CampSlot 2) (i : Fin 2) (p : List Byte) (s : State) :
    (State.beginCampaign i p s).outer.atSlots v0 = s.outer.atSlots v0 := by
  unfold State.beginCampaign; (try dsimp only); (repeat' split) <;> first | rfl | simp
@[simp] theorem State.campaignBegin_outer (v0 : Vector CampSlot 2) (q0 : Path) (p : List Byte) (s : State) :
    ((State.campaignBegin p s).outer.atSlots v0).atPorts q0 = (s.outer.atSlots v0).atPorts q0 := by
  unfold State.campaignBegin
  refine State.readyOnly_of (fun o => (o.atSlots v0).atPorts q0) (fun _ _ => rfl) _ _ (fun s => ?_)
  split
  · exact Outer.of_atPorts (fun o => (o.atSlots v0).atPorts q0) (fun _ _ => rfl) s.path
      (State.answerWith_outer s.path _ s)
  · exact State.unlessFails_of (fun o => (o.atSlots v0).atPorts q0) (fun _ _ => rfl) _ _ _ (fun s => by simp)
@[simp] theorem State.campaignEnd_outer (v0 : Vector CampSlot 2) (q0 : Path) (s : State) :
    ((State.campaignEnd s).outer.atSlots v0).atPorts q0 = (s.outer.atSlots v0).atPorts q0 := by
  unfold State.campaignEnd
  refine State.readyOnly_of (fun o => (o.atSlots v0).atPorts q0) (fun _ _ => rfl) _ _ (fun s => ?_)
  split
  · refine (Outer.of_atPorts (fun o => (o.atSlots v0).atPorts q0) (fun _ _ => rfl) s.path
      (State.answerWith_outer s.path _ s.endCampaign)).trans ?_
    exact congrArg (Outer.atPorts q0) (State.endCampaign_outer v0 s)
  · exact Outer.of_atPorts (fun o => (o.atSlots v0).atPorts q0) (fun _ _ => rfl) s.path
      (State.answerWith_outer s.path _ s)
@[simp] theorem State.orderAdd_outer (q0 : Path) (p : List Byte) (s : State) :
    (State.orderAdd p s).outer.atPorts q0 = s.outer.atPorts q0 := by
  unfold State.orderAdd
  refine State.readyOnly_of (Outer.atPorts q0) (fun _ _ => rfl) _ _ (fun s => ?_)
  (repeat' split) <;> first
    | exact State.unlessFails_of (Outer.atPorts q0) (fun _ _ => rfl) _ _ _ (fun s => by simp)
    | simp
@[simp] theorem State.orderAdd_outerQ (q0 : Path) (c0 : Cols) (p : List Byte) (s : State) :
    (State.orderAdd p s).outer.atPath q0 c0 = s.outer.atPath q0 c0 :=
  Outer.atPath_of s.path (State.orderAdd_outer s.path p s) q0 c0
@[simp] theorem State.moveOrder_outer (q0 : Path) (id : Nat) (old new : OrderState) (s : State) :
    (State.moveOrder id old new s).outer.atPorts q0 = s.outer.atPorts q0 := by
  unfold State.moveOrder
  refine State.readyOnly_of (Outer.atPorts q0) (fun _ _ => rfl) _ _ (fun s => ?_)
  (repeat' split) <;> first
    | exact State.unlessFails_of (Outer.atPorts q0) (fun _ _ => rfl) _ _ _ (fun s => by simp)
    | simp
@[simp] theorem State.moveOrder_outerQ (q0 : Path) (c0 : Cols) (id : Nat) (old new : OrderState) (s : State) :
    (State.moveOrder id old new s).outer.atPath q0 c0 = s.outer.atPath q0 c0 :=
  Outer.atPath_of s.path (State.moveOrder_outer s.path id old new s) q0 c0
@[simp] theorem State.cancelOrder_outer (o : Order) (s : State) :
    (State.cancelOrder o s).outer = s.outer := by
  unfold State.cancelOrder
  rw [State.replan_outer, State.modPlan_outer _ _ (by dsimp only; split <;> rfl)]
@[simp] theorem State.orderCancel_outer (q0 : Path) (p : List Byte) (s : State) :
    (State.orderCancel p s).outer.atPorts q0 = s.outer.atPorts q0 := by
  unfold State.orderCancel
  refine State.readyOnly_of (Outer.atPorts q0) (fun _ _ => rfl) _ _ (fun s => ?_)
  split
  · simp
  · split
    · simp
    · simp
    · rw [State.answerWith_outer, State.replan_outer, State.modPlan_outer _ _ rfl]
    · simp
@[simp] theorem State.orderCancel_outerQ (q0 : Path) (c0 : Cols) (p : List Byte) (s : State) :
    (State.orderCancel p s).outer.atPath q0 c0 = s.outer.atPath q0 c0 :=
  Outer.atPath_of s.path (State.orderCancel_outer s.path p s) q0 c0
@[simp] theorem State.ringSetup_outer (q0 : Path) (p : List Byte) (s : State) :
    (State.ringSetup p s).outer.atPorts q0 = s.outer.atPorts q0 := by
  unfold State.ringSetup
  refine State.boundOrReady_of (Outer.atPorts q0) (fun _ _ => rfl) _ _ (fun s => ?_)
  (repeat' split) <;> first
    | exact State.unlessFails_of (Outer.atPorts q0) (fun _ _ => rfl) _ _ _ (fun s => by simp)
    | simp
@[simp] theorem State.ringSetup_outerQ (q0 : Path) (c0 : Cols) (p : List Byte) (s : State) :
    (State.ringSetup p s).outer.atPath q0 c0 = s.outer.atPath q0 c0 :=
  Outer.atPath_of s.path (State.ringSetup_outer s.path p s) q0 c0
@[simp] theorem State.ringReset_outer (q0 : Path) (p : List Byte) (s : State) :
    (State.ringReset p s).outer.atPorts q0 = s.outer.atPorts q0 := by
  unfold State.ringReset
  refine State.boundOrReady_of (Outer.atPorts q0) (fun _ _ => rfl) _ _ (fun s => ?_)
  (repeat' split) <;> first
    | exact State.unlessFails_of (Outer.atPorts q0) (fun _ _ => rfl) _ _ _ (fun s => by simp)
    | simp
@[simp] theorem State.ringReset_outerQ (q0 : Path) (c0 : Cols) (p : List Byte) (s : State) :
    (State.ringReset p s).outer.atPath q0 c0 = s.outer.atPath q0 c0 :=
  Outer.atPath_of s.path (State.ringReset_outer s.path p s) q0 c0
@[simp] theorem State.eventSetup_outer (q0 : Path) (p : List Byte) (s : State) :
    (State.eventSetup p s).outer.atPorts q0 = s.outer.atPorts q0 := by
  unfold State.eventSetup
  refine State.boundOrReady_of (Outer.atPorts q0) (fun _ _ => rfl) _ _ (fun s => ?_)
  (repeat' split) <;> first
    | exact State.unlessFails_of (Outer.atPorts q0) (fun _ _ => rfl) _ _ _ (fun s => by simp)
    | simp
@[simp] theorem State.eventSetup_outerQ (q0 : Path) (c0 : Cols) (p : List Byte) (s : State) :
    (State.eventSetup p s).outer.atPath q0 c0 = s.outer.atPath q0 c0 :=
  Outer.atPath_of s.path (State.eventSetup_outer s.path p s) q0 c0
@[simp] theorem State.eventAck_outer (q0 : Path) (p : List Byte) (s : State) :
    (State.eventAck p s).outer.atPorts q0 = s.outer.atPorts q0 := by
  unfold State.eventAck
  refine State.boundOrReady_of (Outer.atPorts q0) (fun _ _ => rfl) _ _ (fun s => ?_)
  (repeat' split) <;> first
    | exact State.unlessFails_of (Outer.atPorts q0) (fun _ _ => rfl) _ _ _ (fun s => by simp)
    | simp
@[simp] theorem State.eventAck_outerQ (q0 : Path) (c0 : Cols) (p : List Byte) (s : State) :
    (State.eventAck p s).outer.atPath q0 c0 = s.outer.atPath q0 c0 :=
  Outer.atPath_of s.path (State.eventAck_outer s.path p s) q0 c0
@[simp] theorem State.setClock_outer (p0 : Position) (day tod : Nat) (s : State) :
    (State.setClock day tod s).outer.atPos p0 = s.outer.atPos p0 := by
  unfold State.setClock; (try dsimp only); (repeat' split) <;> first | rfl | simp
@[simp] theorem State.shiftPlan_outer (q0 : Path) (p : List Byte) (s : State) :
    (State.shiftPlan p s).outer.atPorts q0 = s.outer.atPorts q0 := by
  unfold State.shiftPlan
  refine State.boundOrReady_of (Outer.atPorts q0) (fun _ _ => rfl) _ _ (fun s => ?_)
  (repeat' split) <;> first
    | exact State.unlessFails_of (Outer.atPorts q0) (fun _ _ => rfl) _ _ _ (fun s => by simp)
    | simp
@[simp] theorem State.shiftPlan_outerQ (q0 : Path) (c0 : Cols) (p : List Byte) (s : State) :
    (State.shiftPlan p s).outer.atPath q0 c0 = s.outer.atPath q0 c0 :=
  Outer.atPath_of s.path (State.shiftPlan_outer s.path p s) q0 c0
@[simp] theorem State.shiftEnd_outer (q0 : Path) (s : State) :
    (State.shiftEnd s).outer.atPorts q0 = s.outer.atPorts q0 := by
  unfold State.shiftEnd
  refine State.boundOrReady_of (Outer.atPorts q0) (fun _ _ => rfl) _ _ (fun s => ?_)
  (repeat' split) <;> first
    | exact State.unlessFails_of (Outer.atPorts q0) (fun _ _ => rfl) _ _ _ (fun s => by simp)
    | simp
@[simp] theorem State.shiftEnd_outerQ (q0 : Path) (c0 : Cols) (s : State) :
    (State.shiftEnd s).outer.atPath q0 c0 = s.outer.atPath q0 c0 :=
  Outer.atPath_of s.path (State.shiftEnd_outer s.path s) q0 c0
@[simp] theorem State.gantry_outer (p0 : Position) (q0 : Path) (p : List Byte) (s : State) :
    ((State.gantry p s).outer.atPos p0).atPorts q0 = (s.outer.atPos p0).atPorts q0 := by
  unfold State.gantry
  refine State.readyOnly_of (fun o => (o.atPos p0).atPorts q0) (fun _ _ => rfl) _ _ (fun s => ?_)
  exact State.unlessFails_of (fun o => (o.atPos p0).atPorts q0) (fun _ _ => rfl) _ _ _ (fun s => by simp)
@[simp] theorem State.linkSetup_outer (q0 : Path) (p : List Byte) (s : State) :
    (State.linkSetup p s).outer.atPorts q0 = s.outer.atPorts q0 := by
  unfold State.linkSetup
  refine State.readyOnly_of (Outer.atPorts q0) (fun _ _ => rfl) _ _ (fun s => ?_)
  (repeat' split) <;> first
    | exact State.unlessFails_of (Outer.atPorts q0) (fun _ _ => rfl) _ _ _ (fun s => by simp)
    | simp
@[simp] theorem State.linkSetup_outerQ (q0 : Path) (c0 : Cols) (p : List Byte) (s : State) :
    (State.linkSetup p s).outer.atPath q0 c0 = s.outer.atPath q0 c0 :=
  Outer.atPath_of s.path (State.linkSetup_outer s.path p s) q0 c0
@[simp] theorem State.terminalSetup_outer (p0 : Position) (q0 : Path) (p : List Byte) (s : State) :
    ((State.terminalSetup p s).outer.atPos p0).atPorts q0 = (s.outer.atPos p0).atPorts q0 := by
  unfold State.terminalSetup
  refine State.boundOrReady_of (fun o => (o.atPos p0).atPorts q0) (fun _ _ => rfl) _ _ (fun s => ?_)
  split
  · refine State.unlessFails_of (fun o => (o.atPos p0).atPorts q0) (fun _ _ => rfl) _ _ _ (fun s => ?_)
    exact congrArg (Outer.atPorts q0) (State.changeTerm_outer _ _ _ _ _ (fun s => rfl))
  · exact Outer.of_atPorts (fun o => (o.atPos p0).atPorts q0) (fun _ _ => rfl) s.path
      (State.answerWith_outer s.path _ s)
@[simp] theorem State.terminalSet_outer (p0 : Position) (q0 : Path) (p : List Byte) (s : State) :
    ((State.terminalSet p s).outer.atPos p0).atPorts q0 = (s.outer.atPos p0).atPorts q0 := by
  unfold State.terminalSet
  refine State.boundOrReady_of (fun o => (o.atPos p0).atPorts q0) (fun _ _ => rfl) _ _ (fun s => ?_)
  split
  · exact Outer.of_atPorts (fun o => (o.atPos p0).atPorts q0) (fun _ _ => rfl) s.path
      (State.answerWith_outer s.path _ s)
  · exact State.unlessFails_of (fun o => (o.atPos p0).atPorts q0) (fun _ _ => rfl) _ _ _ (fun s => by simp)

/-! Reset -/

@[simp] theorem State.forwardHeldCapture_outer (q0 : Path) (c0 : Cols) (s : State) :
    (State.forwardHeldCapture s).outer.atPath q0 c0 = s.outer.atPath q0 c0 := by
  unfold State.forwardHeldCapture
  (repeat' split) <;> first | exact State.guarded_outer _ _ _ _ _ (fun s => by simp) | simp

/-! LinkRows -/

@[simp] theorem State.sendStart_outer (s : State) :
    (State.sendStart s).outer = s.outer := by
  unfold State.sendStart; (try dsimp only); (repeat' split) <;> first | rfl | simp
@[simp] theorem State.sendComplete_outer (s : State) :
    (State.sendComplete s).outer = s.outer := by
  unfold State.sendComplete; (try dsimp only); (repeat' split) <;> first | rfl | simp
@[simp] theorem State.malformed_outer (a : ActingFrame) (s : State) :
    (State.malformed a s).outer = s.outer := by
  unfold State.malformed; (try dsimp only); (repeat' split) <;> first | rfl | simp

/-! Occasions -/

theorem State.onCommand_of {β : Type} (g : State → β) (k : CmdKind) (act : List Byte → State → State) (s : State)
    (h : ∀ p, g (act p s) = g s) : g (s.onCommand k act) = g s := by
  unfold State.onCommand; (repeat' split) <;> first | rfl | exact h _
theorem State.onHead_of {β : Type} (g : State → β) (k : HeadKind) (act : QueuedWrite → State → State) (s : State)
    (h : ∀ w ws, s.path.writes = w :: ws → g (act w s) = g s) : g (s.onHead k act) = g s := by
  unfold State.onHead; split
  · split
    · exact h _ _ (by assumption)
    · rfl
  · rfl

end Sys2Proof.Machine
end

