-- ==== Sys2Proof/Laws/Layout.lean ====
section
/-! SUPPORT. What a field of a record, a page or a frame reads back as (R194, R195). -/

namespace Sys2Proof.Machine

@[simp] theorem layoutFrom_length (fs : List Field) (start len : Nat) : (layoutFrom fs start len).length = len := by
  simp [layoutFrom]

@[simp] theorem layout_length (len : Nat) (fs : List Field) : (layout len fs).length = len := layoutFrom_length fs 0 len

/-- A part of a layout is the layout of that part. -/
theorem layoutFrom_part (fs : List Field) {start len off size : Nat} (h : off + size ≤ len) :
    ((layoutFrom fs start len).drop off).take size = layoutFrom fs (start + off) size := by
  apply List.ext_getElem
  · simp; omega
  · intro i h1 h2; simp [layoutFrom, Nat.add_assoc]

theorem leNat_append_byte (l : List Byte) (b : Byte) : leNat (l ++ [b]) = leNat l + 256 ^ l.length * b.toNat := by
  induction l with
  | nil => simp [leNat]
  | cons x l ih => simp only [List.cons_append, leNat, ih, List.length_cons, Nat.pow_succ]; ring

/-- The bytes `0` to `n` of a number, least significant first, are the number below 256 ^ n. -/
theorem leNat_bytes (v n : Nat) : leNat ((List.range n).map (fun i => BitVec.ofNat 8 (v / 256 ^ i))) = v % 256 ^ n := by
  induction n with
  | zero => simp [leNat, Nat.mod_one]
  | succ n ih =>
    rw [List.range_succ, List.map_append, List.map_singleton, leNat_append_byte, ih, Nat.pow_succ, Nat.mod_mul]
    simp

theorem leNat_toBytes (n v : Nat) : leNat (toBytes n v) = v % 256 ^ n := by
  induction n generalizing v with
  | zero => simp [toBytes, leNat, Nat.mod_one]
  | succ n ih =>
    rw [toBytes, leNat, ih, BitVec.toNat_ofNat, show 256 ^ (n + 1) = 256 * 256 ^ n by ring, Nat.mod_mul]

@[simp] theorem toBytes_length (n v : Nat) : (toBytes n v).length = n := by
  induction n generalizing v with
  | zero => rfl
  | succ n ih => simp [toBytes, ih]

/-- Whether a field covers a byte of its layout. -/
def Field.covers (x : Nat) (g : Field) : Bool := g.off ≤ x && x < g.off + g.size

/-- The byte of a layout is that of the first field that covers it. -/
theorem layoutByte_eq (fs : List Field) (o : Nat) : layoutByte fs o =
    match fs.find? (Field.covers o) with
    | some f => BitVec.ofNat 8 (f.val / 256 ^ (o - f.off))
    | none => 0 := rfl

/-- A field reads back as its value where it is the first of the layout to cover each of its bytes. -/
theorem field_layoutFrom {fs : List Field} {f : Field} {start len off size v : Nat} (hl : off + size ≤ len)
    (ho : f.off = start + off) (hv : f.val = v)
    (h : ∀ i, i < size → fs.find? (Field.covers (start + off + i)) = some f) :
    field (layoutFrom fs start len) off size = v % 256 ^ size := by
  rw [field, layoutFrom_part fs hl, ← leNat_bytes, layoutFrom]
  congr 1
  apply List.map_congr_left
  intro i hi
  rw [layoutByte_eq, h i (List.mem_range.1 hi)]
  simp [ho, hv]

/-- Bytes that no field occupies read 0. -/
theorem byteAt_layoutFrom_gap {fs : List Field} {start len off : Nat} (hl : off < len)
    (h : fs.find? (Field.covers (start + off)) = none) :
    byteAt (layoutFrom fs start len) off = 0 := by
  rw [byteAt, field, layoutFrom_part fs hl, layoutFrom]
  simp [layoutByte_eq, h, leNat]

/-! ## Which field of a table covers a byte -/

/-- A table of equal steps: fields that all lie outside a byte do not cover it. -/
theorem find?_spread_outside {α : Type} {f : Nat → α → List Field} {l : List α} {off step x : Nat}
    (hf : ∀ o a, ∀ g ∈ f o a, o ≤ g.off ∧ g.off + g.size ≤ o + step) (hx : x < off ∨ off + step * l.length ≤ x) :
    (spread off step f l).find? (Field.covers x) = none := by
  simp only [spread, List.find?_eq_none, List.mem_flatMap, Prod.exists, Field.covers, Bool.and_eq_true, decide_eq_true_eq]
  rintro g ⟨a, i, hm, hg⟩ ⟨h1, h2⟩
  have hb := hf _ _ g hg
  have hi := (List.mem_zipIdx' hm).1
  have : step * i + step ≤ step * l.length := by rw [← Nat.mul_succ]; exact Nat.mul_le_mul_left _ hi
  omega

/-- A table of equal steps: the entry at a place alone covers the bytes of that place. -/
theorem find?_spread {α : Type} {f : Nat → α → List Field} {l : List α} {off step x i : Nat} {a : α}
    (hf : ∀ o a, ∀ g ∈ f o a, o ≤ g.off ∧ g.off + g.size ≤ o + step) (ha : l[i]? = some a)
    (h1 : off + step * i ≤ x) (h2 : x < off + step * i + step) :
    (spread off step f l).find? (Field.covers x) = (f (off + step * i) a).find? (Field.covers x) := by
  suffices H : ∀ (l : List α) (k i : Nat), l[i]? = some a → off + step * (k + i) ≤ x → x < off + step * (k + i) + step →
      ((l.zipIdx k).flatMap (fun p => f (off + step * p.2) p.1)).find? (Field.covers x)
        = (f (off + step * (k + i)) a).find? (Field.covers x) by
    simpa [spread] using H l 0 i ha (by simpa using h1) (by simpa using h2)
  intro l
  induction l with
  | nil => simp
  | cons b l ih =>
    intro k i ha h1 h2
    rw [List.zipIdx_cons, List.flatMap_cons, List.find?_append]
    cases i with
    | zero =>
      simp only [List.getElem?_cons_zero, Option.some.injEq] at ha
      subst ha
      have hrest : ((l.zipIdx (k + 1)).flatMap (fun p => f (off + step * p.2) p.1)).find? (Field.covers x) = none := by
        simp only [List.find?_eq_none, List.mem_flatMap, Prod.exists, Field.covers, Bool.and_eq_true, decide_eq_true_eq]
        rintro g ⟨c, j, hm, hg⟩ ⟨h3, -⟩
        have hb := hf _ _ g hg
        have hj := (List.mem_zipIdx hm).1
        have : step * (k + 1) ≤ step * j := Nat.mul_le_mul_left _ hj
        rw [Nat.mul_succ] at this
        simp only [Nat.add_zero] at h2
        omega
      simp [hrest]
    | succ i =>
      have hhead : (f (off + step * k) b).find? (Field.covers x) = none := by
        simp only [List.find?_eq_none, Field.covers, Bool.and_eq_true, decide_eq_true_eq]
        rintro g hg ⟨-, h4⟩
        have hb := hf _ _ g hg
        have : step * (k + 1) ≤ step * (k + (i + 1)) := Nat.mul_le_mul_left _ (by omega)
        rw [Nat.mul_succ] at this
        omega
      have e : k + 1 + i = k + (i + 1) := by omega
      simp only [hhead, Option.none_or]
      simpa [e] using ih (k + 1) i (by simpa using ha) (by simpa [e] using h1) (by simpa [e] using h2)

/-- A table of 32-bit counts is a table of steps of four bytes. -/
theorem countFields_eq_spread (off : Nat) (v : List Nat) : countFields off v = spread off 4 (fun o x => [⟨o, 4, x⟩]) v := by
  rw [countFields, spread, List.map_eq_flatMap]

/-- A table of counts covers no byte before it or behind it. -/
theorem find?_countFields_outside {v : List Nat} {off x : Nat} (hx : x < off ∨ off + 4 * v.length ≤ x) :
    (countFields off v).find? (Field.covers x) = none := by
  rw [countFields_eq_spread]
  exact find?_spread_outside (fun o a g hg => by simp_all) hx

/-- A count of a table alone covers its four bytes. -/
theorem find?_countFields {v : List Nat} {off x i n : Nat} (hn : v[i]? = some n) (h1 : off + 4 * i ≤ x)
    (h2 : x < off + 4 * i + 4) : (countFields off v).find? (Field.covers x) = some ⟨off + 4 * i, 4, n⟩ := by
  rw [countFields_eq_spread, find?_spread (fun o a g hg => by simp_all) hn h1 h2]
  simp [Field.covers, h1, h2]

end Sys2Proof.Machine
end

