-- ==== Sys2Proof/Laws/Occasions.lean ====
section
/-! SUPPORT. When the shared operations act: the guard test (R25, R26), the head of the write queue, a dispatched command,
a frame that is acted on, a write-back that is due; and what a command can answer. -/

namespace Sys2Proof.Machine

/-! ## Results and write-backs (R176, R177) -/

/-- A write-back that is due waits while a result write is in flight. -/
theorem State.writeBackIfDue_waits {s : State} (h : ∃ a ∈ s.path.down, a.what.isResult = true) : s.writeBackIfDue = s := by
  unfold State.writeBackIfDue
  split
  · rw [if_pos (List.any_eq_true.2 h)]
  · rfl

/-- With no result write in flight it goes out. -/
theorem State.writeBackIfDue_goes {s : State} {hold : Option Nat} (hd : s.cp.backDue = some hold)
    (h : ∀ a ∈ s.path.down, a.what.isResult = false) :
    s.writeBackIfDue = (s.modCp (fun c => { c with backDue := none })).issueHeader hold := by
  unfold State.writeBackIfDue
  rw [hd]; dsimp only
  rw [if_neg]
  intro hx
  obtain ⟨a, ha, hr⟩ := List.any_eq_true.1 hx
  rw [h a ha] at hr; cases hr

theorem State.writeBackIfDue_none {s : State} (h : s.cp.backDue = none) : s.writeBackIfDue = s := by
  unfold State.writeBackIfDue; rw [h]

/-- No CMD_DONE while a write of the result is in flight. -/
theorem State.raiseDone_waits {s : State} {first : Idx} (h : ∃ a ∈ s.path.down, a.what = .result first) :
    s.raiseDone first = s := by
  obtain ⟨a, ha, hw⟩ := h
  unfold State.raiseDone
  rw [if_pos (List.any_eq_true.2 ⟨a, ha, by simp [hw]⟩)]

/-! ## The guard test -/

theorem touches_iff (a : Nat) (bs : List (Option Byte)) (lo hi : Nat) :
    touches a bs lo hi = true ↔ ∃ x y, (x, y) ∈ enabledAt a bs ∧ lo ≤ x ∧ x < hi := by
  simp [touches, List.any_eq_true]

theorem Ring.guardTouched_iff (g : Ring) (r : Fin 4) (a : Addr) (bs : List (Option Byte)) :
    g.guardTouched r a.toNat bs = true ↔ ∃ x, g.guards r x ∧ enables a bs x := by
  simp only [Ring.guardTouched, Ring.areaEnd, Bool.and_eq_true, Bool.or_eq_true, touches_iff, Ring.guards, enables,
    decide_eq_true_eq]
  constructor
  · rintro ⟨h, ⟨x, y, m, h1, h2⟩ | ⟨x, y, m, h1, h2⟩⟩
    · exact ⟨x, ⟨h, Or.inl ⟨h1, h2⟩⟩, y, m⟩
    · exact ⟨x, ⟨h, Or.inr ⟨h1, h2⟩⟩, y, m⟩
  · rintro ⟨x, ⟨h, ⟨h1, h2⟩ | ⟨h1, h2⟩⟩, y, m⟩
    · exact ⟨h, Or.inl ⟨x, y, m, h1, h2⟩⟩
    · exact ⟨h, Or.inr ⟨x, y, m, h1, h2⟩⟩

theorem State.hitsGuard_iff (s : State) (w : QueuedWrite) (r : Fin 4) :
    s.hitsGuard w r ↔ (s.rings[r].guardTouched r w.burst.addr.toNat w.burst.bytes
      || (w.cls.translated && s.rings[r].guardTouched r w.cls.down.toNat w.burst.bytes)) = true := by
  rw [Bool.or_eq_true, Bool.and_eq_true, Ring.guardTouched_iff, Ring.guardTouched_iff]
  constructor
  · rintro ⟨x, h, e | ⟨ht, e⟩⟩
    · exact Or.inl ⟨x, h, e⟩
    · exact Or.inr ⟨ht, x, h, e⟩
  · rintro (⟨x, h, e⟩ | ⟨ht, x, h, e⟩)
    · exact ⟨x, h, Or.inl e⟩
    · exact ⟨x, h, Or.inr ⟨ht, e⟩⟩

/-- The guard test looks at the rings only. -/
theorem State.hitsGuard_congr {s t : State} {w : QueuedWrite} (h : t.rings = s.rings) (r : Fin 4) :
    t.hitsGuard w r ↔ s.hitsGuard w r := by
  unfold State.hitsGuard; rw [h]

theorem State.guardHit_none {s : State} {w : QueuedWrite} (h : ∀ r, ¬ s.hitsGuard w r) : s.guardHit w = none := by
  unfold State.guardHit
  split
  · rfl
  · rw [List.find?_eq_none]; intro r _ hr; exact h r ((State.hitsGuard_iff s w r).2 hr)

/-- The lowest ring whose guard a write hits. -/
theorem State.guardHit_some {s : State} {w : QueuedWrite} {r : Fin 4} (hc : w.cls.crossing = false)
    (h : s.hitsGuard w r) (hq : ∀ q, q < r → ¬ s.hitsGuard w q) : s.guardHit w = some r := by
  unfold State.guardHit
  rw [if_neg (by simp [hc])]
  have e : (List.finRange 4) = [0, 1, 2, 3] := by decide
  rw [e]
  have hr := (State.hitsGuard_iff s w r).1 h
  have hn : ∀ q, q < r → ¬ _ := fun q hqr hh => hq q hqr ((State.hitsGuard_iff s w q).2 hh)
  match r, hr, hn with
  | 0, hr, _ => simp only [List.find?, hr]
  | 1, hr, hn => simp only [List.find?, hr, Bool.eq_false_iff.2 (hn 0 (by decide))]
  | 2, hr, hn =>
    simp only [List.find?, hr, Bool.eq_false_iff.2 (hn 0 (by decide)), Bool.eq_false_iff.2 (hn 1 (by decide))]
  | 3, hr, hn =>
    simp only [List.find?, hr, Bool.eq_false_iff.2 (hn 0 (by decide)), Bool.eq_false_iff.2 (hn 1 (by decide)),
      Bool.eq_false_iff.2 (hn 2 (by decide))]

theorem State.guarded_none {s : State} {w : QueuedWrite} (h : ∀ r, ¬ s.hitsGuard w r) (k : State → State) :
    s.guarded w k = k s := by
  unfold State.guarded; rw [State.guardHit_none h]

theorem State.guarded_some {s : State} {w : QueuedWrite} {r : Fin 4} (hc : w.cls.crossing = false)
    (h : s.hitsGuard w r) (hq : ∀ q, q < r → ¬ s.hitsGuard w q) (k : State → State) :
    s.guarded w k = s.refuseGuarded w r := by
  unfold State.guarded; rw [State.guardHit_some hc h hq]

/-! ## Occasions -/

theorem State.onHead_heads {s : State} {k : HeadKind} {w : QueuedWrite} (h : s.heads k w)
    (act : QueuedWrite → State → State) : s.onHead k act = act w s := by
  obtain ⟨h1, ⟨ws, h2⟩, h3⟩ := h
  unfold State.onHead; rw [h1, h2]; simp [h3]

theorem State.onCommand_given {s : State} {k : CmdKind} {p : List Byte} (h : s.given k p)
    (act : List Byte → State → State) : s.onCommand k act = act p s := by
  obtain ⟨h1, c, h2, h3, h4⟩ := h
  unfold State.onCommand; rw [h1, h2]; simp [h3, h4]

theorem State.actingFrame_framed {s : State} {kind : Byte} {p : List Byte} (h : s.framed kind p) :
    s.actingFrame kind = some p := by
  obtain ⟨h1, h2⟩ := h
  unfold State.actingFrame; rw [h1]; simp [h2]

/-! ## Outcomes -/

/-- A command with operands that the ports can carry answers a next state. -/
theorem exec_next {c : Instr} (h : c.wellFormed = true) (s : State) : ∃ t, exec c s = .next t := by
  cases c <;> first
    | exact ⟨_, rfl⟩
    | (simp only [exec, execUpstreamWriteArrival, execUpstreamReadArrival, execClassificationDone, execReadRelease,
        execForwardedResponse, execCaptureHoldExpiry, execProducerHoldExpiry, execMemError, execRecordIssue,
        execRecordAccepted, execProducerWordWrite, execProducerWordAnswered, execReportAccepted, execSlotTake, execWriteBackDone,
        execRingHeaderWritten, execFinalGrading, execMalformedFrame, execFrameDiscard, execFrameGapTimeout,
        execFrameActionEnd, execAckTimeout]
       (repeat' split) <;> first
        | exact ⟨_, rfl⟩
        | (rename_i hn; exact absurd h hn)
        | (rename_i hn; exact absurd (of_decide_eq_true h) hn))

/-- The others are the empty or too long bursts, and the reads of a slot that are not 64 bytes (log 25). -/
theorem exec_fault {c : Instr} (h : c.wellFormed = false) (s : State) :
    exec c s = .fault .malformedOperand ∨ ∃ n data, c = .forwardedResponse n data := by
  cases c <;> first
    | (cases h; done)
    | exact Or.inr ⟨_, _, rfl⟩
    | (refine Or.inl ?_
       simp only [exec, execUpstreamWriteArrival, execUpstreamReadArrival, execSlotTake]
       split
       · rename_i hy
         first
          | (rw [Instr.wellFormed, hy] at h; cases h)
          | (rw [Instr.wellFormed, decide_eq_true hy] at h; cases h)
       · rfl)

end Sys2Proof.Machine
end

