-- ==== Sys2Proof/Laws/Rows.lean ====
section
/-! SUPPORT. What each row leaves of the outer parts, one lemma for each row but those that write them outright
(POWER_ON_RESET, the arrivals, BIND, GEOMETRY, UNBIND). -/

namespace Sys2Proof.Machine

set_option linter.unusedTactic false
set_option linter.unreachableTactic false

theorem State.onFrame_outer (kind : Byte) (i : Fin 4) (act : List Byte → State → State) (s : State)
    (h : ∀ p s, (act p s).outer = s.outer) : (s.onFrame kind i act).outer = s.outer := by
  unfold State.onFrame; split
  · simp [h]
  · rfl

/-- SET_TIME changes the clock of the Position Unit, the Tally Unit, and the ports by its answer. -/
theorem State.setTime_outer (p0 : Position) (q0 : Path) (p : List Byte) (s : State) :
    ((s.setTime p).outer.atPos p0).atPorts q0 = (s.outer.atPos p0).atPorts q0 := by
  unfold State.setTime
  refine State.boundOrReady_of (fun o => (o.atPos p0).atPorts q0) (fun _ _ => rfl) _ _ (fun s => ?_)
  exact State.unlessFails_of (fun o => (o.atPos p0).atPorts q0) (fun _ _ => rfl) _ _ _
    (fun s => congrArg (Outer.atPorts q0) (State.setClock_outer p0 _ _ s))

theorem execWriteAtHead_outer (q : Path) (c : Cols) {s t : State} (h : execWriteAtHead s = .next t) :
    t.outer.atPath q c = s.outer.atPath q c := by
  obtain rfl := Host.Outcome.next.inj h
  exact State.onHead_of (·.outer.atPath q c) _ _ s (fun w ws _ => by simp)

theorem execCaptureWrite_outer (q : Path) (c : Cols) {s t : State} (h : execCaptureWrite s = .next t) :
    t.outer.atPath q c = s.outer.atPath q c := by
  obtain rfl := Host.Outcome.next.inj h
  exact State.onHead_of (·.outer.atPath q c) _ _ s (fun w ws _ => by simp)

theorem execProducerWrite_outer (q : Path) (c : Cols) {s t : State} (h : execProducerWrite s = .next t) :
    t.outer.atPath q c = s.outer.atPath q c := by
  obtain rfl := Host.Outcome.next.inj h
  exact State.onHead_of (·.outer.atPath q c) _ _ s (fun w ws _ => by simp)

theorem execFaultAck_outer (q : Path) (c : Cols) {s t : State} (h : execFaultAck s = .next t) :
    t.outer.atPath q c = s.outer.atPath q c := by
  obtain rfl := Host.Outcome.next.inj h
  exact State.onHead_of (·.outer.atPath q c) _ _ s (fun w ws _ => by simp)

theorem execConsumerWordWrite_outer (q : Path) (c : Cols) {s t : State} (h : execConsumerWordWrite s = .next t) :
    t.outer.atPath q c = s.outer.atPath q c := by
  obtain rfl := Host.Outcome.next.inj h
  exact State.onHead_of (·.outer.atPath q c) _ _ s (fun w ws _ => by simp)

theorem execLiveWrite_outer (q : Path) (c : Cols) {s t : State} (h : execLiveWrite s = .next t) :
    t.outer.atPath q c = s.outer.atPath q c := by
  obtain rfl := Host.Outcome.next.inj h
  exact State.onHead_of (·.outer.atPath q c) _ _ s (fun w ws _ => by simp)

theorem execDetect_outer (q : Path) {s t : State} (h : execDetect s = .next t) :
    t.outer.atPorts q = s.outer.atPorts q := by
  obtain rfl := Host.Outcome.next.inj h
  exact State.onCommand_of (·.outer.atPorts q) _ _ s (fun p => State.detect_outer q p s)

theorem execClassify_outer (q : Path) {s t : State} (h : execClassify s = .next t) :
    t.outer.atPorts q = s.outer.atPorts q := by
  obtain rfl := Host.Outcome.next.inj h
  exact State.onCommand_of (·.outer.atPorts q) _ _ s (fun p => State.classifyCmd_outer q p s)

theorem execGradeTable_outer (q : Path) {s t : State} (h : execGradeTable s = .next t) :
    t.outer.atPorts q = s.outer.atPorts q := by
  obtain rfl := Host.Outcome.next.inj h
  exact State.onCommand_of (·.outer.atPorts q) _ _ s (fun p => State.gradeTable_outer q p s)

theorem execOrderAdd_outer (q : Path) {s t : State} (h : execOrderAdd s = .next t) :
    t.outer.atPorts q = s.outer.atPorts q := by
  obtain rfl := Host.Outcome.next.inj h
  exact State.onCommand_of (·.outer.atPorts q) _ _ s (fun p => State.orderAdd_outer q p s)

theorem execOrderCancel_outer (q : Path) {s t : State} (h : execOrderCancel s = .next t) :
    t.outer.atPorts q = s.outer.atPorts q := by
  obtain rfl := Host.Outcome.next.inj h
  exact State.onCommand_of (·.outer.atPorts q) _ _ s (fun p => State.orderCancel_outer q p s)

theorem execRingSetup_outer (q : Path) {s t : State} (h : execRingSetup s = .next t) :
    t.outer.atPorts q = s.outer.atPorts q := by
  obtain rfl := Host.Outcome.next.inj h
  exact State.onCommand_of (·.outer.atPorts q) _ _ s (fun p => State.ringSetup_outer q p s)

theorem execRingReset_outer (q : Path) {s t : State} (h : execRingReset s = .next t) :
    t.outer.atPorts q = s.outer.atPorts q := by
  obtain rfl := Host.Outcome.next.inj h
  exact State.onCommand_of (·.outer.atPorts q) _ _ s (fun p => State.ringReset_outer q p s)

theorem execEventSetup_outer (q : Path) {s t : State} (h : execEventSetup s = .next t) :
    t.outer.atPorts q = s.outer.atPorts q := by
  obtain rfl := Host.Outcome.next.inj h
  exact State.onCommand_of (·.outer.atPorts q) _ _ s (fun p => State.eventSetup_outer q p s)

theorem execEventAck_outer (q : Path) {s t : State} (h : execEventAck s = .next t) :
    t.outer.atPorts q = s.outer.atPorts q := by
  obtain rfl := Host.Outcome.next.inj h
  exact State.onCommand_of (·.outer.atPorts q) _ _ s (fun p => State.eventAck_outer q p s)

theorem execShiftPlan_outer (q : Path) {s t : State} (h : execShiftPlan s = .next t) :
    t.outer.atPorts q = s.outer.atPorts q := by
  obtain rfl := Host.Outcome.next.inj h
  exact State.onCommand_of (·.outer.atPorts q) _ _ s (fun p => State.shiftPlan_outer q p s)

theorem execLinkSetup_outer (q : Path) {s t : State} (h : execLinkSetup s = .next t) :
    t.outer.atPorts q = s.outer.atPorts q := by
  obtain rfl := Host.Outcome.next.inj h
  exact State.onCommand_of (·.outer.atPorts q) _ _ s (fun p => State.linkSetup_outer q p s)

theorem execOrderHold_outer (q : Path) {s t : State} (h : execOrderHold s = .next t) :
    t.outer.atPorts q = s.outer.atPorts q := by
  obtain rfl := Host.Outcome.next.inj h
  exact State.onCommand_of (·.outer.atPorts q) _ _ s (fun p => State.moveOrder_outer q _ _ _ s)

theorem execOrderRelease_outer (q : Path) {s t : State} (h : execOrderRelease s = .next t) :
    t.outer.atPorts q = s.outer.atPorts q := by
  obtain rfl := Host.Outcome.next.inj h
  exact State.onCommand_of (·.outer.atPorts q) _ _ s (fun p => State.moveOrder_outer q _ _ _ s)

theorem execShiftEnd_outer (q : Path) {s t : State} (h : execShiftEnd s = .next t) :
    t.outer.atPorts q = s.outer.atPorts q := by
  obtain rfl := Host.Outcome.next.inj h
  exact State.onCommand_of (·.outer.atPorts q) _ _ s (fun _ => State.shiftEnd_outer q s)

theorem execGantry_outer (p : Position) (q : Path) {s t : State} (h : execGantry s = .next t) :
    (t.outer.atPos p).atPorts q = (s.outer.atPos p).atPorts q := by
  obtain rfl := Host.Outcome.next.inj h
  exact State.onCommand_of (fun x => (x.outer.atPos p).atPorts q) _ _ s (fun b => State.gantry_outer p q b s)

theorem execTerminalSetup_outer (p : Position) (q : Path) {s t : State} (h : execTerminalSetup s = .next t) :
    (t.outer.atPos p).atPorts q = (s.outer.atPos p).atPorts q := by
  obtain rfl := Host.Outcome.next.inj h
  exact State.onCommand_of (fun x => (x.outer.atPos p).atPorts q) _ _ s (fun b => State.terminalSetup_outer p q b s)

theorem execTerminalSet_outer (p : Position) (q : Path) {s t : State} (h : execTerminalSet s = .next t) :
    (t.outer.atPos p).atPorts q = (s.outer.atPos p).atPorts q := by
  obtain rfl := Host.Outcome.next.inj h
  exact State.onCommand_of (fun x => (x.outer.atPos p).atPorts q) _ _ s (fun b => State.terminalSet_outer p q b s)

theorem execSetTime_outer (p : Position) (q : Path) {s t : State} (h : execSetTime s = .next t) :
    (t.outer.atPos p).atPorts q = (s.outer.atPos p).atPorts q := by
  obtain rfl := Host.Outcome.next.inj h
  exact State.onCommand_of (fun x => (x.outer.atPos p).atPorts q) _ _ s (fun b => State.setTime_outer p q b s)

theorem execCampaignBegin_outer (v : Vector CampSlot 2) (q : Path) {s t : State} (h : execCampaignBegin s = .next t) :
    (t.outer.atSlots v).atPorts q = (s.outer.atSlots v).atPorts q := by
  obtain rfl := Host.Outcome.next.inj h
  exact State.onCommand_of (fun x => (x.outer.atSlots v).atPorts q) _ _ s (fun b => State.campaignBegin_outer v q b s)

theorem execCampaignEnd_outer (v : Vector CampSlot 2) (q : Path) {s t : State} (h : execCampaignEnd s = .next t) :
    (t.outer.atSlots v).atPorts q = (s.outer.atSlots v).atPorts q := by
  obtain rfl := Host.Outcome.next.inj h
  exact State.onCommand_of (fun x => (x.outer.atSlots v).atPorts q) _ _ s (fun _ => State.campaignEnd_outer v q s)

theorem execEncoderTransition_outer (p : Position) (a b : Bool) {s t : State} (h : execEncoderTransition a b s = .next t) :
    t.outer.atPos p = s.outer.atPos p := by
  obtain rfl := Host.Outcome.next.inj h
  exact State.encoder_outer p a b s

theorem execLtrigPulseEnd_outer (p : Position) {s t : State} (h : execLtrigPulseEnd s = .next t) :
    t.outer.atPos p = s.outer.atPos p := by
  obtain rfl := Host.Outcome.next.inj h
  rfl

theorem execStallTimeout_outer (p : Position) {s t : State} (h : execStallTimeout s = .next t) :
    t.outer.atPos p = s.outer.atPos p := by
  obtain rfl := Host.Outcome.next.inj h
  exact State.stallTimeoutTaken_outer p s

theorem execTimeOfDayAdvance_outer (p : Position) (pins : BitVec 6) {s t : State} (h : execTimeOfDayAdvance pins s = .next t) :
    t.outer.atPos p = s.outer.atPos p := by
  obtain rfl := Host.Outcome.next.inj h
  exact State.advanceTime_outer p pins s

theorem execReadRelease_outer (q : Path) (c : Cols) (pos : Nat) {s t : State} (h : execReadRelease pos s = .next t) :
    t.outer.atPath q c = s.outer.atPath q c := by
  unfold execReadRelease at h; (try dsimp only at h); (repeat' split at h) <;> obtain rfl := Host.Outcome.next.inj h <;> first | rfl | simp

theorem execClassificationDone_outer (q : Path) (c : Cols) (cam : Fin 8) (bufB : Bool) {s t : State} (h : execClassificationDone cam bufB s = .next t) :
    t.outer.atPath q c = s.outer.atPath q c := by
  have e := State.endClassification_outer cam bufB s
  unfold execClassificationDone at h
  split at h <;> (rename_i g; rw [g] at e; obtain rfl := Host.Outcome.next.inj h)
  · rw [State.reofferFor_outer]; exact congrArg (Outer.atPath q c) e
  · exact congrArg (Outer.atPath q c) e

theorem execCaptureHoldExpiry_outer (q : Path) (c : Cols) {s t : State} (h : execCaptureHoldExpiry s = .next t) :
    t.outer.atPath q c = s.outer.atPath q c := by
  unfold execCaptureHoldExpiry at h; (try dsimp only at h); (repeat' split at h) <;> obtain rfl := Host.Outcome.next.inj h <;> first | rfl | simp

theorem execProducerHoldExpiry_outer (q : Path) (c : Cols) {s t : State} (h : execProducerHoldExpiry s = .next t) :
    t.outer.atPath q c = s.outer.atPath q c := by
  unfold execProducerHoldExpiry at h; (try dsimp only at h); (repeat' split at h) <;> obtain rfl := Host.Outcome.next.inj h <;> first | rfl | simp

theorem execMemError_outer (q : Path) (c : Cols) (at_ : ErrorAt) {s t : State} (h : execMemError at_ s = .next t) :
    t.outer.atPath q c = s.outer.atPath q c := by
  unfold execMemError at h; (try dsimp only at h); (repeat' split at h) <;> obtain rfl := Host.Outcome.next.inj h <;> first | rfl | simp

theorem execWriteBackDone_outer (q : Path) (c : Cols) {s t : State} (h : execWriteBackDone s = .next t) :
    t.outer.atPath q c = s.outer.atPath q c := by
  unfold execWriteBackDone at h; (try dsimp only at h); (repeat' split at h) <;> obtain rfl := Host.Outcome.next.inj h <;> first | rfl | simp

theorem execForwardedResponse_outer (q : Path) (serial : Nat) (data : List Byte) {s t : State} (h : execForwardedResponse serial data s = .next t) :
    t.outer.atPorts q = s.outer.atPorts q := by
  unfold execForwardedResponse at h; (try dsimp only at h); (repeat' split at h) <;> obtain rfl := Host.Outcome.next.inj h <;> first | rfl | simp

theorem execRecordIssue_outer (q : Path) (ring : Fin 4) {s t : State} (h : execRecordIssue ring s = .next t) :
    t.outer.atPorts q = s.outer.atPorts q := by
  unfold execRecordIssue at h; (try dsimp only at h); (repeat' split at h) <;> obtain rfl := Host.Outcome.next.inj h <;> first | rfl | simp

theorem execRecordAccepted_outer (q : Path) (ring : Fin 4) (index : Idx) {s t : State} (h : execRecordAccepted ring index s = .next t) :
    t.outer.atPorts q = s.outer.atPorts q := by
  unfold execRecordAccepted at h; (try dsimp only at h); (repeat' split at h) <;> obtain rfl := Host.Outcome.next.inj h <;> first | rfl | simp

theorem execProducerWordWrite_outer (q : Path) (ring : Fin 4) {s t : State} (h : execProducerWordWrite ring s = .next t) :
    t.outer.atPorts q = s.outer.atPorts q := by
  unfold execProducerWordWrite at h; (try dsimp only at h); (repeat' split at h) <;> obtain rfl := Host.Outcome.next.inj h <;> first | rfl | simp

theorem execProducerWordAnswered_outer (q : Path) (ring : Fin 4) {s t : State} (h : execProducerWordAnswered ring s = .next t) :
    t.outer.atPorts q = s.outer.atPorts q := by
  unfold execProducerWordAnswered at h; (try dsimp only at h); (repeat' split at h) <;> obtain rfl := Host.Outcome.next.inj h <;> first | rfl | simp

theorem execReportAccepted_outer (q : Path) {s t : State} (h : execReportAccepted s = .next t) :
    t.outer.atPorts q = s.outer.atPorts q := by
  unfold execReportAccepted at h; (try dsimp only at h); (repeat' split at h) <;> obtain rfl := Host.Outcome.next.inj h <;> first | rfl | simp

theorem execSlotTake_outer (q : Path) (bytes : List Byte) {s t : State} (h : execSlotTake bytes s = .next t) :
    t.outer.atPorts q = s.outer.atPorts q := by
  unfold execSlotTake at h; (repeat' split at h) <;> first | (obtain rfl := Host.Outcome.next.inj h; first | rfl | simp) | exact absurd h (by simp)

theorem execRingHeaderWritten_outer (q : Path) {s t : State} (h : execRingHeaderWritten s = .next t) :
    t.outer.atPorts q = s.outer.atPorts q := by
  unfold execRingHeaderWritten at h; (try dsimp only at h); (repeat' split at h) <;> obtain rfl := Host.Outcome.next.inj h <;> first | rfl | simp

theorem execFinalGrading_outer (v : Vector CampSlot 2) {s t : State} (h : execFinalGrading s = .next t) :
    t.outer.atSlots v = s.outer.atSlots v := by
  unfold execFinalGrading at h; (try dsimp only at h); (repeat' split at h) <;> obtain rfl := Host.Outcome.next.inj h <;> first | rfl | simp

theorem execFrameSendStart_outer {s t : State} (h : execFrameSendStart s = .next t) :
    t.outer = s.outer := by
  obtain rfl := Host.Outcome.next.inj h
  simp

theorem execFrameSendComplete_outer {s t : State} (h : execFrameSendComplete s = .next t) :
    t.outer = s.outer := by
  obtain rfl := Host.Outcome.next.inj h
  simp

theorem execAccept_outer {s t : State} (h : execAccept s = .next t) :
    t.outer = s.outer := by
  obtain rfl := Host.Outcome.next.inj h
  exact State.onFrame_outer _ _ _ s (fun p s => by simp)

theorem execScored_outer {s t : State} (h : execScored s = .next t) :
    t.outer = s.outer := by
  obtain rfl := Host.Outcome.next.inj h
  exact State.onFrame_outer _ _ _ s (fun p s => by simp)

theorem execRefuse_outer {s t : State} (h : execRefuse s = .next t) :
    t.outer = s.outer := by
  obtain rfl := Host.Outcome.next.inj h
  exact State.onFrame_outer _ _ _ s (fun p s => by simp)

theorem execReady_outer {s t : State} (h : execReady s = .next t) :
    t.outer = s.outer := by
  obtain rfl := Host.Outcome.next.inj h
  exact State.onFrame_outer _ _ _ s (fun p s => by simp)

theorem execMalformedFrame_outer {s t : State} (h : execMalformedFrame s = .next t) :
    t.outer = s.outer := by
  unfold execMalformedFrame at h; (try dsimp only at h); (repeat' split at h) <;> obtain rfl := Host.Outcome.next.inj h <;> first | rfl | simp

theorem execFrameDiscard_outer (i : RxInput) {s t : State} (h : execFrameDiscard i s = .next t) :
    t.outer = s.outer := by
  unfold execFrameDiscard at h; (try dsimp only at h); (repeat' split at h) <;> obtain rfl := Host.Outcome.next.inj h <;> first | rfl | simp

theorem execFrameGapTimeout_outer {s t : State} (h : execFrameGapTimeout s = .next t) :
    t.outer = s.outer := by
  unfold execFrameGapTimeout at h; (try dsimp only at h); (repeat' split at h) <;> obtain rfl := Host.Outcome.next.inj h <;> first | rfl | simp

theorem execAckTimeout_outer (cut : Idx) {s t : State} (h : execAckTimeout cut s = .next t) :
    t.outer = s.outer := by
  unfold execAckTimeout at h; (try dsimp only at h); (repeat' split at h) <;> obtain rfl := Host.Outcome.next.inj h <;> first | rfl | simp

theorem execIrqGapEnd_outer (line : Fin 4) {s t : State} (h : execIrqGapEnd line s = .next t) :
    t.outer = s.outer := by
  unfold execIrqGapEnd at h; (try dsimp only at h); (repeat' split at h) <;> obtain rfl := Host.Outcome.next.inj h <;> first | rfl | simp

theorem execFrameActionEnd_outer {s t : State} (h : execFrameActionEnd s = .next t) :
    t.outer = s.outer := by
  unfold execFrameActionEnd at h; (try dsimp only at h); (repeat' split at h) <;> obtain rfl := Host.Outcome.next.inj h <;> first | rfl | simp

theorem execCharacterComplete_outer (c : RxChar) {s t : State} (h : execCharacterComplete c s = .next t) :
    t.outer = s.outer := by
  obtain rfl := Host.Outcome.next.inj h
  simp

theorem execBreakTaken_outer {s t : State} (h : execBreakTaken s = .next t) :
    t.outer = s.outer := by
  obtain rfl := Host.Outcome.next.inj h
  simp

theorem execInFlightBurstsComplete_outer (q : Path) (ring : Fin 4) {s t : State} (h : execInFlightBurstsComplete ring s = .next t) :
    t.outer.atPorts q = s.outer.atPorts q := by
  obtain rfl := Host.Outcome.next.inj h
  split <;> simp

end Sys2Proof.Machine
end

