-- ==== Sys2Proof/Tests/Slice0.lean ====
section
/-! SUPPORT. The model's own tests: operands that are not well formed, numbers the spec works out, and for each
statement with hypotheses a state and operands that meet them, each clause at a boundary value. -/

namespace Sys2Proof.Tests

set_option maxRecDepth 20000

open Sys2Proof.Machine

/-! ## Helpers -/

/-- The next state of an outcome. -/
def after : Host.Outcome State Fault Refusal → State
  | .next s => s
  | .fault _ => State.reset
  | .refused _ => State.reset

def isNext : Host.Outcome State Fault Refusal → Bool
  | .next _ => true
  | .fault _ => false
  | .refused _ => false

theorem next_after {o : Host.Outcome State Fault Refusal} (h : isNext o = true) : o = .next (after o) := by
  cases o <;> simp_all [isNext, after]

def raw (l : List Nat) : List Byte := l.map (BitVec.ofNat 8)

/-- A number as two bytes. -/
def le2 (l : List Nat) : List Nat := l.flatMap (fun n => [n % 256, n / 256])

/-- Reset, with the binding state READY, E = 5, Dv = 16, pp = 60. -/
def ready : State :=
  { State.reset with
    cp := { State.reset.cp with binding := .ready },
    pos := { State.reset.pos with pitchE := 5, dv := 16, stallTimeout := 100, stallRunning := true },
    ing := { State.reset.ing with pp := 60, holdLimit := 20 } }

def bound : State := { State.reset with cp := { State.reset.cp with binding := .bound } }

/-- A command of one kind with a payload dispatched from slot 0. -/
def given (k : CmdKind) (p : List Nat) (s : State) : State :=
  { s with cp := { s.cp with
      dispatched := some { kind := k, first := 0, tag := 7, slots := k.slots, notify := true, payload := raw p } } }

/-- A write of some bytes at an address, classified. -/
def queued (a : Nat) (bs : List Nat) (s : State) : QueuedWrite :=
  let w : WriteBurst := { id := 1, addr := BitVec.ofNat 40 a, bytes := (raw bs).map some }
  { burst := w, cls := s.path.classify w.addr w.bytes.length }

/-- The write stands alone in the write queue. -/
def headed (w : QueuedWrite) (s : State) : State := { s with path := { s.path with writes := [w] } }

/-- The write at an address at the head of its own queue. -/
def at_ (a : Nat) (bs : List Nat) (s : State) : State := headed (queued a bs s) s

def window (i : Fin 16) (e : WinEntry) (s : State) : State :=
  { s with path := { s.path with window := s.path.window.set i e } }

def captureEntry : WinEntry :=
  { enable := true, translate := false, kind := .capture, camera := 0, base := 0x0120000000, mask := 0xFFFFF00000,
    target := 0 }

def liveEntry : WinEntry :=
  { enable := true, translate := false, kind := .live, camera := 0, base := 0x0130000000, mask := 0xFFFFFF8000,
    target := 0 }

/-- A PASS window that is translated to the guard of `ringed`. -/
def movedEntry : WinEntry :=
  { enable := true, translate := true, kind := .pass, camera := 0, base := 0x0140000000, mask := 0xFFFFFFF000,
    target := 0x0090000000 }

def camera : CamSettings :=
  { enable := true, width := 512, first := 0, last := 511, offset := 0, slots := 8, stride := 512 }

/-- READY with camera 0, its capture window as entry 1, a LIVE window as entry 2, and two triggered captures. -/
def filming : State :=
  let s := window 3 movedEntry (window 2 liveEntry (window 1 captureEntry ready))
  { s with ing := { s.ing with cams := s.ing.cams.set 0 { Camera.initial with cfg := camera }, captures := 2 } }

/-- Changes camera 0. -/
def onCam (f : Camera → Camera) (s : State) : State :=
  { s with ing := { s.ing with cams := s.ing.cams.set 0 (f s.ing.cams[0]) } }

/-- Ring `r` RUNNING at 0x9000_0000 with 16 records, one of them not consumed. -/
def ringed (r : Fin 4) (s : State) : State :=
  { s with rings := s.rings.set r { Ring.initial with
      state := .running, base := 0x90000000, capacity := 16, notify := 2, issue := 3, published := 3, written := 2,
      consumer := 1 } }

/-- Changes ring `r`. -/
def onRing (r : Fin 4) (f : Ring → Ring) (s : State) : State := { s with rings := s.rings.set r (f s.rings[r]) }

def inFlight (what : AccessFor) : InFlight := { serial := 7, what := what, addr := 0x90000040, bytes := [], len := 0 }

/-- One access in flight, numbered 7. -/
def flying (what : AccessFor) (s : State) : State :=
  { s with path := { s.path with down := [inFlight what], nextAccess := 8 } }

/-- A hold of the producer or of a capture write. -/
def holding (producer : Bool) (s : State) : State :=
  let h : Hold := { producer := producer, camera := 0, limit := 20, us := 20, serial := 5, consumers := [] }
  { s with path := { s.path with hold := some h } }

theorem given_given (k : CmdKind) (p : List Nat) (s : State) (h : s.cp.wait = none) : (given k p s).given k (raw p) :=
  ⟨h, _, rfl, rfl, rfl⟩

theorem headed_heads {k : HeadKind} {w : QueuedWrite} {s : State} (h : (headed w s).path.hold = none)
    (hk : (headed w s).headKind w = k) : (headed w s).heads k w :=
  ⟨h, ⟨[], rfl⟩, hk⟩

/-- While no ring is RUNNING there is no guard. -/
theorem noGuard {s : State} (w : QueuedWrite) (h : ∀ r : Fin 4, s.rings[r].state ≠ .running) (r : Fin 4) :
    ¬ s.hitsGuard w r :=
  fun ⟨_, hg, _⟩ => h r hg.1

/-- A write that enables no byte of the guard of the one RUNNING ring hits none. -/
theorem noHit {s : State} {w : QueuedWrite} (q : Fin 4) (h : ∀ r : Fin 4, r ≠ q → s.rings[r].state ≠ .running)
    (hw : w.cls.translated = false)
    (hg : ∀ p ∈ enabledAt w.burst.addr.toNat w.burst.bytes,
      ¬ (s.rings[q].base ≤ p.1 ∧ p.1 < s.rings[q].base + 4)
        ∧ ¬ (s.rings[q].base + 64 ≤ p.1 ∧ p.1 < s.rings[q].base + 64 + s.rings[q].capacity * recordSize q)) (r : Fin 4) :
    ¬ s.hitsGuard w r := by
  rintro ⟨x, ⟨hr, hx⟩, he⟩
  by_cases e : r = q
  · subst e
    rcases he with ⟨y, hy⟩ | ⟨ht, _⟩
    · exact hx.elim (hg _ hy).1 (hg _ hy).2
    · rw [hw] at ht; cases ht
  · exact h r e hr

/-! ## Operands that are not well formed -/

theorem test_empty_write_is_ill_formed :
    (Instr.upstreamWriteArrival { id := 0, addr := 0, bytes := [] }).wellFormed = false := by decide
theorem test_long_read_is_ill_formed :
    (Instr.upstreamReadArrival { id := 0, addr := 0, len := 257 }).wellFormed = false := by decide
theorem test_long_answer_is_ill_formed :
    (Instr.forwardedResponse 0 (List.replicate 257 0)).wellFormed = false := by decide
theorem test_short_slot_is_ill_formed : (Instr.slotTake (List.replicate 63 0)).wellFormed = false := by decide
theorem test_longest_burst_is_well_formed :
    (Instr.upstreamReadArrival { id := 0, addr := 0, len := 256 }).wellFormed = true := by decide

/-! ## Numbers that the spec works out -/

/-- 05: distances at lp = 80 µm. -/
theorem test_millimetres_to_lines : mmToLines 80 1830 = 22875 ∧ mmToLines 80 1605 = 20063 := by decide

/-- R22: the worked translation. -/
theorem test_translation :
    let e : WinEntry := { enable := true, translate := true, kind := .capture, camera := 2, base := 0x0120000000,
                          mask := 0xFFFFF00000, target := 0x0240000000 }
    WinEntry.hits 0x0120034A40 e = true ∧ e.translated 0x0120034A40 = 0x0240034A40 := by decide

/-- R52, R53: the pixels of the worked example at B = 46,080 and N = 896. -/
theorem test_threshold : Detect.initial.threshold { b := 46080, n := 896 } = 3584 := by decide

/-- R122: the sum of a frame's characters after the delimiter is 255. -/
theorem test_checksum :
    ((0x81 + 2 + 0x16 + 0 + (checksum 0x81 (raw [0x16, 0])).toNat) % 256) = 255 := by decide

/-- R32, 11.8: the state word's fields stand at offset 0 of page 0. -/
theorem test_live_page0 : ready.snapshot 0 4 = raw [2, 0, 0, 0] := by decide

/-- R119, R195: the last order and the last row of page 4, and the first row's shift count and presence bits. -/
theorem test_live_page4 :
    let o : Order := { id := 7, laneMask := 1, length := 9, requested := 1, grade := .a, priority := 0, fallback := none,
                       endCampaign := true, state := .held, made := 0, reserved := 0, remaining := 1, planned := 0x0102 }
    let r : Row := { num := 5, kind := .plate, slot := 1, start := 1, stop := 2, state := .cut, unsealed := true, shifts := 3,
                     lanes := [], leading := none, trailing := none, extremes := none }
    let s : State := { ready with plan := { ready.plan with orders := List.replicate 32 o, rows := List.replicate 64 r } }
    s.snapshot (0x4000 + 0x128 + 22 * 31 + 20) 2 = raw [2, 1] ∧ s.snapshot (0x4000 + 0x400 + 48 * 63) 7 = raw [5, 0, 0, 0, 0, 3, 15]
      := by decide +kernel

/-! ## The queue, the step, the invariants -/

def waiting (cs : List Instr) (s : State) : State := { s with pending := cs }

theorem test_queue_rest_met :
    (waiting [.ltrigPulseEnd, .detect] ready).pending = .ltrigPulseEnd :: [.detect]
      ∧ isNext (step (waiting [.ltrigPulseEnd, .detect] ready)) = true := by decide

theorem test_idle_met : ready.pending = [] := rfl

/-- R21, R17, R2: 32 writes wait, the time of day and the phase stand at their last values, and the clock advances. -/
def brim : State :=
  { filming with
    pending := [.timeOfDayAdvance 0],
    path := { filming.path with writes := List.replicate 32 (queued 0x1000 [1] filming) },
    pos := { filming.pos with tod := 86399999, phase := 15, deficit := 65535 },
    ing := { filming.ing with cols := [(0, { b := 1, n := 0 }), (4095, { b := 0, n := 1 })] } }

theorem test_ranges_met :
    isNext (step brim) = true ∧ brim.queuesBounded ∧ brim.clockInDay ∧ brim.countsInRange ∧ brim.colsCanonical
      ∧ brim.entryZero := by
  refine ⟨by decide, ?_, ?_, ?_, ?_, ?_⟩
  · unfold State.queuesBounded; decide
  · unfold State.clockInDay; decide
  · unfold State.countsInRange; decide
  · unfold State.colsCanonical; decide
  · unfold State.entryZero; decide

theorem test_tables_met :
    ringed 0 filming |>.tablesBounded := by unfold State.tablesBounded; decide

/-- R29: a capture write held at the head. -/
theorem test_queue_sound_met : (holding false (at_ 0x0120000000 [1] filming)).queueSound := by
  unfold State.queueSound
  refine ⟨fun _ => ⟨_, [], rfl, by decide⟩, by decide, ?_⟩
  rintro h ⟨⟩
  decide

theorem test_line_never_falls_met :
    let s := waiting [.encoderTransition true false]
      { ready with
        pos := { ready.pos with line := 1099511627774, phase := 15 },
        ing := { ready.ing with assembled := 1099511627774 } }
    (∀ k a b, s.pending.head? ≠ some (.powerOnReset k a b)) ∧ s.pending.head? ≠ some .unbind
      ∧ isNext (step s) = true ∧ (after (step s)).pos.line = 1099511627775 := by
  exact ⟨fun _ _ _ h => (by cases h), by decide, by decide, by decide +kernel⟩

/-- R26: a write beside the guard is forwarded while the ring is RUNNING. -/
theorem test_forwarded_beside_guard :
    let s := waiting [.writeAtHead] (at_ 0x90000008 [1] (ringed 0 ready))
    (s.path.hold.isSome = false ∧ s.path.writes.all (fun w => w.cls.down = w.burst.addr) = true)
      ∧ isNext (step s) = true ∧ (after (step s)).path.down.getLast?.map (·.what) = some (.fwdWrite 1)
      ∧ (after (step s)).rings[0].state = .running := by decide

/-! ## Position (01) and events (10) -/

def turned (a b : Bool) (deficit phase : Nat) (line : Nat) (s : State) : State :=
  { s with pos := { s.pos with pairA := a, pairB := b, deficit := deficit, phase := phase, line := line } }

theorem test_forward_count_met :
    grayNext (false, false) = (true, false) ∧ (turned false false 1 0 0 ready).pos.bLeads = false
      ∧ (turned false false 0 14 0 ready).pos.phase + 1 < (turned false false 0 14 0 ready).pos.dv
      ∧ (turned false false 0 15 1099511627775 ready).pos.phase + 1 = 16 ∧ ready.pos.dv = 16
      ∧ ready.cp.binding = .ready := by decide

theorem test_line_trigger_met :
    let s := turned false false 0 15 1099511627774 ready
    s.cp.binding = .ready ∧ s.pos.deficit = 0 ∧ s.pos.phase + 1 = s.pos.dv ∧ s.pos.line < 1099511627775
      ∧ s.pos.ltrig = none ∧ s.pos.broken = false ∧ s.pos.parked = false := by decide

theorem test_other_encoder_changes_met :
    grayNext (false, true) = (false, false) ∧ (turned false false 65535 0 0 ready).pos.deficit = 65535
      ∧ (turned false false 65534 0 0 ready).pos.deficit < 65535 ∧ (turned false false 0 0 0 ready).pos.deficit = 0
      ∧ State.reset.cp.binding ≠ .ready := by decide

theorem test_timers_met :
    let s : State := { ready with pos := { ready.pos with stallTimer := 100 } }
    s.cp.binding = .ready ∧ s.pos.stallRunning = true ∧ s.pos.stallTimeout ≤ s.pos.stallTimer
      ∧ s.pos.run = .stalled ∧ { s.pos with run := .running }.run = .running := by decide

theorem test_time_met : brim.pos.tod < 86400000 ∧ ready.pos.tod < 86400000 ∧ ready.pos.tod ≠ 86399999 := by decide

/-- R186: EVENT staging with 7 and with 8 records, and logged kinds. -/
theorem test_event_met :
    let r : EventRec := { kind := .memError, seq := 1, line := 0, day := 0, tod := 0, arg1 := 0, arg2 := 0 }
    let e : Staged := { record := .event r, issued := none }
    let s (n : Nat) := onRing 3 (fun g => { g with staging := List.replicate n e }) (ringed 3 ready)
    ({ ready.ev with log := 0x80000000 }.log.getLsbD EventKind.memError.num = true) ∧ ready.ev.log.getLsbD 0 = false
      ∧ (s 7).rings[eventRing].staging.length < 8 ∧ 8 ≤ (s 8).rings[eventRing].staging.length
      ∧ (s 7).rings[eventRing].state ≠ .unset ∧ ready.rings[eventRing].state = .unset := by decide

/-- R191: the acknowledgement of one of two kinds on a PULSED line. -/
theorem test_gap_met :
    let e : Events := { Events.initial with pending := 3, enable := 3, pulsed := Vector.replicate 4 true }
    let f (e : Events) : Events := { e with pending := 2 }
    let g (e : Events) : Events := { e with pending := 0 }
    (f e).pulsed[0] = true ∧ e.activeSet 0 ≠ [] ∧ (f e).activeSet 0 ≠ [] ∧ e.activeSet 0 ≠ (f e).activeSet 0
      ∧ (g e).activeSet 0 = [] ∧ (g e).activeSet 1 = [] ∧ (f Events.initial).pulsed[0] = false := by decide

/-! ## Commands (09) -/

/-- R181: a command of READY given in BOUND, one of BOUND given in UNBOUND, BIND given in BOUND. -/
theorem test_refused_states_met :
    (given .detect [] bound).given .detect (raw []) ∧ (given .setTime [] State.reset).given .setTime (raw [])
      ∧ (given .bind [] bound).given .bind (raw []) ∧ (given .unbind [] bound).given .unbind (raw [])
      ∧ bound.cp.binding ≠ .ready ∧ State.reset.cp.binding = .unbound ∧ bound.cp.binding ≠ .unbound :=
  ⟨given_given _ _ _ rfl, given_given _ _ _ rfl, given_given _ _ _ rfl, given_given _ _ _ rfl, by decide, by decide,
    by decide⟩

/-- R176: an answer where a slot still waits, and where none does. -/
theorem test_answer_met :
    let s := given .eventAck [] bound
    s.cp.dispatched.isSome ∧ s.cp.consumer = s.cp.known ∧ s.cp.chain = []
      ∧ ({ s.cp with known := 1 }).consumer ≠ ({ s.cp with known := 1 }).known := by decide

/-- R24: fifteen disabled PASS entries, with the hold limits 0 and 1. -/
def bindPayload (hold : Nat) : List Nat :=
  (List.replicate 15 (0 :: 3 :: List.replicate 16 0)).flatten ++ le2 [hold]

theorem test_bind_met :
    (given .bind (bindPayload 1) State.reset).given .bind (raw (bindPayload 1))
      ∧ bindCheck State.reset.path.window[0] (raw (bindPayload 0)) = some .range :=
  ⟨given_given _ _ _ rfl, by decide⟩

theorem test_bind_passes : bindCheck State.reset.path.window[0] (raw (bindPayload 1)) = none := by decide

/-- R5, R38: camera 0 with a window; E × Dv at its least. -/
def geoPayload (e dv : Nat) : List Nat :=
  [e, 0] ++ le2 [dv] ++ [1, 0] ++ le2 [20] ++
    (1 :: 0 :: le2 [512, 0, 511, 0, 4, 512] ++ [0, 0]) ++
    (List.replicate 7 (0 :: 0 :: le2 [512, 0, 511, 0, 4, 512] ++ [0, 0])).flatten

theorem test_geometry_met :
    (given .geometry (geoPayload 20 1) (window 1 captureEntry bound)).given .geometry (raw (geoPayload 20 1))
      ∧ geoCheck (window 1 captureEntry bound).path.window (raw (geoPayload 20 1)) = none
      ∧ geoCheck (window 1 captureEntry bound).path.window (raw (geoPayload 19 1)) = some .range
      ∧ (∀ i : Fin 2, filming.plan.slots[i] = .none) ∧ filming.plan.orders = [] ∧ filming.cp.binding = .ready :=
  ⟨given_given _ _ _ rfl, by decide, by decide, by decide, by decide, by decide⟩

/-- R60, R74, R141: parameters at their lowest values, and a value below. -/
theorem test_parameters_met :
    (detectOf (raw (le2 [16] ++ [1, 1, 16, 1] ++ le2 [0] ++ [1, 0, 0, 0, 1, 0] ++ le2 [64]))).ok ready.ing = true
      ∧ (detectOf (raw (le2 [15] ++ [1, 1, 16, 1] ++ le2 [0] ++ [1, 0, 0, 0, 1, 0] ++ le2 [64]))).ok ready.ing = false
      ∧ (classifyOf (raw ([100, 0, 0, 0, 17, 1] ++ le2 [1, 2, 3, 4, 5, 6, 7]))).ok = true
      ∧ (classifyOf (raw ([99, 0, 0, 0, 17, 1] ++ le2 [1, 2, 3, 4, 5, 6, 7]))).ok = false
      ∧ (given .detect [] ready).given .detect (raw []) ∧ (given .classify [] ready).given .classify (raw [])
      ∧ (given .gradeTable [] ready).given .gradeTable (raw []) :=
  ⟨by decide, by decide, by decide, by decide, given_given _ _ _ rfl, given_given _ _ _ rfl, given_given _ _ _ rfl⟩

theorem test_plan_and_events_met :
    planOk (raw [4, 0, 0, 0, 0, 0, 0, 0, 1, 0, 0, 0, 2, 0, 0, 0, 0x7F, 0x51, 1, 0]) = true ∧ planOk (raw [5]) = false
      ∧ (∃ i : Fin 4, 1 < byteAt (raw (List.replicate 35 0 ++ [2])) (0x20 + i))
      ∧ (∀ i : Fin 4, byteAt (raw (List.replicate 35 0 ++ [1])) (0x20 + i) ≤ 1)
      ∧ (given .shiftPlan [] bound).given .shiftPlan (raw []) ∧ (given .eventAck [] bound).given .eventAck (raw [])
      ∧ (given .eventSetup [] bound).given .eventSetup (raw []) :=
  ⟨by decide, by decide, ⟨3, by decide⟩, by decide, given_given _ _ _ rfl, given_given _ _ _ rfl, given_given _ _ _ rfl⟩

/-- R18, R165: the last time of a day, and one beyond it. -/
theorem test_clock_met :
    field (raw [0, 0, 0, 0, 0xFF, 0x5B, 0x26, 5]) 4 4 = 86399999
      ∧ field (raw [0, 0, 0, 0, 0, 0x5C, 0x26, 5]) 4 4 = 86400000
      ∧ (given .setTime [0, 0, 0, 0, 0xFF, 0x5B, 0x26, 5] bound).given .setTime (raw [0, 0, 0, 0, 0xFF, 0x5B, 0x26, 5])
      ∧ (given .shiftEnd [] bound).given .shiftEnd (raw []) ∧ bound.tally.reportInFlight = false
      ∧ bound.tally.slot = .empty :=
  ⟨by decide, by decide, given_given _ _ _ rfl, given_given _ _ _ rfl, by decide, by decide⟩

def report : Report := State.reset.buildReport .command

theorem test_deferred_close_met :
    ({ bound with tally := { bound.tally with slot := .inFlight report .accept } }).tally.reportInFlight = true :=
      by decide

theorem test_gantry_and_link_met :
    (given .gantry [1] ready).given .gantry (raw [1]) ∧ byteAt (raw [1]) 0 ≤ 1 ∧ 1 < byteAt (raw [2]) 0
      ∧ (given .linkSetup [0x80, 0x25, 0, 0, 13, 0, 0xFF] ready).given .linkSetup (raw [0x80, 0x25, 0, 0, 13, 0, 0xFF])
      ∧ (linkOf (raw [0x80, 0x25, 0, 0, 13, 0, 0xFF])).ok = true ∧ (linkOf (raw [0x7F, 0x25, 0, 0, 13])).ok = false
      ∧ ready.pos.parked = false ∧ ({ ready.pos with parked := true }).parked = true :=
  ⟨given_given _ _ _ rfl, by decide, by decide, given_given _ _ _ rfl, by decide, by decide, by decide, by decide⟩

/-- R15, R16: terminal 5 as OUT_GENERAL, a polarity of 2, terminal 6, and terminal 5 set. -/
theorem test_terminals_met :
    (given .terminalSetup [5, 5, 1, 1] bound).given .terminalSetup (raw [5, 5, 1, 1])
      ∧ byteAt (raw [5, 5, 1, 1]) 0 = (5 : Fin 6).val ∧ byteAt (raw [5, 5, 1, 1]) 1 = TermFn.outGeneral.code
      ∧ byteAt (raw [5, 5, 1, 1]) 2 ≤ 1 ∧ bound.pos.fnFree 5 .outGeneral = true ∧ 1 < byteAt (raw [5, 5, 2]) 2
      ∧ 6 ≤ byteAt (raw [6]) 0 ∧ 8 ≤ byteAt (raw [0, 8]) 1
      ∧ (given .terminalSet [5, 1] bound).given .terminalSet (raw [5, 1]) ∧ bound.pos.terms[5].fn ≠ .outGeneral
      ∧ ({ bound.pos.terms[5] with fn := .outGeneral }).fn = .outGeneral :=
  ⟨given_given _ _ _ rfl, by decide, by decide, by decide, by decide, by decide, by decide, by decide,
    given_given _ _ _ rfl, by decide, by decide⟩

/-! ## The memory path (02) -/

/-- R21, R22: bursts that end at a page's end and one byte beyond it; addresses at the ends of a window. -/
theorem test_bursts_met :
    (0xFF0 : Nat) % 4096 + 16 ≤ 4096 ∧ (4096 : Nat) < 0xFF0 % 4096 + 17
      ∧ WinEntry.hits 0x012FFFFFFF captureEntry = false ∧ WinEntry.hits 0x01200FFFFF captureEntry = true
      ∧ (filming.path.classify 0x01200FFFFF 1).kind = .capture ∧ (filming.path.classify 0x0120100000 1).kind = .pass
      ∧ (filming.path.classify 0x0140000FFF 1).down = 0x0090000FFF := by decide

theorem test_plain_write_met :
    (headed (queued 0xFFF [1, 2] ready) ready).heads .plain (queued 0xFFF [1, 2] ready)
      ∧ (queued 0xFFF [1, 2] ready).cls.crossing = true
      ∧ (at_ 0xFFE [1, 2] ready).heads .plain (queued 0xFFE [1, 2] ready)
      ∧ (queued 0xFFE [1, 2] ready).cls.crossing = false
      ∧ ∀ r, ¬ (at_ 0xFFE [1, 2] ready).hitsGuard (queued 0xFFE [1, 2] ready) r :=
  ⟨headed_heads rfl (by decide), by decide, headed_heads rfl (by decide), by decide, noGuard _ (by decide)⟩

/-- R27: a write to the consumer word of a RUNNING ring that hits no guard: 2 lies between consumer and producer
written, 3 does not. -/
theorem test_consumer_write_met :
    let s := ringed 0 ready
    let w := queued 0x90000004 [2, 0, 0, 0] s
    (headed w s).heads .consumer w ∧ w.cls.crossing = false ∧ (∀ r, ¬ (headed w s).hitsGuard w r)
      ∧ (2#16 - 1#16).toNat ≤ ((headed w s).rings[0].written - (headed w s).rings[0].consumer).toNat
      ∧ ¬ (3#16 - 1#16).toNat ≤ ((headed w s).rings[0].written - (headed w s).rings[0].consumer).toNat :=
  ⟨headed_heads rfl (by decide), by decide, noHit 0 (by decide) (by decide) (by decide), by decide, by decide⟩

theorem test_writes_consumer_met :
    let s := ringed 0 ready
    (s.writesConsumer (queued 0x90000007 [0] s) 0) :=
  ⟨rfl, 0x90000007, by decide, by decide, 0, by decide⟩

/-- R25, R26: the guard's first and last bytes, and its first byte under a translated address. -/
theorem test_guard_met :
    let s := ringed 0 filming
    s.hitsGuard (queued 0x90000003 [1] s) 0 ∧ s.hitsGuard (queued 0x90000040 [1] s) 0
      ∧ s.hitsGuard (queued 0x9000043F [1] s) 0 ∧ s.hitsGuard (queued 0x0140000000 [1] s) 0
      ∧ (at_ 0x9000043F [1] s).heads .plain (queued 0x9000043F [1] s)
      ∧ (∀ q : Fin 4, q < 0 → ¬ s.hitsGuard (queued 0x9000043F [1] s) q) :=
  ⟨⟨0x90000003, ⟨rfl, by decide⟩, .inl ⟨1, by decide⟩⟩, ⟨0x90000040, ⟨rfl, by decide⟩, .inl ⟨1, by decide⟩⟩,
    ⟨0x9000043F, ⟨rfl, by decide⟩, .inl ⟨1, by decide⟩⟩, ⟨0x90000000, ⟨rfl, by decide⟩, .inr ⟨by decide, 1, by decide⟩⟩,
    headed_heads rfl (by decide), fun q h => absurd h (by omega)⟩

theorem test_guard_at_expiry_met :
    let s := holding true (at_ 0x90000003 [1] (ringed 0 filming))
    s.path.hold.map (·.producer) = some true
      ∧ s.path.writes = queued 0x90000003 [1] (ringed 0 filming) :: [] := by decide

theorem test_live_write_met :
    (at_ 0x0130007FFF [1] filming).heads .live (queued 0x0130007FFF [1] filming)
      ∧ ∀ r, ¬ (at_ 0x0130007FFF [1] filming).hitsGuard (queued 0x0130007FFF [1] filming) r :=
  ⟨headed_heads rfl (by decide), noGuard _ (by decide)⟩

/-- R31, R175: 0, 1, 128 and 129 slots announced, and FAULT. -/
theorem test_producer_write_met :
    let s := at_ 0x80000000 [128, 0, 0, 0] bound
    let known (n : Nat) : Nat := (BitVec.ofNat 16 (wordAfter bound.cp.known.toNat 0x80000000
      (queued 0x80000000 [n, 0, 0, 0] bound).burst.bytes bound.controlBase.toNat) - bound.cp.consumer).toNat
    s.heads .producer (queued 0x80000000 [128, 0, 0, 0] bound)
      ∧ s.isFaultAck (queued 0x80000000 [128, 0, 0, 0] bound) = false
      ∧ (∀ r, ¬ s.hitsGuard (queued 0x80000000 [128, 0, 0, 0] bound) r)
      ∧ known 0 = 0 ∧ known 1 = 1 ∧ known 128 = 128 ∧ known 129 = 129
      ∧ bound.cp.stage ≠ .fault ∧ ({ bound.cp with stage := .fault }).stage = .fault :=
  ⟨headed_heads rfl (by decide), by decide, noGuard _ (by decide), by decide, by decide, by decide, by decide,
    by decide,
    by decide⟩

/-- R180: the fault-ack word alone, and both words in one write; 128 and 129 slots announced. -/
theorem test_fault_ack_met :
    let s (n : Idx) : State := { bound with cp := { bound.cp with stage := .fault, known := n } }
    let both := [1, 0, 0, 0, 0, 0, 0, 0, 1, 0, 0, 0]
    (at_ 0x80000008 [1] (s 128)).heads .faultAck (queued 0x80000008 [1] (s 128))
      ∧ (at_ 0x80000000 both (s 128)).heads .producer (queued 0x80000000 both (s 128))
      ∧ (s 128).isFaultAck (queued 0x80000000 both (s 128)) = true
      ∧ ((s 128).cp.known - (s 128).cp.consumer).toNat ≤ 128 ∧ 128 < ((s 129).cp.known - (s 129).cp.consumer).toNat
      ∧ ∀ r, ¬ (at_ 0x80000008 [1] (s 128)).hitsGuard (queued 0x80000008 [1] (s 128)) r :=
  ⟨headed_heads rfl (by decide), headed_heads rfl (by decide), by decide, by decide, by decide, noGuard _ (by decide)⟩

/-- R30, R41 to R44: a write that opens slot 0 (TAP), one behind the ring (PASS), one while both buffers classify
(WAIT). -/
theorem test_capture_write_met :
    let w := queued 0x0120000000 [1] filming
    let off := queued 0x0120001000 [1] filming
    let idle : LineResult := { line := 1, runs := [], flagged := 0, learning := false, flood := false,
                               overflow := false, leftCand := none, rightCand := none }
    let busy := onCam (fun c => { c with bufA := .classifying 0 idle, bufB := .classifying 1 idle }) filming
    (headed w filming).heads .capture w ∧ (∀ r, ¬ (headed w filming).hitsGuard w r)
      ∧ (filming.offer 0 w.cls.offset w.burst.bytes).2 = .tap
      ∧ (filming.offer 0 off.cls.offset off.burst.bytes).2 = .pass
      ∧ (busy.offer 0 w.cls.offset w.burst.bytes).2 = .wait ∧ (busy.offer 0 w.cls.offset w.burst.bytes).1 = busy :=
  ⟨headed_heads rfl (by decide), noGuard _ (by decide), by decide, by decide, by decide, by decide⟩

theorem test_hold_expiry_met :
    let c := queued 0x0120000000 [1] filming
    let p := queued 0x0080000000 [1] filming
    (∃ h, (holding false (headed c filming)).path.hold = some h ∧ h.producer = false)
      ∧ (holding false (headed c filming)).path.writes = c :: []
      ∧ (∀ r, ¬ (holding false (headed c filming)).hitsGuard c r)
      ∧ (∃ h, (holding true (headed p filming)).path.hold = some h ∧ h.producer = true)
      ∧ (∀ r, ¬ (holding true (headed p filming)).hitsGuard p r) :=
  ⟨⟨_, rfl, rfl⟩, rfl, noGuard _ (by decide), ⟨_, rfl, rfl⟩, noGuard _ (by decide)⟩

/-- R41 to R44: offsets at the ring's last byte and beyond it, at a slot's edge, and in the discard slot. -/
theorem test_offer_met :
    let b : List (Option Byte) := [some 1]
    let o : OpenLine := { slot := 1, capture := 1, bufB := false }
    (enabledAt 4095 b).head? = some (4095, 1) ∧ (enabledAt 4095 b).getLast? = some (4095, 1)
      ∧ enabledAt 4095 [none] = ([] : List (Nat × Byte)) ∧ (4095 : Nat) < 8 * 512 ∧ (8 : Nat) * 512 ≤ 4096
      ∧ (511 / 512 : Nat) ≠ 512 / 512 ∧ filming.ing.cams[0].openLine = none ∧ filming.ing.cams[0].cfg.enable = true
      ∧ (onCam (fun c => { c with openLine := some o }) filming).ing.cams[0].openLine = some o
      ∧ (onCam (fun c => { c with discard := some 1 }) filming).ing.cams[0].discard = some 1
      ∧ (1 : Nat) < filming.ing.captures ∧ filming.ing.captures ≤ 2 := by decide

def readAt (a len : Nat) (s : State) : QueuedRead :=
  { burst := { id := 1, addr := BitVec.ofNat 40 a, len := len }, cls := s.path.classify (BitVec.ofNat 40 a) len,
    snapshot := [] }

theorem test_reads_met :
    let s (r : QueuedRead) : State := { filming with path := { filming.path with reads := [r, r] } }
    (s (readAt 0xFF0 17 filming)).path.reads[0]? = some (readAt 0xFF0 17 filming)
      ∧ (readAt 0xFF0 17 filming).cls.crossing = true ∧ (readAt 0xFF0 16 filming).cls.crossing = false
      ∧ (readAt 0x0130007FFF 1 filming).cls.kind = .live ∧ (readAt 0xFF0 16 filming).cls.kind ≠ .live
      ∧ (∃ q ∈ (s (readAt 0xFF0 16 filming)).path.reads.take 1, q.burst.id = 1)
      ∧ (flying (.fwdRead 1) ready).inFlight 7 = some (inFlight (.fwdRead 1))
      ∧ (flying (.fwdWrite 1) ready).inFlight 7 = some (inFlight (.fwdWrite 1))
      ∧ (flying (.posted 1) ready).inFlight 7 = some (inFlight (.posted 1)) := by decide

/-- R29: a write that enables the last byte of a read, and one that enables the byte after it. -/
theorem test_overlap_met :
    enables 0x100F [some 1] 0x100F ∧ (0x1000 : Nat) ≤ 0x100F ∧ 0x100F < 0x1000 + 16 ∧ ¬ (0x1010 : Nat) < 0x1000 + 16 :=
  ⟨⟨1, by decide⟩, by decide, by decide, by decide⟩

/-! ## Memory errors and the rings (02, 09) -/

/-- R35: each kind of access in flight, and the slot that is due. -/
theorem test_errors_met :
    let found (what : AccessFor) : Bool := (flying what ready).inFlight (inFlight what).serial == some (inFlight what)
    (found (.fwdRead 1) && found (.fwdWrite 1) && found (.posted 1) && found (.record 3 65535 .live)
        && found (.record 0 0 .stopped) && found (.record 0 0 .discarded) && found (.prodWord 3 65535 .live)
        && found (.prodWord 0 0 .stopped) && found (.prodWord 0 0 .discarded) && found (.result 0)
        && found (.ringHeader 3) && found (.header .initial) && found (.header (.writeBack (some 5)))
        && found (.header .faultAck)) = true
      ∧ (flying (.header .initial) { bound with cp := { bound.cp with known := 128 } }).slotDue = true
      ∧ (flying (.header .initial) { bound with cp := { bound.cp with known := 1 } }).slotDue = true := by decide

def staged (kind : EventKind) (issued : Option Idx) : Staged :=
  { record := .event { kind := kind, seq := 1, line := 0, day := 0, tod := 0, arg1 := 0, arg2 := 0 }, issued := issued }

/-- R34: one place of room and none; a staged record behind an issued one. -/
theorem test_issue_met :
    let l := [staged .memError (some 2), staged .mapFull none]
    let s := onRing 3 (fun g => { g with staging := l }) (ringed 3 ready)
    let full := onRing 3 (fun g => { g with issue := 16 }) (ringed 3 ready)
    let last := onRing 3 (fun g => { g with issue := 15 }) (ringed 3 ready)
    s.rings[3].state = .running ∧ s.rings[3].staging = [staged .memError (some 2)] ++ staged .mapFull none :: []
      ∧ (∀ x ∈ [staged .memError (some 2)], x.issued ≠ none) ∧ (staged .mapFull none).issued = none
      ∧ (last.rings[3].issue - last.rings[3].consumer).toNat < last.rings[3].capacity - 1
      ∧ full.rings[3].capacity - 1 ≤ (full.rings[3].issue - full.rings[3].consumer).toNat := by decide

theorem test_report_issue_met :
    let s : State := { ringed 2 ready with tally := { ready.tally with slot := .waiting report } }
    s.rings[reportRing].state = .running ∧ s.tally.slot = .waiting report
      ∧ (s.rings[reportRing].issue - s.rings[reportRing].consumer).toNat < s.rings[reportRing].capacity - 1 := by decide

theorem test_accepted_met :
    let s := flying (.record 3 3 .live) (ringed 3 ready)
    (∃ a ∈ s.path.down, a.what = .record 3 3 .live) ∧ (3 : Idx) = s.rings[3].published ∧ s.rings[3].accepted = []
      ∧ (4 : Idx) ≠ s.rings[3].published ∧ s.rings[3].published ≠ s.rings[3].written
      ∧ (∀ a ∈ s.path.down, ∀ v l, a.what ≠ .prodWord 3 v l) := by
  refine ⟨⟨_, List.mem_singleton_self _, rfl⟩, by decide, by decide, by decide, by decide, ?_⟩
  intro a h v l
  obtain rfl := List.mem_singleton.mp h
  nofun

/-- R192: the unconsumed count goes from 1 to 2 = the notify count, and stays at 1. -/
theorem test_producer_answer_met :
    let s (v : Idx) := flying (.prodWord 3 v .live) (ringed 3 ready)
    (∃ a ∈ (s 3).path.down, a.what = .prodWord 3 3 .live)
      ∧ (∀ a ∈ (s 3).path.down, ∀ u, a.what = .prodWord 3 u .live → u = 3)
      ∧ (s 3).rings[3].notify ≤ (3#16 - (s 3).rings[3].consumer).toNat
      ∧ ((s 3).rings[3].written - (s 3).rings[3].consumer).toNat < (s 3).rings[3].notify
      ∧ ¬ (s 2).rings[3].notify ≤ (2#16 - (s 2).rings[3].consumer).toNat := by
  refine ⟨⟨_, List.mem_singleton_self _, rfl⟩, ?_, by decide, by decide, by decide⟩
  intro a h u e
  obtain rfl := List.mem_singleton.mp h
  cases e
  rfl

theorem test_report_bursts_met :
    let s (f : ReportFate) : State :=
      { flying (.record 2 3 .live) (ringed 2 ready) with tally := { ready.tally with slot := .inFlight report f } }
    (s .accept).tally.slot = .inFlight report .accept
      ∧ (∃ a ∈ (s .accept).path.down, a.what = .record reportRing 3 .live)
      ∧ (∀ a ∈ (s .accept).path.down, ∀ j, a.what = .record reportRing j .live → j = 3)
      ∧ (s .accept).tally.deferred = none ∧ (s .wait).tally.slot = .inFlight report .wait
      ∧ (s .drop).tally.slot = .inFlight report .drop
      ∧ ({ (s .accept).tally with deferred := some .terminal }).deferred = some .terminal := by
  refine ⟨rfl, ⟨_, List.mem_singleton_self _, rfl⟩, ?_, rfl, rfl, rfl, rfl⟩
  intro a h u e
  obtain rfl := List.mem_singleton.mp h
  cases e
  rfl

/-- R184: ring 0 with 16 records; a capacity that is no power of two; a ring over another; ring 4. -/
def setupPayload (r base capacity : Nat) : List Nat :=
  [r, 0, 0, 0, base % 256, base / 256 % 256, base / 65536 % 256, base / 16777216, 0, 0, 0, 0] ++ le2 [capacity, 0, 1]

theorem test_ring_setup_met :
    let ok := raw (setupPayload 0 0x91000000 16)
    (given .ringSetup (setupPayload 0 0x91000000 16) bound).given .ringSetup ok ∧ byteAt ok 0 = (0 : Fin 4).val
      ∧ setupRelations 0 ok = true ∧ setupRelations 0 (raw (setupPayload 0 0x91000000 15)) = false
      ∧ bound.setupFree 0 (field ok 4 5) (field ok 4 5 + 64 + field ok 12 4 * recordSize 0) = true
      ∧ (ringed 1 bound).setupFree 0 0x90000000 0x90000440 = false ∧ 4 ≤ byteAt (raw [4]) 0
      ∧ (ringed 0 bound).rings[0].state = .running ∧ bound.rings[0].state ≠ .running :=
  ⟨given_given _ _ _ rfl, by decide, by decide, by decide, by decide, by decide, by decide, by decide, by decide⟩

theorem test_ring_reset_met :
    (given .ringReset [2] bound).given .ringReset (raw [2]) ∧ byteAt (raw [2]) 0 = (2 : Fin 4).val
      ∧ bound.rings[2].state = .unset ∧ (ringed 2 bound).rings[2].state ≠ .unset :=
  ⟨given_given _ _ _ rfl, by decide, by decide, by decide⟩

theorem test_ring_header_met :
    let s := given .ringSetup [2] bound
    let t : State := { s with cp := { s.cp with wait := some (.header 2) } }
    t.cp.wait = some (.header 2) ∧ t.cp.dispatched.isSome := by decide

/-! ## Slots (09) -/

def gathering (n : Nat) : State :=
  let slot : ChainSlot := { index := 0, kind := 1, tag := 7, notify := false, payload := [] }
  { bound with
    path := { bound.path with down := [] },
    cp := { bound.cp with stage := .gather, chain := List.replicate n slot, known := 2 } }

/-- R175, R178: a slot is due in IDLE, and in GATHER behind 7 and 8 slots. -/
theorem test_slot_met :
    (List.replicate 64 (0 : Byte)).length = 64 ∧ (gathering 7).slotDue = true ∧ (gathering 8).slotDue = true
      ∧ (gathering 7).cp.chain.length < 8 ∧ 8 ≤ (gathering 8).cp.chain.length ∧ (gathering 8).cp.stage = .gather
      ∧ ({ gathering 0 with cp := { (gathering 0).cp with stage := .idle } }).slotDue = true
      ∧ (gathering 0).cp.consumer + 1 ≠ (gathering 0).cp.known
      ∧ ({ (gathering 0).cp with known := 1 }).consumer + 1 = ({ (gathering 0).cp with known := 1 }).known
      ∧ CmdKind.ofCode 0x18 = none ∧ CmdKind.ofCode 0x17 = some .terminalSet ∧ CmdKind.bind.slots ≠ 5 := by
  refine ⟨List.length_replicate, ?_⟩
  decide

/-- R177: a write-back in flight that releases the hold numbered 5, and one that releases none. -/
theorem test_write_back_met :
    let w := queued 0x80000000 [1] ready
    let s := holding true (headed w (flying (.header (.writeBack (some 5))) ready))
    s.headerInFlight = some (7, .writeBack (some 5))
      ∧ (∃ k, s.path.hold = some k ∧ k.producer = true ∧ some 5 = some k.serial) ∧ s.path.writes = w :: []
      ∧ (∀ r, ¬ s.hitsGuard w r) ∧ (flying (.header .initial) ready).headerInFlight = some (7, .initial)
      ∧ (flying (.header .faultAck) ready).headerInFlight = some (7, .faultAck)
      ∧ (flying (.header (.writeBack none)) ready).headerInFlight = some (7, .writeBack none)
      ∧ (flying (.header (.writeBack none)) ready).path.hold = none :=
  ⟨by decide, ⟨_, rfl, rfl, rfl⟩, rfl, noGuard _ (by decide), by decide, by decide, by decide, by decide⟩

/-! ## Lines, campaigns, orders, grades (03, 05, 07) -/

def idleLine : LineResult :=
  { line := 1, runs := [], flagged := 0, learning := false, flood := false, overflow := false, leftCand := none,
    rightCand := none }

def pulse (st : CamStatus) : Pulse := { line := 1, capture := some 0, status := (Vector.replicate 8 .off).set 0 st }

theorem test_classification_met :
    let s := onCam (fun c => { c with bufB := .classifying 0 idleLine }) filming
    let with_ (st : CamStatus) : State := { s with ing := { s.ing with pulses := [pulse st] } }
    s.ing.cams[0].buf true = .classifying 0 idleLine ∧ s.path.hold = none
      ∧ (∀ p ∈ (with_ .lost).ing.pulses, p.capture = some 0 → p.status[(0 : Fin 8)] ≠ .pending)
      ∧ (∃ p ∈ (with_ .pending).ing.pulses, p.capture = some 0 ∧ p.status[(0 : Fin 8)] = .pending)
      ∧ (queued 0x0120000000 [1] filming).cls.cam = 0 := by decide

theorem test_not_classifying_met : ∀ q r, filming.ing.cams[0].buf true ≠ .classifying q r := by
  intro q r h
  have : Buf.free = .classifying q r := h
  cases this

/-- R52, R53: the thresholds 65,280 and above; a pixel at the threshold and one beyond it; a camera at START. -/
theorem test_pixel_met :
    let d : Detect := { Detect.initial with k := 255 }
    d.threshold { b := 0, n := 4096 } = 65280 ∧ 65280 < d.threshold { b := 0, n := 4097 }
      ∧ Detect.initial.threshold { b := 1536, n := 0 } = 1536 ∧ ¬ 256 * 0 + 1536 < 1536 ∧ 256 * 0 + 1536 < 1537
      ∧ ({ Camera.initial with learn := .start }).learn = .start := by decide

def blob : Blob :=
  { num := 1, carried := false, first := 10, last := 12, c0 := 5, c1 := 9, dark := 3, bright := 1, peak := 40, r0 := 5,
    r1 := 9, taken := none, flags := { forced := false, continued := false, seam := false, overflow := false } }

def flaw (n : Nat) : Flaw := measure ready.blobs.params 80 60 blob n false 0 0

/-- R76, R78, R84: retired at its creation, and not; the map with 4,095 and with 4,096 flaws; FLAW staging unset, with 7
and with 8 records. -/
theorem test_blob_met :
    (∀ f ∈ ready.map.flaws, f.num ≠ ready.map.nextFlaw) ∧ ready.map.retire = .all ∧ blob.last + 1 ≤ 13
      ∧ ¬ blob.last + 1 ≤ 12 ∧ ready.rings[flawRing].state = .unset
      ∧ (ringed 0 ready).rings[flawRing].state ≠ .unset := by
  decide

theorem test_full_map_met :
    (List.replicate 4095 (flaw 2)).length < 4096 ∧ 4096 ≤ (List.replicate 4096 (flaw 2)).length
      ∧ (List.replicate 7 (staged .memError none)).length < 8
      ∧ 8 ≤ (List.replicate 8 (staged .memError none)).length := by
  simp only [List.length_replicate]; decide

theorem test_span_met :
    spansOrdered [{ kind := .lost, start := 1, stop := 3 }, { kind := .parked, start := 3, stop := 4 }]
      ∧ ({ ready.map with retire := .none }).retire = .none := by
  unfold spansOrdered
  exact ⟨by decide, rfl⟩

/-- R90: one lane, the distances at their least. -/
def campPayload (tolerance : Nat) : List Nat :=
  [1, 0, 3, 0] ++ le2 [0, 100] ++ List.replicate 12 0
    ++ le2 [2000, 200, 100, 50, 0, 0, 1000, 200, tolerance, 100, 0]

theorem test_campaign_met :
    (given .campaignBegin (campPayload 1) ready).given .campaignBegin (raw (campPayload 1))
      ∧ campCheck ready.lp (raw (campPayload 1)) = none ∧ campCheck ready.lp (raw (campPayload 0)) = some .range
      ∧ (∀ i : Fin 2, ready.plan.slots[i] = .none) ∧ (given .campaignEnd [] ready).given .campaignEnd (raw []) :=
  ⟨given_given _ _ _ rfl, by decide, by decide, by decide, given_given _ _ _ rfl⟩

def camp : Campaign := campaignFrom 80 (raw (campPayload 1))

/-- READY with the campaign ACTIVE in slot 1, DRAINING in slot 0, and rows of the list. -/
def planned (rows : List Row) : State :=
  { ready with plan := { ready.plan with slots := #v[.draining camp, .active camp], rows := rows } }

def lanePlate : LanePlate := { order := some 9, provisional := some .a, reassigned := false, unsealed := false }

def row (kind : RowKind) (state : RowState) : Row :=
  { num := 1, kind := kind, slot := 1, start := 100, stop := 2600, state := state, unsealed := false, shifts := 0,
    lanes := [lanePlate], leading := none, trailing := none, extremes := none }

theorem test_campaign_end_met :
    (planned []).plan.slots[1] = .active camp ∧ (∀ i : Fin 2, (planned []).plan.slots[i] ≠ .none)
      ∧ (∃ r ∈ (planned [row .plate .committed]).plan.rows, r.slot = 1)
      ∧ (∀ r ∈ (planned []).plan.rows, r.slot ≠ 1) := by decide

theorem test_one_active_met : (planned []).oneActive := by
  intro c d h
  have : CampSlot.draining camp = .active c := h.1
  cases this

/-- R112: a PLANNED row one line before its commit line and at it. -/
theorem test_commit_met :
    let s := planned [row .plate .planned]
    let stop := 2600 + camp.commitOffset
    s.plan.slots[(row .plate .planned).slot].campaign = some camp
      ∧ s.plan.rows.find? (fun x => x.state = .planned || x.state = .sealed) = some (row .plate .planned)
      ∧ ({ s.pos with line := stop - 1 }).line < (row .plate .planned).stop + camp.commitOffset
      ∧ (row .plate .planned).stop + camp.commitOffset ≤ ({ s.pos with line := stop }).line
      ∧ s.link.cuts.length < 16 ∧ s.link.overflow = false := by decide

def order (st : OrderState) (reserved : Nat) : Order :=
  { orderFrom 80 (raw (le2 [9] ++ [1, 0] ++ le2 [200, 1])) with state := st, reserved := reserved }

/-- R95 to R97: an order that enters an empty book, one of length 199 mm, and each state of an order. -/
theorem test_orders_met :
    let p (mm : Nat) : List Nat := le2 [9] ++ [1, 0] ++ le2 [mm, 1]
    let book (o : Order) : State := { ready with plan := { ready.plan with orders := [o] } }
    (given .orderAdd (p 200) ready).given .orderAdd (raw (p 200))
      ∧ orderCheck ready.lp ready.plan (raw (p 200)) = none ∧ orderCheck ready.lp ready.plan (raw (p 199)) = some .range
      ∧ findOrder 9 ready.plan.orders = none ∧ findOrder 9 (book (order .active 0)).plan.orders = some (order .active 0)
      ∧ findOrder 9 (book (order .held 1)).plan.orders = some (order .held 1)
      ∧ findOrder 9 (book (order .done 1)).plan.orders = some (order .done 1)
      ∧ findOrder 9 (book (order .cancelled 0)).plan.orders = some (order .cancelled 0)
      ∧ (given .orderHold [9, 0] ready).given .orderHold (raw [9, 0]) ∧ field (raw [9, 0]) 0 2 = 9
      ∧ (given .orderRelease [9, 0] ready).given .orderRelease (raw [9, 0])
      ∧ (given .orderCancel [9, 0] ready).given .orderCancel (raw [9, 0]) :=
  ⟨given_given _ _ _ rfl, by decide, by decide, by decide, by decide, by decide, by decide, by decide,
    given_given _ _ _ rfl, by decide, given_given _ _ _ rfl, given_given _ _ _ rfl⟩

/-- R152: a plate row and a cullet row that wait, PLATE staging with 15 and with 16 records. -/
theorem test_final_grading_met :
    let s : State := { ringed 1 (planned [row .plate .final]) with
      grader := { ready.grader with waiting := some { row := 1, need := 1, counted := false } } }
    let n (k : Nat) := onRing 1 (fun g => { g with staging := List.replicate k (staged .memError none) }) s
    s.grader.waiting = some { row := 1, need := 1, counted := false }
      ∧ s.plan.rows.find? (fun r => r.num = 1) = some (row .plate .final)
      ∧ s.plan.slots[(row .plate .final).slot].campaign = some camp
      ∧ (n 15).rings[plateRing].staging.length + 1 ≤ 16 ∧ ¬ (n 16).rings[plateRing].staging.length + 1 ≤ 16
      ∧ s.rings[plateRing].state ≠ .unset ∧ (row .head .final).kind ≠ .plate := by decide

/-- R147: empty or fatal plates, and scores at the three limits and above. -/
theorem test_grade_met :
    let t : GradeTable := { GradeTable.initial with ta := 1, tb := 2, tc := 3 }
    t.computed true 0 0 = .reject ∧ t.computed false 1 0 = .reject ∧ t.computed false 0 1 = .a
      ∧ t.computed false 0 2 = .b ∧ t.computed false 0 3 = .c ∧ t.computed false 0 4 = .reject := by decide

/-- R144 to R150: a flaw that is attributed, in the core, and fatal; a lane that an edge cuts short; an empty
rectangle. -/
theorem test_plate_grade_met :
    let r : Rect := rectOf 80 60 camp { first := 5, last := 9 } 10 13
    let t : GradeTable := { GradeTable.initial with fatal := BitVec.allOnes 40 }
    r.start < r.stop ∧ (flaw 1).first < r.stop ∧ r.start ≤ (flaw 1).last ∧ (flaw 1).c0 ≤ r.lane.last
      ∧ r.lane.first ≤ (flaw 1).c1 ∧ r.inCore (flaw 1) = true
      ∧ t.fatal.getLsbD ((flaw 1).cls.code * 8 + (flaw 1).bin) = true ∧ (flaw 1).bin < 8
      ∧ shortLane r.lane (some { left := 6, right := 9 }) = true
      ∧ shortLane r.lane (some { left := 5, right := 9 }) = false
      ∧ (rectOf 80 60 camp { first := 5, last := 9 } 13 13).stop ≤ 13 := by decide

/-! ## The Cut Link (06) -/

def cut (st : CutStatus) (repeats : Nat) : Cut :=
  { num := 5, line := 100, plateEnd := true, gc := 25000, scoreLate := 1250, tolerance := 12, status := st,
    repeats := repeats, timer := some { count := 20, timeout := 20 }, actual := 0, offset := false, cause := none,
    reason := 0 }

/-- The link ON with a cut of the list, number 6 next. -/
def linked (c : Cut) : State :=
  { ready with link := { ready.link with
      on := true, settings := { rate := 9600, breakLen := 13, ackTimeout := 20, repeats := 1 },
      cuts := [c], next := 6 } }

/-- A frame that is acted on, its changes still to be made. -/
def acting (kind : Nat) (p : List Nat) (s : State) : State :=
  { s with link := { s.link with
      acting := some { kind := BitVec.ofNat 8 kind, payload := raw p, done := false } } }

def onLink (f : Link → Link) (s : State) : State := { s with link := f s.link }

theorem test_send_met :
    let f : TxFrame := .cut 5 100 true false
    let st (f : TxFrame) : ShiftStage := { frame := f, rate := 9600, breakLen := 13, wire := [] }
    (onLink (fun l => { l with txq := [f] }) (linked (cut .queued 0))).link.txq = f :: []
      ∧ (linked (cut .queued 0)).link.on = true ∧ (linked (cut .queued 0)).link.shift = none
      ∧ (onLink (fun l => { l with shift := some (st f) }) (linked (cut .queued 0))).link.shift = some (st f)
      ∧ (st (.lanes [])).frame = .lanes [] := by decide

/-- R130: the ack timer at its timeout, with a repeat left and with none. -/
theorem test_ack_timeout_met :
    findCut 5 (linked (cut .sent 0)).link.cuts = some (cut .sent 0)
      ∧ findCut 5 (linked (cut .sent 1)).link.cuts = some (cut .sent 1)
      ∧ (∃ x, (cut .sent 0).timer = some x ∧ x.timeout ≤ x.count)
      ∧ (cut .sent 0).repeats < (linked (cut .sent 0)).link.settings.repeats
      ∧ (linked (cut .sent 1)).link.settings.repeats ≤ (cut .sent 1).repeats :=
  ⟨by decide, by decide, ⟨_, rfl, by decide⟩, by decide, by decide⟩

/-- R132, R134, R135: each answer to cut 5, the actual line at the tolerance, beyond it, and beyond four of it. -/
theorem test_answers_met :
    (acting 0x81 [5, 0] (linked (cut .sent 0))).framed 0x81 (raw [5, 0])
      ∧ (acting 0x82 [5, 0, 112, 0, 0, 0, 0] (linked (cut .sent 0))).framed 0x82 (raw [5, 0, 112, 0, 0, 0, 0])
      ∧ (acting 0x83 [5, 0, 1] (linked (cut .sent 0))).framed 0x83 (raw [5, 0, 1])
      ∧ BitVec.ofNat 16 (field (raw [5, 0, 112, 0, 0, 0, 0]) 0 2) = (cut .sent 0).num
      ∧ field (raw [5, 0, 112, 0, 0, 0, 0]) 2 5 - 100 = (cut .sent 0).tolerance
      ∧ field (raw [5, 0, 148, 0, 0, 0, 0]) 2 5 - 100 = 4 * (cut .sent 0).tolerance
      ∧ 4 * (cut .sent 0).tolerance < field (raw [5, 0, 149, 0, 0, 0, 0]) 2 5 - 100
      ∧ findCut 5 (linked (cut .missed 0)).link.cuts = some (cut .missed 0)
      ∧ findCut 5 (linked (cut .scored 0)).link.cuts = some (cut .scored 0)
      ∧ findCut 5 (linked (cut .accepted 0)).link.cuts = some (cut .accepted 0) :=
  ⟨⟨rfl, by decide⟩, ⟨rfl, by decide⟩, ⟨rfl, by decide⟩, by decide, by decide, by decide, by decide, by decide,
    by decide,
    by decide⟩

/-- R134: cut 5 is scored while cut 4, older, is not resolved. -/
theorem test_skipped_met :
    let s := onLink (fun l => { l with cuts := [{ cut .accepted 0 with num := 4 }, cut .sent 0] }) (linked (cut .sent 0))
    findCut 5 s.link.cuts = some (cut .sent 0)
      ∧ (s.link.cuts.takeWhile (fun y => y.num ≠ 5)).map (·.isResolved) = [false] := by decide

/-- R131, R137: numbers 0, 1, 256 and 257 behind the next, and READY frames with 0 and 1. -/
theorem test_strange_answers_met :
    let s := linked { cut .sent 0 with num := 6 }
    findCut 5 s.link.cuts = none ∧ (s.link.next - 5#16).toNat = 1 ∧ (s.link.next - 6#16).toNat = 0
      ∧ (s.link.next - BitVec.ofNat 16 65286).toNat = 256 ∧ (s.link.next - BitVec.ofNat 16 65285).toNat = 257
      ∧ (acting 0x84 [0] s).framed 0x84 (raw [0]) ∧ (acting 0x84 [1] s).framed 0x84 (raw [1]) ∧ s.readiness = false
      ∧ (onLink (fun l => { l with ready := true }) s).readiness = true :=
  ⟨by decide, by decide, by decide, by decide, by decide, ⟨rfl, by decide⟩, ⟨rfl, by decide⟩, by decide, by decide⟩

/-- R123 to R126: lengths 24 and 25, a matching checksum, a wrong parity, a frame whose kind is none, an action over. -/
theorem test_framer_met :
    (24 : Byte).toNat ≤ 24 ∧ 24 < (25 : Byte).toNat ∧ checksum 0x84 (raw [1]) = 0x79
      ∧ parityBit 1 ≠ false ∧ wellFormedFrame 0x85 [] = false ∧ wellFormedFrame 0x84 (raw [1]) = true
      ∧ (linked (cut .sent 0)).link.acting = none ∧ (linked (cut .sent 0)).link.on = true ∧ ready.link.on = false
      ∧ (acting 0x85 [] (linked (cut .sent 0))).link.acting = some { kind := 0x85, payload := [], done := false } := by
  decide

/-! ## Lines, held writes, write-backs (02, 03, 09) -/

/-- Capture 0, the line 1, stands in the pulse list with a status of camera 0; line 2 has been reached. -/
def shot (st : CamStatus) : State :=
  { filming with pos := { filming.pos with line := 2 }, ing := { filming.ing with pulses := [pulse st] } }

theorem test_pulses_sound_met : (shot .pending).pulsesSound := by
  unfold State.pulsesSound
  refine ⟨by decide, by decide, fun p h => ?_⟩
  obtain rfl := List.mem_singleton.mp h
  exact ⟨by decide, by decide, fun q e => by cases e; decide⟩

theorem test_overrun_met :
    ({ ready.pos with ltrig := some 0 }).ltrig.isSome = true ∧ ({ ready.pos with ltrig := some 1 }).ltrigHigh = true
      ∧ ({ ready.pos with ltrig := some 2 }).ltrigHigh = false := by decide

/-- R40: the list with 256 entries, the oldest PENDING for camera 0. -/
theorem test_full_pulse_list_met :
    let other : Pulse := { line := 2, capture := some 1, status := Vector.replicate 8 .off }
    256 ≤ (List.replicate 255 other).length + 1 ∧ (pulse .pending).capture = some 0
      ∧ (∀ x ∈ List.replicate 255 other, x.capture ≠ some 0) ∧ filming.ing.cams[0].cfg.enable = true
      ∧ (pulse .pending).status[(0 : Fin 8)] = .pending := by
  refine ⟨by simp only [List.length_replicate]; decide, rfl, fun x h => ?_, by decide, by decide⟩
  rw [List.eq_of_mem_replicate h]
  decide

/-- R48, R49: no line to assemble; a line no camera captured; a line PENDING; lines lost, with flood, learned, inspected. -/
theorem test_assembly_met :
    let r : LineResult := { idleLine with flood := true }
    let l : LineResult := { idleLine with learning := true }
    filming.pos.line < filming.ing.assembled + 1 ∧ (shot .lost).ing.assembled + 1 ≤ (shot .lost).pos.line
      ∧ (∀ p ∈ ({ (shot .lost).ing with pulses := [] }).pulses, p.line ≠ 1)
      ∧ (shot .pending).ing.pulses = [] ++ pulse .pending :: [] ∧ (pulse .pending).line = 1
      ∧ (∃ i : Fin 8, (pulse .pending).status[i] = .pending) ∧ (∀ i : Fin 8, (pulse .lost).status[i] ≠ .pending)
      ∧ (∃ i : Fin 8, (pulse .lost).status[i] = .lost) ∧ (pulse (.delivered r)).status[(0 : Fin 8)] = .delivered r
      ∧ r.flood = true ∧ (∀ i : Fin 8, (pulse (.delivered r)).status[i] ≠ .lost)
      ∧ (pulse (.delivered l)).status[(0 : Fin 8)] = .delivered l ∧ l.learning = true ∧ l.flood = false
      ∧ idleLine.flood = false ∧ idleLine.learning = false := by decide

/-- R59: runs that touch a seam whose gap is gc + 1, and one more. -/
theorem test_seam_met : (512 : Nat) - 511 ≤ 0 + 1 ∧ 0 + 1 < (513 : Nat) - 511 ∧ (510 : Nat) ≠ 511 := by decide

/-- R10 to R13: terminal 0 breaks the ribbon at its second sample; terminal 1 marks a shift. -/
theorem test_terminals_sampled :
    let term (f : TermFn) : Terminal :=
      { fn := f, activeLow := false, filtered := .low, sample := some true, genActive := false }
    let s : State := { ready with pos := { ready.pos with
      tod := 86399999, terms := (ready.pos.terms.set 0 (term .inRibbonBreak)).set 1 (term .inShiftMark) } }
    let t := after (exec (.timeOfDayAdvance 3) s)
    (s.pos.terms[(0 : Fin 6)].sample = some true ∧ s.pos.broken = s.pos.inputOf .inRibbonBreak
      ∧ s.pos.inputOf .inShiftMark = false ∧ s.pos.parked = (s.pos.parkCmd || s.pos.inputOf .inGantryParked))
      ∧ t.pos.broken = true ∧ t.ev.pending.getLsbD 29 = true ∧ t.pos.inputOf .inShiftMark = true
      ∧ t.ev.pending.getLsbD 27 = true ∧ t.pos.tod = 0 := by decide +kernel

/-- R163: a boundary at midnight, reached from the last millisecond of a day. -/
theorem test_boundary_met : ∃ b ∈ [0], b * 1000 = (brim.pos.tod + 1) % 86400000 := ⟨0, by decide, by decide⟩

/-- R177: a write-back that waits for a result, and one that need not; with an open chain and without. -/
theorem test_write_back_due_met :
    let due (s : State) : State := { s with cp := { s.cp with backDue := some none } }
    (due (flying (.result 0) ready)).cp.backDue = some none
      ∧ (∃ a ∈ (due (flying (.result 0) ready)).path.down, a.what.isResult = true)
      ∧ (∀ a ∈ (due (flying (.posted 0) ready)).path.down, a.what.isResult = false)
      ∧ (due (gathering 1)).cp.stage = .gather ∧ (due (gathering 1)).cp.chain.isEmpty = false
      ∧ (due (gathering 0)).cp.chain = [] := by decide

/-- R176: CMD_DONE waits for a write of the result, and follows it. -/
theorem test_done_met :
    let n : Notify := { first := 0, tag := 7, code := .ok }
    let s (a : AccessFor) : State := { flying a ready with cp := { ready.cp with notify := [n] } }
    (∃ a ∈ (s (.result 0)).path.down, a.what = .result 0) ∧ (∀ a ∈ (s (.result 1)).path.down, a.what ≠ .result 0)
      ∧ (s (.result 1)).cp.notify.filter (fun x => x.first = 0) = [n]
      ∧ (s (.result 1)).cp.notify.filter (fun x => x.first = 1) = []
      ∧ (s (.result 0)).inFlight 7 = some (inFlight (.result 0)) := by decide

/-- R179: a fault without a slot behind no result, one behind a result, one with a slot. -/
theorem test_chain_fault_met :
    (gathering 1).cp.chain.map (·.index) ++ [5] ≠ [] ∧ (gathering 0).cp.chain.map (·.index) ++ [] = []
      ∧ (∃ a ∈ (flying (.result 0) ready).path.down, a.what.isResult = true)
      ∧ ¬ ∃ a ∈ (gathering 0).path.down, a.what.isResult = true := by decide

/-- R27: a held write whose rings were fixed when it became the head; the value 2 is adopted, 3 is not. -/
theorem test_takes_consumer_met :
    let s := ringed 0 ready
    let w := queued 0x90000004 [2, 0, 0, 0] s
    let h : Hold := { producer := false, camera := 0, limit := 20, us := 0, serial := 5, consumers := [(0, 0x90000004)] }
    let held : State := { headed w s with path := { (headed w s).path with hold := some h } }
    (headed w s).takesConsumer w 0 0x90000004 ∧ held.takesConsumer w 0 0x90000004 ∧ held.queueSound := by
  refine ⟨.inl ⟨rfl, ⟨rfl, 0x90000004, by decide, by decide, 2, by decide⟩, rfl⟩, .inr ⟨_, rfl, by decide⟩, ?_⟩
  unfold State.queueSound
  refine ⟨fun _ => ⟨_, [], rfl, by decide⟩, by decide, ?_⟩
  rintro h ⟨⟩
  decide

/-- R26: the release at a write-back of a producer write that now hits a guard. -/
theorem test_guard_at_release_met :
    let w := queued 0x90000003 [1] (ringed 0 ready)
    let s := holding true (headed w (flying (.header (.writeBack (some 5))) (ringed 0 ready)))
    s.headerInFlight = some (7, .writeBack (some 5)) ∧ s.hitsGuard w 0 ∧ w.cls.crossing = false
      ∧ s.path.writes = w :: [] ∧ ∀ q : Fin 4, q < 0 → ¬ s.hitsGuard w q :=
  ⟨by decide, ⟨0x90000003, ⟨rfl, by decide⟩, .inl ⟨1, by decide⟩⟩, by decide, rfl, fun q h => absurd h (by omega)⟩

/-- R44: an expired write one slot ahead of the expected one, and one that is stale. -/
theorem test_capture_expiry_met :
    let slot (n : Nat) := filming.ing.cams[(0 : Fin 8)].slotsAhead n
    slot 1 = 1 ∧ 2 * slot 1 < 8 ∧ 0 + slot 1 < filming.ing.captures ∧ slot 4 = 4 ∧ 8 ≤ 2 * slot 4
      ∧ (shot .pending).ing.pendingIn 0 0 1 = 1 := by decide

/-- R45, R47: a classification whose line is delivered and one whose line is gone, a held write of the camera, and a capture
8 behind. -/
theorem test_delivery_met :
    let s := onCam (fun c => { c with bufB := .classifying 0 { idleLine with flood := true } }) (shot .pending)
    let h := holding false (headed (queued 0x0120000000 [1] filming) s)
    s.ing.pulses.find? (fun x => x.capture = some 0 && x.status[(0 : Fin 8)] = .pending) = some (pulse .pending)
      ∧ s.ing.cams[0].floodMark = false ∧ s.path.hold = none
      ∧ (∃ k ws, h.path.hold = some k ∧ k.producer = false ∧ h.path.writes = queued 0x0120000000 [1] filming :: ws)
      ∧ (∀ r, ¬ h.hitsGuard (queued 0x0120000000 [1] filming) r)
      ∧ s.ing.pendingIn 0 0 (8 - 7) = 1 ∧ s.ing.pendingIn 0 0 (7 - 7) = 0 :=
  ⟨by decide, by decide, by decide, ⟨_, [], rfl, rfl, rfl⟩, noGuard _ (by decide), by decide, by decide⟩

/-! ## Payloads that are refused (09) -/

/-- Entries 1 and 2 of BIND as given, the others disabled PASS entries. -/
def bindTwo (a b : List Nat) : List Nat :=
  a ++ b ++ (List.replicate 13 (0 :: 3 :: List.replicate 16 0)).flatten ++ le2 [1]

/-- An enabled entry of a kind and camera at 16 MiB × `base`, 4 KiB long. -/
def bindWindow (kind cam base : Nat) : List Nat :=
  [1, kind, cam] ++ [0, 0, 0, base, 0] ++ [0, 0xF0, 0xFF, 0xFF, 0xFF] ++ [0, 0, 0, 0, 0]

/-- R24: one camera twice; a LIVE window over the control region; camera 8; windows that are apart. -/
theorem test_bind_refused_met :
    let check (a b : List Nat) := bindCheck State.reset.path.window[0] (raw (bindTwo a b))
    check (bindWindow 1 0 1) (bindWindow 1 0 2) = some .conflict
      ∧ check (bindWindow 1 0 1) (bindWindow 2 0 0x80) = some .conflict
      ∧ check (bindWindow 1 8 1) (bindWindow 1 0 2) = some .range ∧ check (bindWindow 1 7 1) (bindWindow 1 0 2) = none := by
  decide +kernel

/-- Cameras 0 and 1 enabled, their used ranges beginning at the given columns. -/
def geoTwo (a b : Nat) : List Nat :=
  [20, 0] ++ le2 [1] ++ [1, 0] ++ le2 [20] ++
    (1 :: 0 :: le2 [512, 0, 511, a, 4, 512] ++ [0, 0]) ++ (1 :: 0 :: le2 [512, 0, 511, b, 4, 512] ++ [0, 0]) ++
    (List.replicate 6 (0 :: 0 :: le2 [512, 0, 511, 0, 4, 512] ++ [0, 0])).flatten

/-- R38, R181: ranges that meet by one column and ranges that do not; GEOMETRY beside a campaign and beside an order. -/
theorem test_geometry_refused_met :
    let win := (window 2 { captureEntry with camera := 1, base := 0x0130000000 } (window 1 captureEntry bound)).path.window
    geoCheck win (raw (geoTwo 0 511)) = some .conflict ∧ geoCheck win (raw (geoTwo 0 512)) = none
      ∧ (∃ i : Fin 2, (planned []).plan.slots[i] ≠ .none)
      ∧ ({ ready.plan with orders := [order .active 0] }).orders ≠ [] := by
  decide +kernel

/-- R60: search ranges that are in order and ranges that are not. -/
theorem test_detect_ranges_met :
    let d (l r : Nat) : Detect := { Detect.initial with left := some (0, l), right := some (r, 511) }
    (d 100 101).ok filming.ing = true ∧ (d 101 101).ok filming.ing = false
      ∧ ({ Detect.initial with left := some (0, 512) } : Detect).ok filming.ing = false := by decide

/-- R163, R169: a close while a report waits, and while one is in flight. -/
theorem test_close_met :
    let s (x : ReportSlot) : Tally := { ready.tally with slot := x, plan := [0] }
    (s (.waiting report)).reportInFlight = false ∧ (s (.inFlight report .accept)).reportInFlight = true
      ∧ (∃ b ∈ (s .empty).plan, b * 1000 = ready.pos.tod) ∧ ∀ b ∈ (s .empty).plan, b * 1000 ≠ brim.pos.tod := by decide

/-- R184: a ring before a LIVE window and a ring that reaches into it. -/
theorem test_setup_free_met :
    filming.setupFree 0 0x012FFFFBC0 0x0130000000 = true ∧ filming.setupFree 0 0x012FFFFBC0 0x0130000001 = false
      ∧ filming.setupFree 0 0x0080003FFF 0x0080004000 = false ∧ filming.setupFree 0 0x0080004000 0x0080004440 = true := by
  decide

/-! ## Rings (02) -/

/-- R35: a RUNNING ring, a STOPPED one, and the EVENT ring with 6 records not issued behind an issued one, both kinds
logged. -/
theorem test_stop_met :
    let s : State := onRing 3 (fun g => { g with
      staging := staged .memError (some 3) :: List.replicate 6 (staged .mapFull none) }) (ringed 3 ready)
    let l : Events := { s.ev with log := 0x80000008 }
    s.rings[3].state = .running ∧ (onRing 3 Ring.stop s).rings[3].state ≠ .running
      ∧ l.log.getLsbD 31 = true ∧ l.log.getLsbD 3 = true
      ∧ (s.rings[3].staging.filter (fun e => e.issued.isNone)).length + 2 ≤ 8 := by decide

/-- R34: index 3 is accepted, 4 has been and 5 has not. -/
theorem test_published_met :
    let g : Ring := { (ringed 3 ready).rings[3] with accepted := [4] }
    g.published + 1 ∈ g.accepted ∧ g.published + 2 ∉ g.accepted ∧ (g.accept 3).published = 5
      ∧ (g.accept 3).accepted = [] := by decide

/-! ## The blob table and the spans (04) -/

/-- READY with an open blob table; Gc = 1, Lg = 2, Lmax = 1,024. -/
def tabled (l : List Blob) : State := { ready with blobs := { ready.blobs with entries := l } }

def run (c0 c1 : Nat) : Run := { c0 := c0, c1 := c1, dark := 1, bright := 0, peak := 9, overflow := false, seam := false }

/-- The continuation of `blob`. -/
def carried : Blob :=
  { blob with carried := true, flags := { forced := false, continued := true, seam := false, overflow := false } }

/-- R64, R65: the last line that keeps an entry, and the next; the outermost columns that join, and the next. -/
theorem test_table_met :
    let s := tabled [blob, { blob with num := 2, c0 := 12, r0 := 12, r1 := 20 }]
    s.blobs.entries.Pairwise (fun x y => x.num < y.num) ∧ (∀ b ∈ s.blobs.entries, b.taken = none)
      ∧ (∀ b ∈ s.blobs.entries, 14 ≤ b.last + s.ing.detect.lg) ∧ blob.last + s.ing.detect.lg < 15
      ∧ (run 10 10).joins 1 blob = true ∧ (run 11 11).joins 1 blob = false ∧ (run 3 3).joins 1 blob = false
      ∧ (run 4 4).joins 1 blob = true ∧ (s.blobs.entries.filter ((run 10 11).joins 1)).length = 2
      ∧ (s.blobs.entries.filter ((run 10 10).joins 1)).length = 1 ∧ (s.blobs.entries.filter ((run 2 3).joins 1)) = []
      ∧ 1 < s.ing.detect.lmax ∧ blob.carried = false ∧ carried.carried = true
      ∧ max 1033 12 - min 1033 10 + 1 = s.ing.detect.lmax ∧ max 1032 12 - min 1032 10 + 1 < s.ing.detect.lmax := by
  decide

/-- R66 to R69: a line of the worked kind: one blob opens in entry 0, one joins, and a fork merges into the lower number. -/
theorem test_table_at_a_line :
    let nums (runs : List Run) : List (Nat × Nat × Nat) :=
      (((tabled [blob, { blob with num := 2, c0 := 12, r0 := 12, r1 := 20 }]).trackLine 13 runs).blobs.entries).map
        (fun b => (b.num, b.last, b.dark))
    nums [] = [(1, 12, 3), (2, 12, 3)] ∧ nums [run 2 3] = [(0, 13, 1), (1, 12, 3), (2, 12, 3)]
      ∧ nums [run 10 10] = [(1, 13, 4), (2, 12, 3)] ∧ nums [run 10 11] = [(1, 13, 7)]
      ∧ ((tabled [carried]).trackLine 13 [run 5 5]).blobs.entries.map (fun b => (b.first, b.flags.continued)) = [(13, true)]
      ∧ ((tabled [{ blob with first := 12 }]).trackLine 1035 [run 5 5]).blobs.entries.map (·.num) = [0] := by
  decide +kernel

/-- R68: a table with 256 entries, none of which a run joins, and the entry that is force-closed. -/
theorem test_full_table_met :
    let l := (List.range 256).map (fun n => { blob with num := n })
    l.length = 256 ∧ l.Pairwise (fun x y => x.num < y.num) ∧ (∀ b ∈ l, b.taken = none)
      ∧ (∀ b ∈ l, (run 20 20).joins 1 b = false ∧ 13 ≤ b.last + 2)
      ∧ ∃ b ∈ l, ∀ x ∈ l, b.last < x.last ∨ b.last = x.last ∧ b.num ≤ x.num := by
  decide +kernel

/-- Spans of one line each: 10, 20, 30 and so on. -/
def lostSpans (n : Nat) : List Span := (List.range n).map (fun i => { kind := .lost, start := 10 * i + 10, stop := 10 * i + 11 })

/-- R80 to R82: a request between two spans; 15 and 16 spans with a place before, between and behind them. -/
theorem test_span_room_met :
    let l := lostSpans
    spansOrdered (l 16) ∧ (l 15).length < 16 ∧ 16 ≤ (l 16).length
      ∧ (∀ n, 12 ≤ n → n < 14 → ¬ covered (l 16) n)
      ∧ (∃ x ∈ l 16, x.kind = .lost ∧ (x.stop = 11 ∨ x.start = 12))
      ∧ (¬ ∃ x ∈ l 16, x.kind = .lost ∧ (x.stop = 12 ∨ x.start = 14))
      ∧ (∃ x ∈ l 16, x.stop ≤ 12 ∧ ∀ y ∈ l 16, y.stop ≤ 12 → y.stop ≤ x.stop)
      ∧ ((∀ y ∈ l 16, 5 < y.stop) ∧ ∃ x ∈ l 16, ∀ y ∈ l 16, x.start ≤ y.start) := by
  unfold spansOrdered covered
  refine ⟨by decide, by decide, by decide, fun n h1 h2 h3 => ?_, by decide, by decide, by decide, by decide⟩
  have h : ∀ n ∈ [12, 13], ¬ ∃ x ∈ lostSpans 16, x.start ≤ n ∧ n < x.stop := by decide
  exact h n (by simp; omega) h3

/-- R84: a request whose lines are retired. -/
theorem test_span_retired_met :
    ready.map.retire = .all ∧ ({ ready.map with retire := .line 20 }).retire = .line 20 ∧ (20 : Nat) ≤ 20
      ∧ SpanKind.mapFull.uninspectedIndex = some 5 := by decide

/-! ## Rows, planning, orders (05) -/

/-- R108: a row that seals at line 2,603 with Lg = 2 and no open blob, one line before, and an open blob in front of it. -/
theorem test_seal_met :
    let s := planned [row .plate .planned]
    s.plan.rows.find? (fun x => x.state = .planned) = some (row .plate .planned)
      ∧ (row .plate .planned).stop + s.ing.detect.lg + 1 ≤ 2603 ∧ 2602 < (row .plate .planned).stop + s.ing.detect.lg + 1
      ∧ (¬ ∃ b ∈ s.blobs.entries, b.carried = false ∧ b.first < 2600) ∧ blob.first < 2600
      ∧ (s.sealRow (row .plate .planned) camp).2 = true ∧ (∀ r ∈ (planned []).plan.rows, r.state ≠ .planned) := by
  decide +kernel

/-- R110: a fatal last line one line before the strip's end shifts a row, the strip's end does not. -/
theorem test_shift_met :
    let r := row .plate .planned
    let c : Campaign := { camp with avoidShift := true }
    let g (n : Nat) : PlateResult :=
      { grade := .reject, score := 0, flaws := 1, fatal := 1, fatalLast := some n, uninspected := false, mapFull := false,
        edgeShort := false }
    (planned [r]).shiftStart r c [g (100 + camp.strip - 1)] = some (100 + camp.minCut)
      ∧ (planned [r]).shiftStart r c [g (100 + camp.strip)] = none
      ∧ (planned [r]).shiftStart { r with shifts := 3 } c [g 100] = none
      ∧ (((planned [r]).shiftRow r 1350)|>.plan.rows.take 2).map (fun x => (x.kind, x.start)) = [(.shift, 100), (.plate, 1350)] := by
  decide +kernel

/-- R111: a lane of order 9, which requires A, moves with grade B to order 10, which requires B. -/
theorem test_reassign_met :
    let os : List Order := [order .active 0, { order .active 0 with id := 10, grade := .b }]
    let l : LanePlate := { lanePlate with provisional := some .b }
    findOrder 9 os = some (order .active 0) ∧ l.order = some 9 ∧ l.provisional = some .b
      ∧ ¬ (Grade.b ≠ .reject ∧ Grade.b.code ≤ (order .active 0).grade.code)
      ∧ reassignTo 2500 0 .b os = some { order .active 0 with id := 10, grade := .b }
      ∧ reassignTo 2500 0 .c os = none ∧ ({ camp with avoidReassign := true }).avoidReassign = true := by decide

/-- R129: the list of outstanding cuts with 16, and a run of cuts missed at once. -/
theorem test_full_cuts_met :
    16 ≤ (List.replicate 16 (cut .sent 0)).length ∧ ({ ready.link with overflow := true }).overflow = true := by
  simp only [List.length_replicate]; decide

/-- R114, R115: a COMMITTED row whose trailing cut is resolved becomes CUT and waits at the Grader. -/
theorem test_resolved_met :
    let r : Row := { row .plate .committed with trailing := some { num := 5, tolerance := 12, res := .unresolved } }
    let t := (planned [row .plate .final, r]).recordResolution 5 .missed
    (planned [r]).grader.waiting = none ∧ t.plan.rows.map (·.state) = [.final, .cut] ∧ t.grader.waiting.map (·.row) = some 1 := by decide

/-- R103 to R105: the extent at the plan ahead and one line below it, above and at the ribbon line number; an opening row that
is pending before and behind rows; a table with 64 rows; no campaign. -/
theorem test_planning_met :
    let s := planned [row .plate .planned]
    let at_ (n : Nat) : Nat := ({ s.pos with line := n }).line
    s.plan.active = some (1, camp) ∧ s.pos.broken = false ∧ s.plan.rows.length < 64
      ∧ s.plan.rows.getLast? = some (row .plate .planned) ∧ s.plan.opening = none
      ∧ at_ 0 + camp.planAhead = 12500 ∧ (2600 : Nat) < at_ 0 + camp.planAhead
      ∧ at_ 0 < (row .plate .planned).stop ∧ (row .plate .planned).stop ≤ at_ 2600
      ∧ at_ 2600 + camp.startGap ≤ (row .plate .planned).stop ∧ (row .plate .planned).stop < at_ 2601 + camp.startGap
      ∧ (planned []).plan.rows = [] ∧ ready.plan.active = none
      ∧ ({ s.plan with opening := some .brk }).opening = some .brk ∧ 64 ≤ (List.replicate 64 (row .gap .final)).length := by
  decide

/-- R106: two orders that fit, the first of the higher priority; lane 0 of a row of 2,500 lines. -/
theorem test_lanes_met :
    let os : List Order := [order .active 0, { order .active 0 with id := 10, priority := 1 }]
    os = [order .active 0] ++ { order .active 0 with id := 10, priority := 1 } :: []
      ∧ (order .active 0).length = 2500 ∧ 1 ≤ (order .active 0).remaining - (order .active 0).planned
      ∧ (order .active 0).laneMask.getLsbD 0 = true ∧ (order .active 0).laneMask.getLsbD 1 = false
      ∧ (order .active 0).priority < 1 ∧ camp.minCut ≤ (order .active 0).length ∧ 0 < camp.lanes.length
      ∧ (fillLanes 2500 [0] os).1.map (·.order) = [some 10] := by decide

/-- R90: two lanes that share a column, and two that do not. -/
theorem test_lanes_apart_met :
    let p (n : Nat) : List Nat := [2, 0, 3, 0] ++ le2 [0, 100, n, 200] ++ List.replicate 8 0
      ++ le2 [2000, 200, 100, 50, 0, 0, 1000, 200, 1, 100, 0]
    campCheck 80 (raw (p 100)) = some .conflict ∧ campCheck 80 (raw (p 101)) = none := by decide

/-- R95: a book with 32 orders, an id that is taken, a fallback that names an order, and one that names none. -/
theorem test_order_refused_met :
    let p (id fallback : Nat) : List Byte := raw (le2 [id] ++ [1, 0] ++ le2 [200, 1] ++ [0, 2] ++ le2 [fallback])
    let book (n : Nat) : Planner := { ready.plan with orders := List.replicate n (order .active 0) }
    orderCheck 80 (book 32) (p 8 9) = some .full ∧ orderCheck 80 (book 31) (p 9 9) = some .conflict
      ∧ orderCheck 80 (book 31) (p 8 9) = none ∧ orderCheck 80 (book 31) (p 8 10) = some .conflict
      ∧ orderCheck 80 (book 31) (p 8 0) = some .range := by decide

/-! ## Final grading (05, 07) -/

/-- R98: a plate that meets its order, one that its fallback takes, and one that fails. -/
theorem test_settle_met :
    let x : Order := { order .active 1 with fallback := some 10 }
    let f : Order := { order .active 0 with id := 10, grade := .c }
    let s : State := { ready with plan := { ready.plan with orders := [x, f] } }
    findOrder 9 s.plan.orders = some x ∧ fallbackFor .b x s.plan.orders = some f
      ∧ fallbackFor .b (order .active 1) s.plan.orders = none ∧ (s.settle 9 .a).2 = .made ∧ (s.settle 9 .b).2 = .fallback
      ∧ (s.settle 9 .reject).2 = .failed := by decide

/-- R99: an order with nothing left, with and without END_CAMPAIGN; one CANCELLED; one that goes on. -/
theorem test_done_order_met :
    let o (st : OrderState) : Order := { order st 0 with remaining := 0 }
    let s (x : Order) : State := { ready with plan := { ready.plan with orders := [x] } }
    findOrder 9 (s (o .held)).plan.orders = some (o .held) ∧ (o .held).remaining = 0 ∧ (o .held).reserved = 0
      ∧ ({ o .active with endCampaign := true }).endCampaign = true ∧ (o .active).endCampaign = false
      ∧ (o .cancelled).state = .cancelled ∧ (order .active 0).remaining ≠ 0 := by decide

/-- R116: the graded row retires with its table within the depth. -/
theorem test_retired_met :
    let s : State := { planned [row .head .cut] with
      grader := { ready.grader with waiting := some { row := 1, need := 1, counted := false } } }
    s.plan.rows.length ≤ 64 ∧ ((after (exec .finalGrading s)).plan.rows.map (·.state)).contains .final = false := by
  decide +kernel

/-- R148, R149: a plate that is UNSEALED takes the cap grade C, its lane not short. -/
theorem test_capped_met :
    let r : Rect := rectOf 80 60 camp { first := 5, last := 9 } 10 13
    (gradePlate GradeTable.initial ready.map r .c true false none).grade = .c
      ∧ (gradePlate GradeTable.initial ready.map r .c false false none).grade = .a := by decide

/-! ## The link (06) -/

/-- R137: readiness rises; one cut is UNSENT at the cutter, one is a line short of it; a campaign is ACTIVE. -/
theorem test_readiness_rises :
    let s0 := planned []
    let s : State := acting 0x84 [1] { s0 with
      pos := { s0.pos with line := 25100 },
      link := { s0.link with on := true, next := 8, cuts := [cut .unsent 0, { cut .unsent 0 with num := 6, line := 101 }] } }
    let t := after (exec .ready s)
    s.framed 0x84 (raw [1]) ∧ s.readiness = false ∧ s.plan.active = some (1, camp) ∧ t.readiness = true
      ∧ t.link.counters.missed[6] = 1 ∧ t.link.cuts.map (·.status) = [.queued] ∧ t.link.txq.length = 2 := by
  refine ⟨⟨rfl, by decide⟩, ?_⟩
  decide +kernel

/-- R125: a character and a break are held, further characters were lost; the framer in HUNT and within a frame. -/
theorem test_held_inputs_met :
    let c : RxChar := { data := 1, parity := true, stop := true }
    let l : Link := { (linked (cut .sent 0)).link with heldChar := some c, heldBreak := true, breakFirst := true, lost := 1 }
    l.heldChar ≠ none ∧ l.heldBreak = true ∧ 0 < l.lost ∧ l.framer.state = .hunt
      ∧ ({ l.framer with state := .payload }).state ≠ .hunt
      ∧ ({ kind := 0x81, payload := [], done := true : ActingFrame }).done = true := by decide

/-- R136: cut 5 at its deadline, cut 6 one line short of it, cut 4 resolved before. -/
theorem test_deadline_met :
    let s0 := planned []
    let s : State := { s0 with
      pos := { s0.pos with line := 26350 },
      link := { s0.link with
        cuts := [{ cut .scored 0 with num := 4 }, cut .accepted 0, { cut .sent 0 with num := 6, line := 101 }] } }
    let late := s.link.cuts.filter (fun c => !c.isResolved && c.line + c.gc + c.scoreLate ≤ s.pos.line)
    late.map (·.num) = [5] ∧ (s.deadlineTest).link.cuts.map (·.num) = [6]
      ∧ (s.deadlineTest).link.counters.missed[5] = 1 ∧ (s.deadlineTest).tally.live.missed = 1
      ∧ s0.deadlineTest.link.cuts = [] := by
  decide +kernel

/-- R124: the framer discards a good character that is no delimiter, a length of 25, and a wrong checksum. -/
theorem test_good_discards_met :
    let good (b : Byte) : RxInput := .char { data := b, parity := parityBit b, stop := true }
    let f (st : FramerState) : Framer := { Framer.hunt with state := st, kind := 0x84, bytes := raw [1] }
    (f .delimiter).discards (good 0xC2) = true ∧ (f .delimiter).discards (good 0xC3) = false
      ∧ (f .length).discards (good 25) = true ∧ (f .length).discards (good 24) = false
      ∧ (f .check).discards (good 0x78) = true ∧ (f .check).discards (good 0x79) = false := by decide

/-- R170: the REPORT ring stops while a report is in flight, without and with a deferred close; with none in flight. -/
theorem test_report_stop_met :
    let s (d : Option CloseCause) : State :=
      { ringed 2 ready with tally := { ready.tally with slot := .inFlight report .accept, deferred := d } }
    let t (d : Option CloseCause) : State := (s d).stopRing reportRing 0 1
    (t none).tally = { (s none).tally with slot := .empty }
      ∧ ((t (some .terminal)).tally.slot.report.map (fun n => (n.cause, n.covered))) = some (.terminal, 1)
      ∧ (t (some .terminal)).tally.deferred = none
      ∧ ((ringed 2 ready).stopRing reportRing 0 1).tally = ready.tally := by decide +kernel

/-- R170, R185: a reset REPORT ring's bursts complete behind a SHIFT_END that waits: the report waits again and the deferred close
is merged into it; after UNBIND it is dropped and the close's own report waits; each time the command is answered. -/
theorem test_report_reset_met :
    let s (f : ReportFate) : State :=
      let u := given .shiftEnd [] (flying (.record 2 3 .discarded) ready)
      { u with tally := { u.tally with slot := .inFlight report f, deferred := some .command },
               cp := { u.cp with wait := some .close } }
    let t (f : ReportFate) : State := after (exec (.inFlightBurstsComplete reportRing) (s f))
    ((t .wait).tally.slot.report.map (fun n => (n.merged, n.covered))) = some (true, 2)
      ∧ (t .wait).ev.pending.getLsbD 28 = true ∧ (t .wait).ev.pending.getLsbD 27 = true ∧ (t .wait).tally.merged = 1
      ∧ ((t .drop).tally.slot.report.map (fun n => (n.merged, n.covered))) = some (false, 1)
      ∧ (t .wait).cp.dispatched = none ∧ (t .drop).cp.wait = none ∧ (t .wait).cp.lastResult = .ok
      ∧ (s .wait).cp.wait = some .close ∧ (s .wait).cp.dispatched ≠ none := by decide +kernel

/-- R65 to R67: a line of three runs: the first one merges three entries, a CARRIED one among them, into the lowest; the second
joins the entry they went to; the third opens one. -/
theorem test_line_of_runs_met :
    let s := tabled [blob, { carried with num := 2, r0 := 12, r1 := 14, first := 0, c0 := 0, c1 := 0, dark := 0, bright := 0,
                                          peak := 0 }, { blob with num := 3, c0 := 16, r0 := 16, c1 := 30, r1 := 30 }]
    let t := s.trackLine 13 [run 9 17, run 29 29, run 40 41]
    let moved : Moved := [(1, some 1), (2, some 1), (3, some 1)]
    joinTargets 1 (run 9 17) s.blobs.entries [(1, some 1), (2, some 2), (3, some 3)] = [1, 2, 3]
      ∧ joinTargets 1 (run 29 29) s.blobs.entries moved = [1] ∧ joinTargets 1 (run 40 41) s.blobs.entries moved = []
      ∧ t.blobs.entries.map (fun b => (b.num, b.dark, b.c1, b.r0, b.r1, b.flags.continued))
          = [(0, 1, 41, 40, 41, false), (1, 8, 30, 9, 29, true)]
      ∧ t.blobs.merged = 2 ∧ t.blobs.opened = 1 ∧ ({ blob with taken := some (5, 9) }).taken = some (5, 9) := by
  decide +kernel

/-- R39, R54, R56: GEOMETRY clears the flood marks; an enabled camera is in START, a disabled one in NONE (log 56). -/
theorem test_geometry_learning :
    let s := onCam (fun c => { c with floodMark := true, learn := .learning }) filming
    let on := (s.newGeometry (Vector.replicate 8 camera) 60 20).ing.cams[0]
    let off := (s.newGeometry (Vector.replicate 8 { camera with enable := false }) 60 20).ing.cams[0]
    s.ing.cams[0].floodMark = true ∧ camera.enable = true ∧ on.learn = .start ∧ on.floodMark = false ∧ off.learn = .none
      ∧ off.floodMark = false := by
  decide +kernel

/-! ## Bytes (11) -/

/-- 11.3, 11.6: fields of a FLAW record, and the 147 bit times of a CUT frame with a break of 13 (06 section 6.1). -/
theorem test_bytes :
    field (Record.flaw (flaw 7)).bytes 0x00 4 = 7 ∧ field (Record.flaw (flaw 7)).bytes 0x10 8 = 12
      ∧ (frameBits 13 cutCode (TxFrame.cut 5 100 true false).payload).length = 147
      ∧ (frameBits 13 cutCode (TxFrame.cut 5 100 true false).payload).take 17
          = List.replicate 13 false ++ [true, true, false, true] := by decide +kernel

end Sys2Proof.Tests
end

section
/-! PROOFS. The memory path: a head write that is refused (R21, R26, R33), and the LIVE write (R33). -/

namespace Sys2Proof.Machine

/-! ## A refused head write -/

/-- `State.refuseHead`, by which the rows refuse, is the statements' `Path.refused`, and touches nothing but the path. -/
theorem State.refuseHead_eq_refused (w : QueuedWrite) (s : State) :
    s.refuseHead w = { s with path := s.path.refused w } := rfl

/-- A refusal that is counted: the path counters are those before it, changed by `f`. -/
theorem State.count_refuseHead (f : PathCounters → PathCounters) (w : QueuedWrite) (s : State) :
    (s.refuseHead w).count f
      = { s with path := { s.path.refused w with counters := f s.path.counters } } := by
  rw [State.refuseHead_eq_refused]
  rfl

/-! ## LIVE writes (R33) -/

theorem exec_liveWrite (s : State) : exec .liveWrite s = .next (s.onHead .live State.liveHead) := rfl

/-- A LIVE write that no guard claims is refused, counted and reported with the value 4. -/
theorem State.liveHead_of_not_hitsGuard {w : QueuedWrite} {s : State} (h : ∀ r, ¬ s.hitsGuard w r) :
    s.liveHead w = ({ s with path := { s.path.refused w with
      counters := { s.path.counters with liveWrites := inc32 s.path.counters.liveWrites } } } : State).raise
        .guardViolation w.burst.addr.toNat 4 := by
  unfold State.liveHead
  rw [State.guarded_none h, State.count_refuseHead]

/-- Settles O33: the head is acted on, its guard test passes, and what is left of R33 is the counted refusal. -/
theorem liveWriteIsRefused : Obligations.LiveWriteIsRefused := by
  unfold Obligations.LiveWriteIsRefused
  intro w s hHead hGuard
  rw [exec_liveWrite, State.onHead_heads hHead, State.liveHead_of_not_hitsGuard hGuard]

end Sys2Proof.Machine
end

section
/-! PROOFS. Plate grading: the table of the computed grade (R147), row by row. -/

namespace Sys2Proof.Machine

section ComputedGrade

variable {t : GradeTable} {empty : Bool} {fatal score : Nat}

/-! ## Rows 1 and 2: REJECT whatever the score -/

@[simp] theorem GradeTable.computed_of_empty : t.computed true fatal score = .reject := rfl

theorem GradeTable.computed_of_fatal (hFatal : 1 ≤ fatal) : t.computed empty fatal score = .reject := by
  cases empty with
  | true => exact GradeTable.computed_of_empty
  | false => exact if_pos hFatal

/-! ## Rows 3 to 6: by the score alone -/

/-- A plate that passes the first two rows is graded by the first threshold its score does not exceed. -/
theorem GradeTable.computed_of_no_fatal :
    t.computed false 0 score
      = if score ≤ t.ta then .a else if score ≤ t.tb then .b else if score ≤ t.tc then .c else .reject := rfl

theorem GradeTable.computed_eq_a (hA : score ≤ t.ta) : t.computed false 0 score = .a := by
  rw [GradeTable.computed_of_no_fatal, if_pos hA]

theorem GradeTable.computed_eq_b (hA : t.ta < score) (hB : score ≤ t.tb) : t.computed false 0 score = .b := by
  rw [GradeTable.computed_of_no_fatal, if_neg hA.not_ge, if_pos hB]

theorem GradeTable.computed_eq_c (hA : t.ta < score) (hB : t.tb < score) (hC : score ≤ t.tc) :
    t.computed false 0 score = .c := by
  rw [GradeTable.computed_of_no_fatal, if_neg hA.not_ge, if_neg hB.not_ge, if_pos hC]

theorem GradeTable.computed_of_score_above (hA : t.ta < score) (hB : t.tb < score) (hC : t.tc < score) :
    t.computed false 0 score = .reject := by
  rw [GradeTable.computed_of_no_fatal, if_neg hA.not_ge, if_neg hB.not_ge, if_neg hC.not_ge]

end ComputedGrade

/-- Settles O55: the two REJECT rows whatever the score, then one lemma for each row that the score decides. -/
theorem computedGradeFollowsTable : Obligations.ComputedGradeFollowsTable := by
  unfold Obligations.ComputedGradeFollowsTable
  intro t empty fatal score
  constructor
  · rintro (rfl | hFatal)
    · exact GradeTable.computed_of_empty
    · exact GradeTable.computed_of_fatal hFatal
  · rintro rfl rfl
    exact ⟨GradeTable.computed_eq_a, GradeTable.computed_eq_b, GradeTable.computed_eq_c,
      GradeTable.computed_of_score_above⟩

end Sys2Proof.Machine
end

section
/-! PROOFS. Events: an occurrence of a kind (R186) and its request for a record (R187). -/

namespace Sys2Proof.Machine

/-! ## One element of a vector changes -/

@[simp] theorem upd_getElem_self {α : Type} {n : Nat} (v : Vector α n) (i : Fin n) (f : α → α) :
    (upd v i f)[i] = f v[i] := Vector.getElem_set_self _

theorem upd_getElem_of_ne {α : Type} {n : Nat} (v : Vector α n) {i j : Fin n} (f : α → α) (h : i ≠ j) :
    (upd v i f)[j] = v[j] := Vector.getElem_set_ne i.isLt j.isLt (Fin.val_ne_of_ne h)

section Occurrence

/-! ## The pending flag (R186) -/

@[simp] theorem Events.setPending_pending (k : EventKind) (e : Events) :
    (e.setPending k).pending = e.pending ||| (1#32 <<< k.num) := rfl
@[simp] theorem Events.setPending_enable (k : EventKind) (e : Events) : (e.setPending k).enable = e.enable := rfl
@[simp] theorem Events.setPending_routes (k : EventKind) (e : Events) : (e.setPending k).routes = e.routes := rfl

/-! ## A record joins EVENT staging or is lost (R187) -/

variable {r : EventRec} {s : State}

/-- The Event Unit with one more lost record. -/
def Events.losing (e : Events) : Events := { e with lost := inc32 e.lost }

/-- A ring with one more event record in its staging, not issued yet. -/
def Ring.staged (r : EventRec) (g : Ring) : Ring :=
  { g with staging := g.staging ++ [{ record := .event r, issued := none }] }

/-- EVENT staging takes no record while its ring is UNSET or while it is full. -/
theorem State.stageEvent_of_refused
    (h : s.rings[eventRing].state = .unset ∨ 8 ≤ s.rings[eventRing].staging.length) :
    s.stageEvent r = s.modEv Events.losing := if_pos h

theorem State.stageEvent_of_room (hSet : s.rings[eventRing].state ≠ .unset)
    (hRoom : s.rings[eventRing].staging.length < 8) :
    s.stageEvent r = s.modRing eventRing (Ring.staged r) := if_neg (not_or.2 ⟨hSet, hRoom.not_ge⟩)

theorem State.stageEvent_cases (r : EventRec) (s : State) :
    s.stageEvent r = s.modEv Events.losing ∨ s.stageEvent r = s.modRing eventRing (Ring.staged r) :=
  ite_eq_or_eq _ _ _

theorem State.stageEvent_ev : (s.stageEvent r).ev = { s.ev with lost := (s.stageEvent r).ev.lost } := by
  obtain h | h := State.stageEvent_cases r s <;> rw [h] <;> rfl

theorem State.stageEvent_frame :
    s.stageEvent r = { s with ev := (s.stageEvent r).ev, rings := (s.stageEvent r).rings } := by
  obtain h | h := State.stageEvent_cases r s <;> rw [h] <;> rfl

theorem State.stageEvent_rings_of_ne {q : Fin 4} (hq : q ≠ eventRing) :
    (s.stageEvent r).rings[q] = s.rings[q] := by
  obtain h | h := State.stageEvent_cases r s
  · rw [h, State.modEv_rings]
  · rw [h, State.modRing_rings, upd_getElem_of_ne _ _ hq.symm]

/-! ## One occurrence (R186) -/

/-- The record of an occurrence: the counters as they stand, and the low 32 bits of the arguments. -/
def State.occurrence (k : EventKind) (a b : Nat) (s : State) : EventRec :=
  { kind := k, seq := s.ev.seq, line := s.pos.line, day := s.pos.day, tod := s.pos.tod,
    arg1 := a % 2 ^ 32, arg2 := b % 2 ^ 32 }

/-- The Event Unit at a logged occurrence, before its record is staged. -/
def Events.logged (k : EventKind) (e : Events) : Events := { e.setPending k with seq := nextNumber e.seq }

variable {k : EventKind} {a b : Nat}

theorem State.raise_of_not_logged (hLog : s.ev.log.getLsbD k.num = false) :
    s.raise k a b = s.modEv (Events.setPending k) :=
  if_neg (ne_true_of_eq_false hLog)

theorem State.raise_of_logged (hLog : s.ev.log.getLsbD k.num = true) :
    s.raise k a b = (s.modEv (Events.logged k)).stageEvent (s.occurrence k a b) :=
  if_pos hLog

/-- A logged occurrence whose record is lost. -/
theorem State.raise_of_refused (hLog : s.ev.log.getLsbD k.num = true)
    (h : s.rings[eventRing].state = .unset ∨ 8 ≤ s.rings[eventRing].staging.length) :
    s.raise k a b = (s.modEv (Events.logged k)).modEv Events.losing :=
  (State.raise_of_logged hLog).trans (State.stageEvent_of_refused h)

/-- A logged occurrence whose record joins EVENT staging. -/
theorem State.raise_of_room (hLog : s.ev.log.getLsbD k.num = true) (hSet : s.rings[eventRing].state ≠ .unset)
    (hRoom : s.rings[eventRing].staging.length < 8) :
    s.raise k a b = (s.modEv (Events.logged k)).modRing eventRing (Ring.staged (s.occurrence k a b)) :=
  (State.raise_of_logged hLog).trans (State.stageEvent_of_room hSet hRoom)

/-- Logged or not, the Event Unit takes its pending flag, and only the sequence number and the count of lost records
may change beside it. -/
theorem State.raise_ev : (s.raise k a b).ev
    = { s.ev.setPending k with seq := (s.raise k a b).ev.seq, lost := (s.raise k a b).ev.lost } := by
  cases hLog : s.ev.log.getLsbD k.num with
  | false =>
    rw [State.raise_of_not_logged hLog]
    rfl
  | true =>
    rw [State.raise_of_logged hLog, State.stageEvent_ev]
    rfl

theorem State.raise_frame :
    s.raise k a b = { s with ev := (s.raise k a b).ev, rings := (s.raise k a b).rings } := by
  cases hLog : s.ev.log.getLsbD k.num with
  | false =>
    rw [State.raise_of_not_logged hLog]
    rfl
  | true =>
    rw [State.raise_of_logged hLog, State.stageEvent_frame]
    rfl

theorem State.raise_rings_of_ne {q : Fin 4} (hq : q ≠ eventRing) : (s.raise k a b).rings[q] = s.rings[q] := by
  cases hLog : s.ev.log.getLsbD k.num with
  | false => rw [State.raise_of_not_logged hLog, State.modEv_rings]
  | true => rw [State.raise_of_logged hLog, State.stageEvent_rings_of_ne hq, State.modEv_rings]

theorem State.raise_seq_of_logged (hLog : s.ev.log.getLsbD k.num = true) :
    (s.raise k a b).ev.seq = nextNumber s.ev.seq := by
  rw [State.raise_of_logged hLog, State.stageEvent_ev, State.modEv_ev, Events.logged]

end Occurrence

/-- Settles O19: the flags hold of both cases of the log flag, each case then says what it counts and stages, and the
frame holds of both again. -/
theorem occurrenceSetsPendingFlag : Obligations.OccurrenceSetsPendingFlag := by
  unfold Obligations.OccurrenceSetsPendingFlag
  intro k a b s
  refine ⟨?pending, ?enable, ?routes, fun hLog => ?notLogged,
    fun hLog => ⟨State.raise_seq_of_logged hLog, fun hSet hRoom => ?staged, fun hRefused => ?lost⟩,
    State.raise_frame, fun r hr => State.raise_rings_of_ne hr⟩
  case pending => rw [State.raise_ev, Events.setPending_pending]
  case enable => rw [State.raise_ev, Events.setPending_enable]
  case routes => rw [State.raise_ev, Events.setPending_routes]
  case notLogged =>
    rw [State.raise_of_not_logged hLog]
    exact ⟨rfl, rfl⟩
  case staged =>
    rw [State.raise_of_room hLog hSet hRoom, State.modRing_rings, upd_getElem_self]
    exact ⟨rfl, rfl⟩
  case lost =>
    rw [State.raise_of_refused hLog hRefused]
    exact ⟨rfl, rfl⟩

end Sys2Proof.Machine
end

section
/-! PROOFS. The rings: the answer to a producer word write and RING_READY (R34, R192). -/

namespace Sys2Proof.Machine

section WordAnswered

variable {r : Fin 4} {v : Idx} {s : State}

/-! ## The producer word in flight -/

theorem InFlight.liveValue_eq_some_iff {a : InFlight} : a.liveValue r = some v ↔ a.what = .prodWord r v .live := by
  unfold InFlight.liveValue
  split
  · next q u hWhat => simp [hWhat]
  · next hOther => simpa using hOther r v

theorem findSome?_liveValue {down : List InFlight} (hIn : ∃ a ∈ down, a.what = .prodWord r v .live)
    (hOnly : ∀ a ∈ down, ∀ u, a.what = .prodWord r u .live → u = v) :
    down.findSome? (InFlight.liveValue r) = some v := by
  obtain ⟨a, ha, hWhat⟩ := hIn
  have hSome : (down.findSome? (InFlight.liveValue r)).isSome := by
    rw [List.findSome?_isSome_iff]
    exact ⟨a, ha, Option.isSome_of_mem (InFlight.liveValue_eq_some_iff.2 hWhat)⟩
  obtain ⟨u, hu⟩ := Option.isSome_iff_exists.1 hSome
  obtain ⟨b, hb, hbu⟩ := List.exists_of_findSome?_eq_some hu
  rw [hu, hOnly b hb u (InFlight.liveValue_eq_some_iff.1 hbu)]

/-- Where all live writes of a producer word carry `v`, they are the writes of `v`. -/
theorem InFlight.liveValue_isSome {a : InFlight} (hOnly : ∀ u, a.what = .prodWord r u .live → u = v) :
    (a.liveValue r).isSome = (a.what == .prodWord r v .live) := by
  rw [Bool.eq_iff_iff, Option.isSome_iff_exists, beq_iff_eq]
  constructor
  · rintro ⟨u, hu⟩
    have hWhat := InFlight.liveValue_eq_some_iff.1 hu
    rwa [hOnly u hWhat] at hWhat
  · intro hWhat
    exact ⟨v, InFlight.liveValue_eq_some_iff.2 hWhat⟩

theorem State.landAll_congr {p q : InFlight → Bool} (h : ∀ a ∈ s.path.down, p a = q a) :
    s.landAll p = s.landAll q :=
  congrArg (fun down => { s with path := { s.path with down := down } })
    (List.filter_congr fun a ha => congrArg not (h a ha))

/-- The row lands the producer word and hands its value to the ring. -/
theorem exec_producerWordAnswered (hIn : ∃ a ∈ s.path.down, a.what = .prodWord r v .live)
    (hOnly : ∀ a ∈ s.path.down, ∀ u, a.what = .prodWord r u .live → u = v) :
    exec (.producerWordAnswered r) s
      = .next ((s.landAll (fun a => a.what == .prodWord r v .live)).wordAnswered r v) := by
  have hLand : s.landAll (fun a => (a.liveValue r).isSome) = s.landAll (fun a => a.what == .prodWord r v .live) :=
    State.landAll_congr fun a ha => InFlight.liveValue_isSome (hOnly a ha)
  change execProducerWordAnswered r s = _
  unfold execProducerWordAnswered
  rw [findSome?_liveValue hIn hOnly, ← hLand]

/-! ## RING_READY (R192) -/

/-- The count of unconsumed records reaches the notify count when the producer written becomes `v`. -/
def Ring.becomesReady (v : Idx) (g : Ring) : Prop :=
  g.notify ≤ Idx.ahead v g.consumer ∧ Idx.ahead g.written g.consumer < g.notify

theorem State.wordAnswered_of_ready (h : s.rings[r].becomesReady v) :
    s.wordAnswered r v = (s.modRing r (fun g => { g with written := v })).raise .ringReady r.val
      (Idx.ahead v s.rings[r].consumer) :=
  if_pos (by simpa [Ring.becomesReady] using h)

theorem State.wordAnswered_of_not_ready (h : ¬ s.rings[r].becomesReady v) :
    s.wordAnswered r v = s.modRing r (fun g => { g with written := v }) :=
  if_neg (by simpa [Ring.becomesReady] using h)

end WordAnswered

/-- Settles O41: the word lands whatever the counts, and the two cases of R192 decide on RING_READY. -/
theorem producerAdvanceRaisesRingReady : Obligations.ProducerAdvanceRaisesRingReady := by
  unfold Obligations.ProducerAdvanceRaisesRingReady
  intro r v s hIn hOnly
  rw [exec_producerWordAnswered hIn hOnly]
  constructor
  · intro hReady
    exact congrArg _ (State.wordAnswered_of_ready hReady)
  · intro hNot
    exact congrArg _ (State.wordAnswered_of_not_ready hNot)

end Sys2Proof.Machine
end
section
/-! PROOFS. What the work on lines, blobs, rows, cuts and frames keeps: one lemma for each operation of the Map Unit, the Blob
Tracker, the Cut Planner, the Cut Link and the Grader, named after it, so that a chain of operations is followed by the same
chain of lemmas. -/

/- The proofs that follow wait on one another, and each that waits holds a thread with its stack: one after the other, they
stay within the memory that the check gives. -/
set_option Elab.async false

namespace Sys2Proof.Machine

/-- What the guard of a ring depends on (R25). -/
def Ring.guard (g : Ring) : RingState × Nat × Nat := (g.state, g.base, g.capacity)

/-- The tallies of lines but for MAP_FULL: triggered, inspected, and uninspected of the other five kinds. -/
def Tallies.lines (t : Tallies) : List Nat :=
  [t.triggered, t.inspected, t.uninspected[0], t.uninspected[1], t.uninspected[2], t.uninspected[3], t.uninspected[4]]

/-- What the work that follows a line leaves alone, and what it does not break: it stays within the blocks behind the Ingest
Unit, clears no pending flag, makes no second ACTIVE campaign and keeps every depth. -/
structure Works (s t : State) : Prop where
  pending : t.pending = s.pending
  pos : t.pos = s.pos
  path : t.path = s.path
  ing : t.ing = s.ing
  cp : t.cp = s.cp
  guards : ∀ r : Fin 4, t.rings[r].guard = s.rings[r].guard
  lines : t.tally.live.lines = s.tally.live.lines
  flags : ∀ k, s.ev.pending.getLsbD k = true → t.ev.pending.getLsbD k = true
  active : s.oneActive → t.oneActive
  tables : s.tablesBounded → t.tablesBounded

namespace Works

variable {s t u : State}

/-! ## Composition -/

theorem refl (s : State) : Works s s where
  pending := rfl
  pos := rfl
  path := rfl
  ing := rfl
  cp := rfl
  guards _ := rfl
  lines := rfl
  flags _ h := h
  active h := h
  tables h := h

theorem trans (h : Works s t) (k : Works t u) : Works s u where
  pending := k.pending.trans h.pending
  pos := k.pos.trans h.pos
  path := k.path.trans h.path
  ing := k.ing.trans h.ing
  cp := k.cp.trans h.cp
  guards r := (k.guards r).trans (h.guards r)
  lines := k.lines.trans h.lines
  flags i hi := k.flags i (h.flags i hi)
  active hs := k.active (h.active hs)
  tables hs := k.tables (h.tables hs)

theorem foldl {α : Type} {f : State → α → State} (hf : ∀ u x, Works s u → Works s (f u x)) (l : List α) (h : Works s t) :
    Works s (l.foldl f t) := by
  induction l generalizing t with
  | nil => exact h
  | cons x xs ih => exact ih (hf t x h)

/-! ## The parts of the state -/

theorem modBlobs (h : Works s t) {f : Blobs → Blobs} : Works s (t.modBlobs f) := { h with }
theorem modGrader (h : Works s t) {f : Grader → Grader} : Works s (t.modGrader f) := { h with }

theorem tallied (h : Works s t) {f : Tallies → Tallies} (hf : (f t.tally.live).lines = t.tally.live.lines := by rfl) :
    Works s (t.tallied f) := { h with lines := hf.trans h.lines }

theorem modEv (h : Works s t) {f : Events → Events}
    (hf : ∀ k, t.ev.pending.getLsbD k = true → (f t.ev).pending.getLsbD k = true := by exact fun _ h => h) :
    Works s (t.modEv f) := { h with flags := fun k hk => hf k (h.flags k hk) }

theorem modMap (h : Works s t) {f : FlawMap → FlawMap}
    (hf : t.map.flaws.length ≤ 4096 → (f t.map).flaws.length ≤ 4096 := by exact fun h => h) : Works s (t.modMap f) :=
  { h with
    tables := fun hs =>
      let ⟨hFlaws, hRest⟩ := h.tables hs
      ⟨hf hFlaws, hRest⟩ }

theorem modPlan (h : Works s t) {f : Planner → Planner}
    (hf : t.plan.orders.length ≤ 32 → (f t.plan).orders.length ≤ 32 := by exact fun h => h)
    (ha : t.oneActive → (t.modPlan f).oneActive := by exact fun h => h) : Works s (t.modPlan f) :=
  { h with
    active := fun hs => ha (h.active hs)
    tables := fun hs =>
      let ⟨hFlaws, hOrders, hRest⟩ := h.tables hs
      ⟨hFlaws, hf hOrders, hRest⟩ }

/-- A change of the Cut Planner that keeps the campaign slots. -/
theorem modPlan_of_slots (h : Works s t) {f : Planner → Planner} (hs : (f t.plan).slots = t.plan.slots)
    (hf : t.plan.orders.length ≤ 32 → (f t.plan).orders.length ≤ 32 := by exact fun h => h) : Works s (t.modPlan f) :=
  h.modPlan hf fun ha c d => by simpa [hs] using ha c d

theorem modLink (h : Works s t) {f : Link → Link}
    (hc : t.link.cuts.length ≤ 16 → (f t.link).cuts.length ≤ 16 := by exact fun h => h)
    (hq : t.link.txq.length ≤ 8 → (f t.link).txq.length ≤ 8 := by exact fun h => h) : Works s (t.modLink f) :=
  { h with
    tables := fun hs =>
      let ⟨hFlaws, hOrders, hCuts, hTx, hRest⟩ := h.tables hs
      ⟨hFlaws, hOrders, hc hCuts, hq hTx, hRest⟩ }

end Works

/-- A ring keeps its guard and its depth where the ring that changes does. -/
theorem upd_ring_guard {v : Vector Ring 4} {q : Fin 4} {f : Ring → Ring} (hf : (f v[q]).guard = v[q].guard) (r : Fin 4) :
    (upd v q f)[r].guard = v[r].guard := by
  by_cases hqr : q = r
  · subst hqr
    rw [upd_getElem_self, hf]
  · rw [upd_getElem_of_ne _ _ hqr]

theorem upd_ring_staging {v : Vector Ring 4} {q : Fin 4} {f : Ring → Ring} {n : Nat}
    (hf : v[q].staging.length ≤ n → (f v[q]).staging.length ≤ n) {r : Fin 4} (hr : v[r].staging.length ≤ n) :
    (upd v q f)[r].staging.length ≤ n := by
  by_cases hqr : q = r
  · subst hqr
    rw [upd_getElem_self]
    exact hf hr
  · rw [upd_getElem_of_ne _ _ hqr]
    exact hr

theorem State.modRing_tablesBounded {s : State} {q : Fin 4} {f : Ring → Ring} (h : s.tablesBounded)
    (hf : s.rings[q].staging.length ≤ 8 → (f s.rings[q]).staging.length ≤ 8) : (s.modRing q f).tablesBounded := by
  obtain ⟨hFlaws, hOrders, hCuts, hTx, hFlaw, hEvent⟩ := h
  exact ⟨hFlaws, hOrders, hCuts, hTx, upd_ring_staging hf hFlaw, upd_ring_staging hf hEvent⟩

theorem State.modRing_tablesBounded_other {s : State} {q : Fin 4} {f : Ring → Ring} (hFlaw : q ≠ flawRing)
    (hEvent : q ≠ eventRing) (h : s.tablesBounded) : (s.modRing q f).tablesBounded := by
  unfold State.tablesBounded
  rw [State.modRing_rings, upd_getElem_of_ne _ _ hFlaw, upd_getElem_of_ne _ _ hEvent]
  exact h

namespace Works

variable {s t : State}

theorem modRing (h : Works s t) {q : Fin 4} {f : Ring → Ring} (hg : (f t.rings[q]).guard = t.rings[q].guard := by rfl)
    (hf : t.rings[q].staging.length ≤ 8 → (f t.rings[q]).staging.length ≤ 8 := by exact fun h => h) : Works s (t.modRing q f) :=
  { h with
    guards := fun r => (upd_ring_guard hg r).trans (h.guards r)
    tables := fun hs => State.modRing_tablesBounded (h.tables hs) hf }

theorem ite {c : Prop} [Decidable c] {u : State} (h : c → Works s t) (k : ¬ c → Works s u) :
    Works s (if c then t else u) := by
  split
  · exact h ‹_›
  · exact k ‹_›

/-! ## Flags -/

theorem setPending (h : Works s t) {k : EventKind} : Works s (t.modEv (Events.setPending k)) :=
  h.modEv fun i hi => by simp [hi]

theorem stageEvent (h : Works s t) {r : EventRec} : Works s (t.stageEvent r) := by
  by_cases hRoom : t.rings[eventRing].state = .unset ∨ 8 ≤ t.rings[eventRing].staging.length
  · rw [State.stageEvent_of_refused hRoom]
    exact h.modEv
  · obtain ⟨hSet, hLen⟩ := not_or.1 hRoom
    rw [State.stageEvent_of_room hSet (not_le.1 hLen)]
    exact h.modRing (hf := fun _ => by simpa [Ring.staged] using not_le.1 hLen)

theorem raise (h : Works s t) {k : EventKind} {a b : Nat} : Works s (t.raise k a b) :=
  ite (fun _ => (h.setPending.modEv).stageEvent) (fun _ => h.setPending)

theorem raiseIf (h : Works s t) {c : Bool} {k : EventKind} {a b : Nat} : Works s (t.raiseIf c k a b) :=
  ite (fun _ => h.raise) (fun _ => h)

end Works

/-! ## Lengths -/

theorem length_insertSorted {α : Type} (before : α → α → Bool) (x : α) (l : List α) :
    (insertSorted before x l).length = l.length + 1 := by
  induction l with
  | nil => rfl
  | cons y ys ih =>
    unfold insertSorted
    split
    · rfl
    · rw [List.length_cons, ih, List.length_cons]

@[simp] theorem length_modOrder (id : Nat) (f : Order → Order) (os : List Order) :
    (modOrder id f os).length = os.length := List.length_map _

@[simp] theorem length_modCut (n : Idx) (f : Cut → Cut) (cs : List Cut) : (modCut n f cs).length = cs.length :=
  List.length_map _

@[simp] theorem length_unplan (os : List Order) (l : LanePlate) : (unplan os l).length = os.length := by
  unfold unplan
  split <;> simp

@[simp] theorem length_commitLane (os : List Order) (l : LanePlate) : (commitLane os l).length = os.length := by
  unfold commitLane
  split <;> simp

/-- A fold that keeps the length at each step keeps it. -/
theorem length_foldl {α β : Type} {f : List α → β → List α} (hf : ∀ l x, (f l x).length = l.length) (xs : List β)
    (l : List α) : (xs.foldl f l).length = l.length := by
  induction xs generalizing l with
  | nil => rfl
  | cons x xs ih => rw [List.foldl_cons, ih, hf]

@[simp] theorem Planner.length_orders_tidyCarried (p : Planner) : p.tidyCarried.orders.length = p.orders.length := by
  unfold Planner.tidyCarried
  split <;> rfl

@[simp] theorem Planner.length_orders_discard (q : Row → Bool) (p : Planner) :
    (p.discard q).orders.length = p.orders.length := by
  unfold Planner.discard
  rw [Planner.length_orders_tidyCarried]
  exact length_foldl (fun os (r : Row) => length_foldl length_unplan r.lanes os) _ _

theorem length_fillLanes (n : Nat) (is : List Nat) (os : List Order) : (fillLanes n is os).2.length = os.length := by
  induction is generalizing os with
  | nil => rfl
  | cons i is ih =>
    unfold fillLanes
    split
    · exact (ih _).trans (length_modOrder _ _ _)
    · exact ih _

theorem length_reassignLanes (n : Nat) (ls : List (LanePlate × Nat)) (os : List Order) :
    (reassignLanes n ls os).2.1.length = os.length := by
  induction ls generalizing os with
  | nil => rfl
  | cons x ls ih =>
    obtain ⟨l, i⟩ := x
    unfold reassignLanes
    dsimp only
    split
    · split
      · exact ih os
      · split
        · exact ih os
        · split
          · exact ih os
          · exact (ih _).trans (by simp)
    · exact ih os

theorem Tallies.lines_uninspectedLines_mapFull (n : Nat) (t : Tallies) :
    (t.uninspectedLines .mapFull n).lines = t.lines := by
  simp [Tallies.lines, Tallies.uninspectedLines, SpanKind.uninspectedIndex, tallyAt, upd]

theorem FlawMap.enterPieces_flaws (k : SpanKind) (ps : List (Nat × Nat)) (m : FlawMap) :
    (ps.foldl (FlawMap.enterPiece k) m).flaws = m.flaws := by
  induction ps generalizing m with
  | nil => rfl
  | cons p ps ih =>
    rw [List.foldl_cons, ih]
    unfold FlawMap.enterPiece
    split
    · rfl
    · split <;> rfl

namespace Works

variable {s t : State}

/-! ## Map Unit -/

theorem requestSpan_mapFull (h : Works s t) {a b : Nat} : Works s (t.requestSpan .mapFull a b) :=
  (h.modMap (fun hLen => by rwa [FlawMap.enterPieces_flaws])).tallied (Tallies.lines_uninspectedLines_mapFull _ _)

theorem requestFlawRecord (h : Works s t) {f : Flaw} : Works s (t.requestFlawRecord f) := by
  unfold State.requestFlawRecord
  split
  · exact h
  · split
    next hRoom => exact (h.modRing (hf := fun _ => List.length_append.trans_le hRoom)).modMap
    next => exact h.modMap.raiseIf

theorem refuseFlaw (h : Works s t) {f : Flaw} : Works s (t.refuseFlaw f) := h.requestSpan_mapFull.modMap.raiseIf

theorem placeFlaw (h : Works s t) {f : Flaw} : Works s (t.placeFlaw f).1 := by
  unfold State.placeFlaw
  split
  · dsimp only
    exact h.modMap
  · split
    next hRoom =>
      dsimp only
      exact h.modMap fun _ => (length_insertSorted _ _ _).trans_le hRoom
    next => exact h.refuseFlaw

theorem offerBlob (h : Works s t) {b : Blob} : Works s (t.offerBlob b) :=
  (h.modMap.placeFlaw.requestFlawRecord).tallied (by simp [Tallies.lines, Tallies.flaw])

theorem setRetire (h : Works s t) {r : Retire} : Works s (t.setRetire r) :=
  h.modMap fun hLen => (List.length_filter_le _ _).trans hLen

/-! ## Blob Tracker -/

theorem closeByGap (h : Works s t) {closing : List Blob} : Works s (t.closeByGap closing) :=
  h.modBlobs.foldl (fun _ _ k => k.offerBlob) _

theorem makeRoom {j : Joining} (h : Works s j.st) {n : Nat} : Works s (j.makeRoom n).st := by
  unfold Joining.makeRoom
  split
  · exact h
  · split
    · exact h
    · exact (ite (fun _ => h.modBlobs) (fun _ => h.modBlobs.offerBlob)).raise

theorem run {j : Joining} (h : Works s j.st) {gc n : Nat} {before : List Blob} {r : Run} :
    Works s (j.run gc n before r).st := by
  unfold Joining.run
  split
  · dsimp only
    exact h.makeRoom.modBlobs
  · dsimp only
    exact h.modBlobs

theorem runs {gc n : Nat} {before : List Blob} (rs : List Run) {j : Joining} (h : Works s j.st) :
    Works s (rs.foldl (Joining.run gc n before) j).st := by
  induction rs generalizing j with
  | nil => exact h
  | cons r rs ih => exact ih h.run

theorem splitBlob (h : Works s t) {b : Blob} : Works s (t.splitBlob b) := h.offerBlob.modBlobs

theorem trackLine (h : Works s t) {n : Nat} {rs : List Run} : Works s (t.trackLine n rs) := by
  unfold State.trackLine
  exact ((runs rs (j := { st := t.closeByGap _, moved := _ }) h.closeByGap).foldl (fun _ _ k => k.splitBlob) _).modBlobs

/-! ## Rows and orders -/

theorem testWaiting (h : Works s t) : Works s t.testWaiting := by
  unfold State.testWaiting
  split
  · exact h
  · exact ite (fun _ => h) (fun _ => h.modGrader)

theorem handToGrader (h : Works s t) : Works s t.handToGrader := by
  unfold State.handToGrader
  split
  · exact ite (fun _ => h.modGrader.testWaiting) (fun _ => h)
  · exact h

theorem recordEdges (h : Works s t) {line left right : Nat} : Works s (t.recordEdges line left right) := by
  unfold State.recordEdges
  refine h.modPlan_of_slots ?slots ?orders
  case slots =>
    split
    · rfl
    · split <;> rfl
  case orders =>
    split
    · exact fun hLen => hLen
    · split <;> exact fun hLen => hLen

theorem giveRetire (h : Works s t) : Works s t.giveRetire := h.setRetire

/-- A slot that takes a value other than ACTIVE makes no second ACTIVE campaign. -/
theorem oneActive_set {t : State} {i : Fin 2} {x : CampSlot} (hx : ∀ c, x ≠ .active c) {f : Planner → Planner}
    (hf : (f t.plan).slots = t.plan.slots.set i x) : (t.modPlan f).oneActive := by
  intro c d
  rw [State.modPlan_plan, hf]
  match i with
  | 0 => exact fun hcd => hx c (by simpa using hcd.1)
  | 1 => exact fun hcd => hx d (by simpa using hcd.2)

theorem endCampaign (h : Works s t) : Works s t.endCampaign := by
  unfold State.endCampaign
  split
  · exact h
  next i c _ =>
    refine ((h.modPlan (fun hLen => by simpa using hLen) (fun _ => ?_)).modLink).giveRetire
    refine oneActive_set (i := i) ?_ (by simp; rfl)
    intro d
    split <;> simp

theorem doneTest (h : Works s t) {id : Nat} : Works s (t.doneTest id) := by
  unfold State.doneTest
  split
  · exact h
  · split
    · exact ite (fun _ => (h.modPlan (fun hLen => by simpa using hLen)).raise.endCampaign)
        (fun _ => (h.modPlan (fun hLen => by simpa using hLen)).raise)
    · exact ite (fun _ => h.modPlan fun hLen => (List.length_filter_le _ _).trans hLen) (fun _ => h)

theorem settle (h : Works s t) {id : Nat} {g : Grade} : Works s (t.settle id g).1 := by
  unfold State.settle
  split
  · exact h
  · split
    · exact (h.modPlan (fun hLen => by simpa using hLen)).doneTest
    · dsimp only
      split
      · exact ((h.modPlan (fun hLen => by simpa using hLen)).doneTest).doneTest
      · exact (h.modPlan (fun hLen => by simpa using hLen)).doneTest

theorem recordResolution (h : Works s t) {n : Idx} {res : Resolution} : Works s (t.recordResolution n res) :=
  h.modPlan.handToGrader

/-! ## Cut Link -/

end Works

theorem Link.queueCuts_fits (cs : List Cut) (l : Link) :
    let m := cs.foldl (fun l c =>
      if c.status = .unsent ∧ l.txq.length < Config.txMax then
        { l with txq := l.txq ++ [c.frame], cuts := modCut c.num (fun c => { c with status := .queued }) l.cuts }
      else l) l
    m.cuts.length = l.cuts.length ∧ (l.txq.length ≤ 8 → m.txq.length ≤ 8) := by
  induction cs generalizing l with
  | nil => exact ⟨rfl, fun h => h⟩
  | cons c cs ih =>
    rw [List.foldl_cons]
    split
    next hRoom =>
      obtain ⟨hCuts, hTx⟩ := ih { l with
        txq := l.txq ++ [c.frame], cuts := modCut c.num (fun c => { c with status := .queued }) l.cuts }
      exact ⟨hCuts.trans (length_modCut _ _ _), fun _ => hTx (List.length_append.trans_le hRoom.2)⟩
    next => exact ih l

theorem Link.length_cuts_queueCuts (l : Link) : l.queueCuts.cuts.length = l.cuts.length :=
  (Link.queueCuts_fits l.cuts l).1

theorem Link.length_txq_queueCuts (l : Link) (h : l.txq.length ≤ 8) : l.queueCuts.txq.length ≤ 8 :=
  (Link.queueCuts_fits l.cuts l).2 h

/-- The transmit queue after its first source, the pending LANES frame (R127). -/
def Link.queueLanes (l : Link) : Link :=
  match l.lanesPending with
  | some e => if l.txq.length < Config.txMax then { l with txq := l.txq ++ [.lanes e], lanesPending := none } else l
  | none => l

theorem Link.cuts_queueLanes (l : Link) : l.queueLanes.cuts = l.cuts := by
  unfold Link.queueLanes
  split
  · split <;> rfl
  · rfl

theorem Link.length_txq_queueLanes (l : Link) (h : l.txq.length ≤ 8) : l.queueLanes.txq.length ≤ 8 := by
  unfold Link.queueLanes
  split
  · split
    next hRoom => exact List.length_append.trans_le hRoom
    next => exact h
  · exact h

theorem State.fillQueue_eq (s : State) : s.fillQueue =
    if !s.link.on then s
    else s.modLink (fun l => if s.readiness then l.queueLanes.queueCuts else l.queueLanes) := rfl

/-- A DRAINING slot that becomes NONE makes no second ACTIVE campaign. -/
theorem Planner.freeSlot_oneActive {p : Planner} (h : ∀ c d, ¬ (p.slots[0] = .active c ∧ p.slots[1] = .active d)) (i : Fin 2) :
    ∀ c d, ¬ ((p.freeSlot i).slots[0] = .active c ∧ (p.freeSlot i).slots[1] = .active d) := by
  unfold Planner.freeSlot
  split
  · split
    · exact h
    · match i with
      | 0 => simp
      | 1 => simp
  all_goals exact h

namespace Works

variable {s t : State}

theorem fillQueue (h : Works s t) : Works s t.fillQueue := by
  rw [State.fillQueue_eq]
  refine ite (fun _ => h) (fun _ => h.modLink ?cuts ?txq)
  case cuts =>
    intro hCuts
    split
    · rwa [Link.length_cuts_queueCuts, Link.cuts_queueLanes]
    · rwa [Link.cuts_queueLanes]
  case txq =>
    intro hTx
    split
    · exact Link.length_txq_queueCuts _ (Link.length_txq_queueLanes _ hTx)
    · exact Link.length_txq_queueLanes _ hTx

theorem requestLanes (h : Works s t) : Works s t.requestLanes := by
  unfold State.requestLanes
  split
  · exact h
  · exact h.modLink

theorem heldUnsent (h : Works s t) {n : Idx} : Works s (t.heldUnsent n) := ite (fun _ => h) (fun _ => h.modLink.raise)

theorem reportMissed (h : Works s t) {n : Idx} {cause : MissCause} {reason : Nat} :
    Works s (t.reportMissed n cause reason) := by
  unfold State.reportMissed
  exact (h.recordResolution.modLink.raise).tallied

/-- Cuts of the list change, and frames leave the queue. -/
theorem modCut_withdraw (h : Works s t) {n : Idx} {f : Cut → Cut} :
    Works s (t.modLink (fun l => ({ l with cuts := modCut n f l.cuts } : Link).withdraw n)) :=
  h.modLink (fun hCuts => (length_modCut _ _ _).trans_le hCuts) (fun hTx => (List.length_filter_le _ _).trans hTx)

theorem missCut (h : Works s t) {n : Idx} {cause : MissCause} {reason : Nat} : Works s (t.missCut n cause reason) :=
  h.modCut_withdraw.reportMissed

theorem missCuts (h : Works s t) {ns : List Idx} {cause : MissCause} : Works s (t.missCuts ns cause) :=
  h.foldl (fun _ _ k => k.missCut) _

theorem scoreCut (h : Works s t) {c : Cut} {actual : Nat} {offset : Bool} : Works s (t.scoreCut c actual offset) :=
  (h.modCut_withdraw.raiseIf.recordResolution).tallied

theorem settleLink (h : Works s t) : Works s t.settleLink :=
  (h.modLink (fun hCuts => (List.dropWhile_sublist _).length_le.trans hCuts)).fillQueue

theorem handOn (h : Works s t) {n : Idx} {line : Nat} {plateEnd : Bool} {gc scoreLate tolerance : Nat} :
    Works s (t.handOn n line plateEnd gc scoreLate tolerance) := by
  unfold State.handOn
  refine ite (fun _ => h.modLink.modLink.reportMissed) (fun hRoom => ?_)
  have hFree := not_le.1 (not_or.1 hRoom).1
  exact (h.modLink.modLink (fun _ => List.length_append.trans_le hFree)).heldUnsent.fillQueue

theorem deadlineTest (h : Works s t) : Works s t.deadlineTest := h.missCuts.settleLink

theorem readinessFell (h : Works s t) : Works s t.readinessFell := by
  unfold State.readinessFell
  exact ((h.modLink (fun hCuts => (List.length_map _).trans_le hCuts)
    (fun hTx => (List.length_filter_le _ _).trans hTx)).foldl (fun _ _ k => k.heldUnsent) _).fillQueue

theorem readinessRose (h : Works s t) : Works s t.readinessRose := h.modLink.missCuts.requestLanes.settleLink

theorem judgeReadiness (h : Works s t) {old : Bool} : Works s (t.judgeReadiness old) := by
  unfold State.judgeReadiness
  split
  · exact h.readinessFell
  · exact h.readinessRose
  · exact h

theorem lateAnswer (h : Works s t) {kind : Byte} {c : Idx} : Works s (t.lateAnswer kind c) := h.modLink.raise

theorem strangeAnswer (h : Works s t) {kind : Byte} {c : Idx} : Works s (t.strangeAnswer kind c) :=
  ite (fun _ => h.lateAnswer) (fun _ => h.modLink.raise)

theorem duplicateAnswer (h : Works s t) : Works s t.duplicateAnswer := h.modLink

theorem answerAccept (h : Works s t) {c : Idx} : Works s (t.answerAccept c) := by
  unfold State.answerAccept
  split
  · exact h.strangeAnswer
  · split
    iterate 3 exact h.modCut_withdraw.fillQueue
    iterate 2 exact h.duplicateAnswer
    exact h.lateAnswer

theorem answerScored (h : Works s t) {c : Idx} {actual : Nat} : Works s (t.answerScored c actual) := by
  unfold State.answerScored
  split
  · exact h.strangeAnswer
  · split
    iterate 4 exact (ite (fun _ => h.missCuts.missCut) (fun _ => h.missCuts.scoreCut)).settleLink
    · exact h.duplicateAnswer
    · exact h.lateAnswer

theorem answerRefuse (h : Works s t) {c : Idx} {reason : Nat} : Works s (t.answerRefuse c reason) := by
  unfold State.answerRefuse
  split
  · exact h.strangeAnswer
  · split
    iterate 4 exact h.modLink.missCut.settleLink
    · exact h.lateAnswer
    · exact h.duplicateAnswer

theorem answerReady (h : Works s t) {r : Bool} : Works s (t.answerReady r) := h.modLink.judgeReadiness

theorem ackExpired (h : Works s t) {c : Cut} : Works s (t.ackExpired c) :=
  ite (fun _ => (h.modLink (fun hCuts => (length_modCut _ _ _).trans_le hCuts)).heldUnsent.fillQueue)
    (fun _ => h.missCut.settleLink)

theorem countAckTimers (h : Works s t) : Works s t.countAckTimers :=
  h.modLink (fun hCuts => (List.length_map _).trans_le hCuts)

/-! ## Receiving -/

theorem discardFrame (h : Works s t) {k : LinkErrorKind} {next : FramerState} : Works s (t.discardFrame k next) := by
  unfold State.discardFrame
  exact h.modLink.raise.tallied

theorem setFramer (h : Works s t) {f : Framer} : Works s (t.setFramer f) := h.modLink

theorem stray (h : Works s t) {n : Nat} : Works s (t.stray n) := h.modLink

theorem completeFrame (h : Works s t) : Works s t.completeFrame := h.modLink

theorem takeGood (h : Works s t) {b : Byte} : Works s (t.takeGood b) := by
  unfold State.takeGood
  dsimp only
  split
  · exact h.stray
  · exact ite (fun _ => h.setFramer) (fun _ => h.discardFrame)
  · exact h.setFramer
  · exact ite (fun _ => h.discardFrame) (fun _ => h.setFramer)
  · exact h.setFramer
  · exact ite (fun _ => h.completeFrame) (fun _ => h.discardFrame)

theorem takeChar (h : Works s t) {c : RxChar} : Works s (t.takeChar c) := by
  unfold State.takeChar
  split
  · exact h.takeGood
  · exact ite (fun _ => h.stray) (fun _ => h.discardFrame)

theorem takeBreak (h : Works s t) : Works s t.takeBreak := by
  unfold State.takeBreak
  split
  iterate 2 exact h.setFramer
  iterate 4 exact h.discardFrame

theorem holdInput (h : Works s t) {i : RxInput} : Works s (t.holdInput i) := by
  unfold State.holdInput
  refine h.modLink ?cuts ?txq
  all_goals
    split
    · split <;> exact fun hLen => hLen
    · split <;> exact fun hLen => hLen

theorem receive (h : Works s t) {i : RxInput} : Works s (t.receive i) := by
  unfold State.receive
  refine ite (fun _ => h) (fun _ => ite (fun _ => h.holdInput) (fun _ => ?_))
  split
  · exact h.takeChar
  · exact h.takeBreak

theorem takeHeldChar (h : Works s t) {c : RxChar} {n : Nat} : Works s (t.takeHeldChar c n) :=
  ite (fun _ => h.takeChar) (fun _ => ite (fun _ => h.takeChar.stray) (fun _ => h.discardFrame))

theorem endAction (h : Works s t) : Works s t.endAction := by
  unfold State.endAction
  dsimp only
  split
  · exact h.modLink
  · exact h.modLink.takeBreak
  · exact h.modLink.takeHeldChar
  · exact ite (fun _ => h.modLink.takeBreak.takeHeldChar) (fun _ => h.modLink.takeHeldChar.takeBreak)

theorem actionDone (h : Works s t) : Works s t.actionDone := h.modLink

theorem countReceived (h : Works s t) {i : Fin 4} : Works s (t.countReceived i) := h.modLink

theorem sendStart (h : Works s t) : Works s t.sendStart := by
  unfold State.sendStart
  refine ite (fun _ => ?_) (fun _ => h)
  split
  · exact h
  next hTx => exact (h.modLink (hq := fun hLen => by rw [hTx] at hLen; exact Nat.le_of_succ_le hLen)).fillQueue

theorem sendComplete (h : Works s t) : Works s t.sendComplete := by
  unfold State.sendComplete
  split
  · exact h
  · dsimp only
    split
    · exact h.modLink (fun hCuts => (length_modCut _ _ _).trans_le hCuts)
    · exact h.modLink

theorem malformed (h : Works s t) {a : ActingFrame} : Works s (t.malformed a) := h.modLink.raise.actionDone

/-! ## Planning -/

theorem layRow (h : Works s t) {kind : RowKind} {slot : Fin 2} {start stop : Nat} {lanes : List LanePlate} :
    Works s (t.layRow kind slot start stop lanes) := h.modPlan

theorem layOpening (h : Works s t) {o : Opening} {i : Fin 2} {c : Campaign} : Works s (t.layOpening o i c) := by
  unfold State.layOpening
  dsimp only
  split
  · split
    · exact ite (fun _ => h.modPlan.layRow) (fun _ => h.modPlan)
    · exact h.modPlan.layRow
  · split <;> exact h.modPlan.layRow.giveRetire

theorem layGap (h : Works s t) {i : Fin 2} {c : Campaign} {x : Nat} : Works s (t.layGap i c x) := by
  unfold State.layGap
  exact h.layRow.raise.modPlan

theorem layPlateRow (h : Works s t) {i : Fin 2} {c : Campaign} {x : Nat} : Works s (t.layPlateRow i c x) := by
  unfold State.layPlateRow
  split
  · exact (h.modPlan (fun hLen => (length_fillLanes _ _ _).trans_le hLen)).layRow
  · exact h.layRow

theorem layFromExtent {i : Fin 2} {c : Campaign} (fuel : Nat) (h : Works s t) : Works s (State.layFromExtent i c fuel t) := by
  induction fuel generalizing t with
  | zero => exact h
  | succ fuel ih =>
    unfold State.layFromExtent
    split
    · exact h
    · exact ite (fun _ => ite (fun _ => ih h.layGap) (fun _ => h.layPlateRow)) (fun _ => h)

theorem layLoop (fuel : Nat) (h : Works s t) : Works s (State.layLoop fuel t) := by
  induction fuel generalizing t with
  | zero => exact h
  | succ fuel ih =>
    unfold State.layLoop
    split
    · exact h
    · refine ite (fun _ => h) (fun _ => ?_)
      split
      · exact ih h.layOpening
      · exact ite (fun _ => ih (layFromExtent 3 h)) (fun _ => h)
      · exact h

theorem runPlanning (h : Works s t) : Works s t.runPlanning := layLoop _ h

theorem discard (h : Works s t) {q : Row → Bool} : Works s (t.modPlan (fun p => p.discard q)) :=
  h.modPlan_of_slots (Planner.discard_slots _ _) (fun hLen => (Planner.length_orders_discard _ _).trans_le hLen)

theorem replan (h : Works s t) : Works s t.replan := ite (fun _ => h.discard.runPlanning.giveRetire) (fun _ => h)

theorem commitRow (h : Works s t) {r : Row} {c : Campaign} : Works s (t.commitRow r c) := by
  unfold State.commitRow
  exact ((h.modPlan (fun hLen => (length_foldl length_commitLane _ _).trans_le hLen)).raiseIf.tallied).handOn

theorem commitLoop (fuel : Nat) (h : Works s t) : Works s (State.commitLoop fuel t) := by
  induction fuel generalizing t with
  | zero => exact h
  | succ fuel ih =>
    unfold State.commitLoop
    split
    · exact h
    · split
      · exact h
      · exact ite (fun _ => ih h.commitRow) (fun _ => h)

theorem commitTest (h : Works s t) : Works s t.commitTest := commitLoop _ h

theorem setRow (h : Works s t) {r : Row} : Works s (t.setRow r) := h.modPlan

theorem shiftRow (h : Works s t) {r : Row} {start : Nat} : Works s (t.shiftRow r start) := by
  unfold State.shiftRow
  exact (h.discard.modPlan).raise.runPlanning.commitTest

theorem acceptRow (h : Works s t) {r : Row} {c : Campaign} : Works s (t.acceptRow r c) := by
  unfold State.acceptRow
  exact ite (fun _ => (h.modPlan (fun hLen => (length_reassignLanes _ _ _).trans_le hLen)).setRow) (fun _ => h.setRow)

theorem sealRow (h : Works s t) {r : Row} {c : Campaign} : Works s (t.sealRow r c).1 := by
  unfold State.sealRow
  split
  · exact h.setRow
  · dsimp only
    split
    · exact h.modGrader.setRow.shiftRow
    · exact h.modGrader.setRow.acceptRow

theorem sealLoop {n : Nat} {f : Option Nat} (fuel : Nat) (h : Works s t) : Works s (State.sealLoop n f fuel t) := by
  induction fuel generalizing t with
  | zero => exact h
  | succ fuel ih =>
    unfold State.sealLoop
    split
    · exact h
    next r _ =>
      split
      · exact h
      next c _ =>
        refine ite (fun _ => ?_) (fun _ => h)
        have hSeal : Works s (t.sealRow r c).1 := h.sealRow
        split
        next hEq => rw [hEq] at hSeal; exact ih hSeal
        next hEq => rwa [hEq] at hSeal

theorem lineDone (h : Works s t) {n : Nat} : Works s (t.lineDone n) := sealLoop _ h

theorem planTrigger (h : Works s t) : Works s t.planTrigger := h.commitTest.runPlanning

theorem planBreak (h : Works s t) : Works s t.planBreak := h.discard.giveRetire

theorem planClear (h : Works s t) : Works s t.planClear := ite (fun _ => h.modPlan.runPlanning) (fun _ => h)

theorem trackAndReport (h : Works s t) {m : Nat} {rs : List Run} : Works s (t.trackAndReport m rs) := h.trackLine.lineDone

/-! ## Final grading -/

theorem laneOutcome (h : Works s t) {l : LanePlate} {g : Grade} : Works s (t.laneOutcome l g).1 := by
  unfold State.laneOutcome
  split
  · exact h.settle
  · exact h

theorem outcomes (ls : List (LanePlate × PlateResult)) (h : Works s t) : Works s (t.outcomes ls).1 := by
  induction ls generalizing t with
  | nil => exact h
  | cons x ls ih => exact ih h.laneOutcome

/-- A ring whose staging has no depth among the tables. -/
theorem modRing_other (h : Works s t) {q : Fin 4} {f : Ring → Ring} (hFlaw : q ≠ flawRing) (hEvent : q ≠ eventRing)
    (hg : (f t.rings[q]).guard = t.rings[q].guard := by rfl) : Works s (t.modRing q f) :=
  { h with
    guards := fun r => (upd_ring_guard hg r).trans (h.guards r)
    tables := fun hs => State.modRing_tablesBounded_other hFlaw hEvent (h.tables hs) }

theorem placePlate (h : Works s t) {p : PlateRec} : Works s (t.placePlate p) :=
  ite (fun _ => h.modGrader) (fun _ => h.modGrader.modRing_other (by decide) (by decide))

theorem finishPlate (h : Works s t) {row : Row} {x : LaneFinal} : Works s (t.finishPlate row x) := by
  unfold State.finishPlate
  exact (h.placePlate.tallied).modGrader

theorem rejectEvent (h : Works s t) {row : Row} {p : LaneFinal × Nat} : Works s (t.rejectEvent row p) :=
  ite (fun _ => h.raise.modGrader) (fun _ => h)

theorem gradePlateRow (h : Works s t) {row : Row} {c : Campaign} : Works s (t.gradePlateRow row c) := by
  unfold State.gradePlateRow
  exact ((outcomes _ h).foldl (fun _ _ k => k.finishPlate) _).foldl (fun _ _ k => k.rejectEvent) _

theorem gradeCulletRow (h : Works s t) {row : Row} {c : Campaign} : Works s (t.gradeCulletRow row c) := by
  unfold State.gradeCulletRow
  exact (h.placePlate.tallied).modGrader

theorem retireLoop (fuel : Nat) (h : Works s t) : Works s (State.retireLoop fuel t) := by
  induction fuel generalizing t with
  | zero => exact h
  | succ fuel ih =>
    unfold State.retireLoop
    split
    next r rest _ =>
      refine ite (fun _ => ih (Works.runPlanning (Works.giveRetire (h.modPlan ?orders ?active)))) (fun _ => h)
      case orders =>
        intro hLen
        rw [Planner.length_orders_tidyCarried]
        unfold Planner.freeSlot
        split
        · split <;> exact hLen
        all_goals exact hLen
      case active =>
        intro ha c d
        rw [State.modPlan_plan, Planner.tidyCarried_slots]
        exact Planner.freeSlot_oneActive (p := { t.plan with rows := rest, counters := _ }) ha r.slot c d
    · exact h

theorem rowDone (h : Works s t) {n : Nat} : Works s (t.rowDone n) := by
  unfold State.rowDone
  exact (retireLoop _ h.modGrader.modPlan).handToGrader

theorem gradeRow (h : Works s t) {row : Row} : Works s (t.gradeRow row) := by
  unfold State.gradeRow
  split
  · exact h
  · exact (ite (fun _ => h.gradePlateRow) (fun _ => h.gradeCulletRow)).rowDone

theorem finalGrading (h : Works s t) {w : Waiting} : Works s (t.finalGrading w) := by
  unfold State.finalGrading
  refine ite (fun _ => ?_) (fun _ => h.testWaiting)
  split
  · exact h.gradeRow
  · exact h

theorem onFrame (h : Works s t) {kind : Byte} {i : Fin 4} {act : List Byte → State → State}
    (ha : ∀ p u, Works s u → Works s (act p u)) : Works s (t.onFrame kind i act) := by
  unfold State.onFrame
  split
  · exact (ha _ _ h.countReceived).actionDone
  · exact h

end Works

end Sys2Proof.Machine
end
section
/-! PROOFS. The invariants of the part (R21 to R23, R27, R29, R2, R17, R40, R48, R76, R78, R89, R94, R127, R129, R187): what every
operation keeps, one lemma for each operation of the Ingest Unit, the Position Unit, the Path Unit, the Ring Writer and the
Command Processor, named after it; then every row, and every step. -/

/- The proofs that follow wait on one another, and each that waits holds a thread with its stack: one after the other, they
stay within the memory that the check gives. -/
set_option Elab.async false

namespace Sys2Proof.Machine

/-- The pulse list stands in rising order between the assembled line number and line `b`, its captures below the next one. -/
def Ingest.pulsesTo (b : Nat) (g : Ingest) : Prop :=
  g.assembled ≤ b ∧ g.pulses.Pairwise (fun p q => p.line < q.line)
    ∧ ∀ p ∈ g.pulses, g.assembled < p.line ∧ p.line ≤ b ∧ ∀ q, p.capture = some q → q < g.captures

theorem State.pulsesSound_iff {s : State} : s.pulsesSound ↔ s.ing.pulsesTo s.pos.line := Iff.rfl

/-- The registers of the Position Unit that the invariants speak of. -/
def Position.counted (p : Position) : Nat × Nat × Nat × Nat × Nat := (p.line, p.phase, p.dv, p.deficit, p.tod)

/-- The parts of the Path Unit that the invariants speak of. -/
def Path.kept (p : Path) : BitVec 4 × Vector WinEntry 16 × List QueuedWrite × List QueuedRead × Option Hold :=
  (p.straps, p.window, p.writes, p.reads, p.hold)

/-- The parts of the Ingest Unit that the invariants speak of. -/
def Ingest.kept (g : Ingest) : Nat × Nat × List Pulse × Cols := (g.assembled, g.captures, g.pulses, g.cols)

/-- The invariants of the part, and the queue of waiting commands, that a change keeps. -/
structure Keeps (s t : State) : Prop where
  pending : t.pending = s.pending
  control : s.entryZero → t.entryZero
  queues : s.queuesBounded → t.queuesBounded
  clock : s.clockInDay → t.clockInDay
  counts : s.countsInRange → t.countsInRange
  cols : s.colsCanonical → t.colsCanonical
  pulses : s.pulsesSound → t.pulsesSound
  active : s.oneActive → t.oneActive
  held : s.queueSound → t.queueSound
  tables : s.tablesBounded → t.tablesBounded

theorem Works.keeps {s t : State} (w : Works s t) : Keeps s t where
  pending := w.pending
  control h := by rwa [State.entryZero, w.path]
  queues h := by rwa [State.queuesBounded, w.path]
  clock h := by rwa [State.clockInDay, w.pos]
  counts h := by rwa [State.countsInRange, w.pos, w.cp]
  cols h := by rwa [State.colsCanonical, w.ing]
  pulses h := by rwa [State.pulsesSound, w.ing, w.pos]
  active := w.active
  held h := by rwa [State.queueSound, w.path]
  tables := w.tables

namespace Keeps

variable {s t u : State}

/-! ## Composition -/

theorem refl (s : State) : Keeps s s := (Works.refl s).keeps

theorem trans (h : Keeps s t) (k : Keeps t u) : Keeps s u where
  pending := k.pending.trans h.pending
  control hs := k.control (h.control hs)
  queues hs := k.queues (h.queues hs)
  clock hs := k.clock (h.clock hs)
  counts hs := k.counts (h.counts hs)
  cols hs := k.cols (h.cols hs)
  pulses hs := k.pulses (h.pulses hs)
  active hs := k.active (h.active hs)
  held hs := k.held (h.held hs)
  tables hs := k.tables (h.tables hs)

/-- The work of the blocks behind the Ingest Unit breaks no invariant. -/
theorem works (h : Keeps s t) (w : Works t u) : Keeps s u := h.trans w.keeps

theorem foldl {α : Type} {f : State → α → State} (hf : ∀ u x, Keeps s u → Keeps s (f u x)) (l : List α) (h : Keeps s t) :
    Keeps s (l.foldl f t) := by
  induction l generalizing t with
  | nil => exact h
  | cons x xs ih => exact ih (hf t x h)

theorem ite {c : Prop} [Decidable c] (h : c → Keeps s t) (k : ¬ c → Keeps s u) : Keeps s (if c then t else u) := by
  split
  · exact h ‹_›
  · exact k ‹_›

/-! ## The parts of the state -/

theorem modBlobs (h : Keeps s t) {f : Blobs → Blobs} : Keeps s (t.modBlobs f) := { h with }
theorem modGrader (h : Keeps s t) {f : Grader → Grader} : Keeps s (t.modGrader f) := { h with }
theorem modTally (h : Keeps s t) {f : Tally → Tally} : Keeps s (t.modTally f) := { h with }
theorem tallied (h : Keeps s t) {f : Tallies → Tallies} : Keeps s (t.tallied f) := { h with }
theorem modEv (h : Keeps s t) {f : Events → Events} : Keeps s (t.modEv f) := { h with }

theorem modPos (h : Keeps s t) {f : Position → Position} (hf : (f t.pos).counted = t.pos.counted := by rfl) :
    Keeps s (t.modPos f) := by
  simp only [Position.counted, Prod.mk.injEq] at hf
  obtain ⟨hLine, hPhase, hDv, hDeficit, hTod⟩ := hf
  exact { h with
    clock := fun hs => hTod.trans_lt (h.clock hs)
    counts := fun hs => by
      obtain ⟨hRange, hMax⟩ := h.counts hs
      refine ⟨fun hReady => ?_, ?_⟩
      · rw [State.modPos_pos, hPhase, hDv]
        exact hRange hReady
      · rwa [State.modPos_pos, hDeficit]
    pulses := fun hs => by
      rw [State.pulsesSound_iff, State.modPos_pos, hLine]
      exact h.pulses hs }

/-- A change of the Position Unit that keeps its ranges. -/
theorem modPos_ranges (h : Keeps s t) {f : Position → Position} (hLine : t.pos.line ≤ (f t.pos).line)
    (hTod : t.pos.tod < 86400000 → (f t.pos).tod < 86400000) (hCounts : t.countsInRange → (t.modPos f).countsInRange) :
    Keeps s (t.modPos f) :=
  { h with
    clock := fun hs => hTod (h.clock hs)
    counts := fun hs => hCounts (h.counts hs)
    pulses := fun hs =>
      let ⟨hTop, hRising, hRange⟩ := h.pulses hs
      ⟨hTop.trans hLine, hRising, fun p hp => ⟨(hRange p hp).1, (hRange p hp).2.1.trans hLine, (hRange p hp).2.2⟩⟩ }

/-- A change of the queues and the hold slot. -/
theorem modPath_queues (h : Keeps s t) {f : Path → Path} (hHeld : t.queueSound → (t.modPath f).queueSound)
    (hWrites : t.path.writes.length ≤ 32 → (f t.path).writes.length ≤ 32 := by exact fun h => h)
    (hReads : t.path.reads.length ≤ 32 → (f t.path).reads.length ≤ 32 := by exact fun h => h)
    (hStraps : (f t.path).straps = t.path.straps := by rfl) (hWindow : (f t.path).window[0] = t.path.window[0] := by rfl) :
    Keeps s (t.modPath f) :=
  { h with
    control := fun hs => by
      rw [State.entryZero, State.modPath_path, hStraps, hWindow]
      exact h.control hs
    queues := fun hs =>
      let ⟨hW, hR⟩ := h.queues hs
      ⟨hWrites hW, hReads hR⟩
    held := fun hs => hHeld (h.held hs) }

theorem modPath (h : Keeps s t) {f : Path → Path} (hf : (f t.path).kept = t.path.kept := by rfl) :
    Keeps s (t.modPath f) := by
  simp only [Path.kept, Prod.mk.injEq] at hf
  obtain ⟨hStraps, hWindow, hWrites, hReads, hHold⟩ := hf
  exact { h with
    control := fun hs => by
      rw [State.entryZero, State.modPath_path, hStraps, hWindow]
      exact h.control hs
    queues := fun hs => by
      rw [State.queuesBounded, State.modPath_path, hWrites, hReads]
      exact h.queues hs
    held := fun hs => by
      rw [State.queueSound, State.modPath_path, hWrites, hHold]
      exact h.held hs }

theorem modIng (h : Keeps s t) {f : Ingest → Ingest} (hf : (f t.ing).kept = t.ing.kept := by rfl) :
    Keeps s (t.modIng f) := by
  simp only [Ingest.kept, Prod.mk.injEq] at hf
  obtain ⟨hAssembled, hCaptures, hPulses, hCols⟩ := hf
  exact { h with
    cols := fun hs => by
      rw [State.colsCanonical, State.modIng_ing, hCols]
      exact h.cols hs
    pulses := fun hs => by
      rw [State.pulsesSound, State.modIng_ing, hAssembled, hCaptures, hPulses]
      exact h.pulses hs }

/-- A change of the pulse list that keeps its order. -/
theorem modIng_pulses (h : Keeps s t) {f : Ingest → Ingest} (hp : s.pulsesSound → (f t.ing).pulsesTo t.pos.line)
    (hCols : (f t.ing).cols = t.ing.cols := by rfl) :
    Keeps s (t.modIng f) :=
  { h with
    cols := fun hs => by
      rw [State.colsCanonical, State.modIng_ing, hCols]
      exact h.cols hs
    pulses := hp }

theorem modIng_cols (h : Keeps s t) {c : Cols} (hc : t.ing.cols.wf = true → c.wf = true) :
    Keeps s (t.modIng (fun g => { g with cols := c })) := { h with cols := fun hs => hc (h.cols hs) }

theorem modCam (h : Keeps s t) {c : Fin 8} {f : Camera → Camera} : Keeps s (t.modCam c f) := h.modIng

theorem modCp (h : Keeps s t) {f : CmdProc → CmdProc} (hf : (f t.cp).binding = t.cp.binding := by rfl) :
    Keeps s (t.modCp f) :=
  { h with
    counts := fun hs => by
      rw [State.countsInRange, State.modCp_cp, hf]
      exact h.counts hs }

theorem modRing (h : Keeps s t) {q : Fin 4} {f : Ring → Ring}
    (hf : t.rings[q].staging.length ≤ 8 → (f t.rings[q]).staging.length ≤ 8 := by exact fun h => h) :
    Keeps s (t.modRing q f) :=
  { h with tables := fun hs => State.modRing_tablesBounded (h.tables hs) hf }

theorem raise (h : Keeps s t) {k : EventKind} {a b : Nat} : Keeps s (t.raise k a b) := h.works (Works.refl _).raise
theorem raiseIf (h : Keeps s t) {c : Bool} {k : EventKind} {a b : Nat} : Keeps s (t.raiseIf c k a b) :=
  h.works (Works.refl _).raiseIf

/-! ## Ports, results and write-backs -/

theorem count (h : Keeps s t) {f : PathCounters → PathCounters} : Keeps s (t.count f) := h.modPath
theorem answer (h : Keeps s t) {a : Answer} : Keeps s (t.answer a) := h.modPath
theorem landed (h : Keeps s t) {n : Nat} : Keeps s (t.landed n) := h.modPath
theorem landAll (h : Keeps s t) {q : InFlight → Bool} : Keeps s (t.landAll q) := h.modPath
theorem relive (h : Keeps s t) {q : AccessFor → Bool} {l : Life} : Keeps s (t.relive q l) := h.modPath
theorem issue (h : Keeps s t) {w : AccessFor} {a : Addr} {b : List (Option Byte)} {n : Nat} : Keeps s (t.issue w a b n) :=
  h.modPath
theorem issueWrite (h : Keeps s t) {w : AccessFor} {a : Addr} {b : List Byte} : Keeps s (t.issueWrite w a b) := h.issue

theorem writeBackIfDue (h : Keeps s t) : Keeps s t.writeBackIfDue := by
  unfold State.writeBackIfDue
  split
  · exact ite (fun _ => h) (fun _ => h.modCp.issue)
  · exact h

theorem writeBack (h : Keeps s t) : Keeps s t.writeBack := h.modCp.writeBackIfDue

theorem writeStateWord (h : Keeps s t) : Keeps s t.writeStateWord := h.issueWrite

theorem writeResult (h : Keeps s t) {slots : List Idx} {first : Idx} {code : ResultCode} {detail : Nat} :
    Keeps s (t.writeResult slots first code detail) := by
  unfold State.writeResult
  exact h.modCp.foldl (fun _ _ k => k.issueWrite) _

theorem answerCommand (h : Keeps s t) {first : Idx} {tag n : Nat} {notify : Bool} {code : ResultCode} {force : Bool} :
    Keeps s (t.answerCommand first tag n notify code force) := by
  unfold State.answerCommand
  exact ite (fun _ => h.writeResult.modCp.writeBack) (fun _ => h.writeResult.modCp)

theorem finish (h : Keeps s t) {code : ResultCode} {force : Bool} : Keeps s (t.finish code force) := by
  unfold State.finish
  split
  · exact h
  · exact h.answerCommand

theorem chainFault (h : Keeps s t) {cause : FaultCause} {offending : List Idx} : Keeps s (t.chainFault cause offending) := by
  unfold State.chainFault
  exact ((ite (fun _ => h) (fun _ => h.writeResult)).modCp.raise).writeBack

/-! ## Shifts -/

theorem placeReport (h : Keeps s t) {r : Report} : Keeps s (t.placeReport r) := by
  unfold State.placeReport
  split
  · exact h.modTally
  · exact h.modTally.raise
  · exact h

theorem performClose (h : Keeps s t) {cause : CloseCause} : Keeps s (t.performClose cause) := by
  unfold State.performClose
  exact h.placeReport.modTally.raise

theorem closeShift (h : Keeps s t) {cause : CloseCause} : Keeps s (t.closeShift cause) :=
  ite (fun _ => h.modTally) (fun _ => h.performClose)

theorem performDeferred (h : Keeps s t) : Keeps s t.performDeferred := by
  unfold State.performDeferred
  split
  · exact h
  · exact ite (fun _ => h.modTally.performClose.finish) (fun _ => h.modTally.performClose)

theorem boundaryTest (h : Keeps s t) : Keeps s t.boundaryTest := ite (fun _ => h.closeShift) (fun _ => h)

end Keeps

/-! ## The pulse list -/

/-- The next line is assembled, its entry gone from the list. -/
theorem Ingest.pulsesTo_assembled {b : Nat} {g : Ingest} {ps : List Pulse} (h : g.pulsesTo b) (hb : g.assembled + 1 ≤ b)
    (hSub : ps.Sublist g.pulses) (hOut : ∀ p ∈ ps, p.line ≠ g.assembled + 1) :
    ({ g with assembled := g.assembled + 1, pulses := ps } : Ingest).pulsesTo b := by
  obtain ⟨_, hRising, hRange⟩ := h
  refine ⟨hb, hRising.sublist hSub, fun p hp => ?_⟩
  obtain ⟨hLow, hHigh, hCapture⟩ := hRange p (hSub.subset hp)
  exact ⟨Nat.lt_of_le_of_ne hLow (hOut p hp).symm, hHigh, hCapture⟩

/-- A change of the entries' statuses alone. -/
theorem Ingest.pulsesTo_map {b : Nat} {g : Ingest} {f : Pulse → Pulse} (h : g.pulsesTo b)
    (hLine : ∀ p, (f p).line = p.line) (hCapture : ∀ p, (f p).capture = p.capture) :
    ({ g with pulses := g.pulses.map f } : Ingest).pulsesTo b := by
  obtain ⟨hTop, hRising, hRange⟩ := h
  refine ⟨hTop, ?_, ?_⟩
  · rw [List.pairwise_map]
    simpa only [hLine] using hRising
  · simpa only [List.forall_mem_map, hLine, hCapture] using hRange

/-- A new entry at a line above all others. -/
theorem Ingest.pulsesTo_append {b n : Nat} {g : Ingest} {p : Pulse} (h : g.pulsesTo b) (hbn : b < n) (hLine : p.line = n)
    {c : Nat} (hc : g.captures ≤ c) (hCapture : ∀ q, p.capture = some q → q < c) :
    ({ g with pulses := g.pulses ++ [p], captures := c } : Ingest).pulsesTo n := by
  obtain ⟨hTop, hRising, hRange⟩ := h
  refine ⟨hTop.trans hbn.le, ?_, ?_⟩
  · rw [List.pairwise_append]
    refine ⟨hRising, List.pairwise_singleton _ _, fun x hx y hy => ?_⟩
    rw [List.mem_singleton.1 hy, hLine]
    exact (hRange x hx).2.1.trans_lt hbn
  · simp only [List.mem_append, List.mem_singleton]
    rintro x (hx | rfl)
    · obtain ⟨hLow, hHigh, hCap⟩ := hRange x hx
      exact ⟨hLow, hHigh.trans hbn.le, fun q hq => (hCap q hq).trans_le hc⟩
    · exact ⟨hLine ▸ hTop.trans_lt hbn, hLine.le, hCapture⟩

theorem Ingest.pulsesTo_mono {b n : Nat} {g : Ingest} (h : g.pulsesTo b) (hbn : b ≤ n) : g.pulsesTo n := by
  obtain ⟨hTop, hRising, hRange⟩ := h
  exact ⟨hTop.trans hbn, hRising, fun p hp =>
    let ⟨hLow, hHigh, hCap⟩ := hRange p hp
    ⟨hLow, hHigh.trans hbn, hCap⟩⟩

theorem Ingest.pulsesTo_of_kept {b : Nat} {g g' : Ingest} (hf : g'.kept = g.kept) (h : g.pulsesTo b) : g'.pulsesTo b := by
  simp only [Ingest.kept, Prod.mk.injEq] at hf
  obtain ⟨hAssembled, hCaptures, hPulses, -⟩ := hf
  rwa [Ingest.pulsesTo, hAssembled, hCaptures, hPulses]

/-! ## Hand-over and assembly -/

theorem Ingest.adoptDetect_kept (g : Ingest) : g.adoptDetect.kept = g.kept := by
  unfold Ingest.adoptDetect
  split <;> rfl

theorem State.requestSpan_ing (k : SpanKind) (a b : Nat) (s : State) : (s.requestSpan k a b).ing = s.ing := rfl
theorem State.requestSpan_pos (k : SpanKind) (a b : Nat) (s : State) : (s.requestSpan k a b).pos = s.pos := rfl

/-- R49, step 2: the span that a line needs, or its count as inspected. -/
def State.judgeLine (m : Nat) (k : Option SpanKind) (s : State) : State :=
  match k with
  | some k => s.requestSpan k m (m + 1)
  | none => s.tallied (fun t => { t with inspected := tallyAdd t.inspected 1 })

theorem State.judgeLine_ing (m : Nat) (k : Option SpanKind) (s : State) : (s.judgeLine m k).ing = s.ing := by
  cases k <;> rfl

/-- R49, step 3: the edges of a pulsed line, its record in the rows, and its runs. -/
def State.tracePulsed (m : Nat) (status : Vector CamStatus 8) (s : State) : State :=
  let s3 := s.updateEdges m status
  let s4 := s3.recordEdges m s3.ing.left.value s3.ing.right.value
  s4.trackAndReport m (lineRuns s4.ing.detect.gc s4.ing.cams status)

theorem State.handOver_none (m : Nat) (s : State) :
    s.handOver m none = (s.modIng Ingest.adoptDetect).trackAndReport m [] := rfl

theorem State.handOver_overrun {p : Pulse} (h : p.capture = none) (m : Nat) (s : State) :
    s.handOver m (some p) = ((s.modIng Ingest.adoptDetect).judgeLine m p.spanKind).trackAndReport m [] := by
  unfold State.handOver
  dsimp only
  rw [h]
  rfl

theorem State.handOver_pulsed {p : Pulse} {q : Nat} (h : p.capture = some q) (m : Nat) (s : State) :
    s.handOver m (some p) = ((s.modIng Ingest.adoptDetect).judgeLine m p.spanKind).tracePulsed m p.status := by
  unfold State.handOver
  dsimp only
  rw [h]
  rfl

theorem State.updateEdges_ing (m : Nat) (status : Vector CamStatus 8) (s : State) :
    ∃ l r, (s.updateEdges m status).ing = { s.ing with left := l, right := r } := by
  unfold State.updateEdges
  exact ⟨_, _, (Works.refl _).raiseIf.raiseIf.ing⟩

/-- The hand-over of a line changes the Ingest Unit by a DETECT adopted and by the edges. -/
theorem State.handOver_ing (m : Nat) (entry : Option Pulse) (s : State) :
    ∃ l r, (s.handOver m entry).ing = { s.ing.adoptDetect with left := l, right := r } := by
  cases entry with
  | none => exact ⟨_, _, (Works.refl _).trackAndReport.ing⟩
  | some p =>
    cases hCapture : p.capture with
    | none =>
      rw [State.handOver_overrun hCapture]
      exact ⟨_, _, (Works.refl _).trackAndReport.ing.trans (State.judgeLine_ing _ _ _)⟩
    | some q =>
      rw [State.handOver_pulsed hCapture]
      obtain ⟨l, r, hEdges⟩ := State.updateEdges_ing m p.status ((s.modIng Ingest.adoptDetect).judgeLine m p.spanKind)
      rw [State.judgeLine_ing] at hEdges
      exact ⟨l, r, (Works.refl _).recordEdges.trackAndReport.ing.trans hEdges⟩

theorem State.handOver_kept (m : Nat) (entry : Option Pulse) (s : State) : (s.handOver m entry).ing.kept = s.ing.kept := by
  obtain ⟨l, r, hIng⟩ := s.handOver_ing m entry
  rw [hIng]
  exact Ingest.adoptDetect_kept _

theorem State.handOver_pos (m : Nat) (entry : Option Pulse) (s : State) : (s.handOver m entry).pos = s.pos :=
  congrArg Outer.pos (State.handOver_outer m entry s)

theorem State.declareLost_pos (cam : Fin 8) (cause : LostCause) (declared : Nat → Bool) (s : State) :
    (s.declareLost cam cause declared).pos = s.pos := congrArg Outer.pos (State.declareLost_outer cam cause declared s)

/-- Declaring captures of a list of cameras LOST moves no line. -/
theorem State.foldl_pos {α : Type} {f : State → α → State} (hf : ∀ u x, (f u x).pos = u.pos) (l : List α) (s : State) :
    (l.foldl f s).pos = s.pos := foldl_of State.pos f hf l s

/-- Assembly keeps the order of the list, below any line it does not pass. -/
theorem State.assembleLoop_pulsesTo {b top : Nat} (hb : top ≤ b) (fuel : Nat) {s : State} (h : s.ing.pulsesTo b) :
    (State.assembleLoop top fuel s).ing.pulsesTo b := by
  induction fuel generalizing s with
  | zero => exact h
  | succ fuel ih =>
    unfold State.assembleLoop
    dsimp only
    split
    · exact h
    next hTop =>
      have hNext := (not_lt.1 hTop).trans hb
      split
      next hNone =>
        exact ih (Ingest.pulsesTo_of_kept (State.handOver_kept _ _ _)
          (Ingest.pulsesTo_assembled h hNext (List.Sublist.refl _) (by simpa using hNone)))
      next =>
        split
        · exact ih (Ingest.pulsesTo_of_kept (State.handOver_kept _ _ _)
            (Ingest.pulsesTo_assembled h hNext List.filter_sublist (by simp)))
        · exact h

/-- The entries of the list after a declaration differ by their statuses alone (R46). -/
theorem State.declareLost_pulsesTo {b : Nat} (cam : Fin 8) (cause : LostCause) (declared : Nat → Bool) {s : State}
    (h : s.ing.pulsesTo b) : (s.declareLost cam cause declared).ing.pulsesTo b := by
  unfold State.declareLost
  dsimp only
  split
  · exact h
  · refine Ingest.pulsesTo_of_kept (congrArg Ingest.kept (Works.refl _).raise.ing)
      (Ingest.pulsesTo_map h (fun p => ?_) (fun p => ?_)) <;> split <;> rfl

theorem State.foldl_pulsesTo {α : Type} {b : Nat} {f : State → α → State}
    (hf : ∀ u x, u.ing.pulsesTo b → (f u x).ing.pulsesTo b) (l : List α) {s : State} (h : s.ing.pulsesTo b) :
    (l.foldl f s).ing.pulsesTo b := by
  induction l generalizing s with
  | nil => exact h
  | cons x xs ih => exact ih (hf s x h)

theorem State.forceOut_pulsesTo {b : Nat} {s : State} (h : s.ing.pulsesTo b) (hb : s.pos.line - 1 ≤ b) :
    s.forceOut.ing.pulsesTo b := by
  unfold State.forceOut
  split
  · exact h
  · split
    · exact State.assembleLoop_pulsesTo hb _ (State.foldl_pulsesTo (fun _ _ => State.declareLost_pulsesTo _ _ _) _ h)
    · exact h

theorem State.forceOut_pos (s : State) : s.forceOut.pos = s.pos := congrArg Outer.pos (State.forceOut_outer s)

/-- A classification keeps the canonical form of the column store (R53). -/
theorem classifyLine_cols {d : Detect} {left right : Nat} {cols : Cols} {cam : Camera} {line q : Nat} {bytes : List Byte}
    (h : cols.wf = true) : (classifyLine d left right cols cam line q bytes).cols.wf = true := by
  unfold classifyLine
  dsimp only
  split
  · exact Cols.setAll_wf _ _ h
  · split <;> exact Cols.setAll_wf _ _ h

namespace Keeps

variable {s t : State}

theorem requestSpan (h : Keeps s t) {k : SpanKind} {a b : Nat} : Keeps s (t.requestSpan k a b) :=
  { h with
    tables := fun hs =>
      let ⟨hFlaws, hRest⟩ := h.tables hs
      ⟨(congrArg List.length (FlawMap.enterPieces_flaws _ _ _)).trans_le hFlaws, hRest⟩ }

theorem judgeLine (h : Keeps s t) {m : Nat} {k : Option SpanKind} : Keeps s (t.judgeLine m k) := by
  cases k with
  | none =>
    dsimp only [State.judgeLine]
    exact h.tallied
  | some k => exact h.requestSpan

theorem updateEdges (h : Keeps s t) {m : Nat} {status : Vector CamStatus 8} : Keeps s (t.updateEdges m status) := by
  unfold State.updateEdges
  exact h.modIng.raiseIf.raiseIf

theorem adoptDetect (h : Keeps s t) : Keeps s (t.modIng Ingest.adoptDetect) := h.modIng (Ingest.adoptDetect_kept _)

theorem handOver (h : Keeps s t) {m : Nat} {entry : Option Pulse} : Keeps s (t.handOver m entry) := by
  cases entry with
  | none => exact h.adoptDetect.works (Works.refl _).trackAndReport
  | some p =>
    cases hCapture : p.capture with
    | none =>
      rw [State.handOver_overrun hCapture]
      exact h.adoptDetect.judgeLine.works (Works.refl _).trackAndReport
    | some q =>
      rw [State.handOver_pulsed hCapture]
      exact h.adoptDetect.judgeLine.updateEdges.works (Works.refl _).recordEdges.trackAndReport

theorem assembleLoop {top : Nat} (fuel : Nat) (h : Keeps s t) (hTop : top ≤ t.pos.line) :
    Keeps s (State.assembleLoop top fuel t) := by
  induction fuel generalizing t with
  | zero => exact h
  | succ fuel ih =>
    unfold State.assembleLoop
    refine ite (fun _ => h) (fun hNext => ?_)
    have hLine := (not_lt.1 hNext).trans hTop
    dsimp only
    split
    next hNone =>
      refine ih (handOver (h.modIng_pulses fun hs => ?_)) (by rwa [State.handOver_pos])
      exact Ingest.pulsesTo_assembled (h.pulses hs) hLine (List.Sublist.refl _) (by simpa using hNone)
    next =>
      refine ite (fun _ => ?_) (fun _ => h)
      refine ih (handOver (h.modIng_pulses fun hs => ?_)) (by rwa [State.handOver_pos])
      exact Ingest.pulsesTo_assembled (h.pulses hs) hLine List.filter_sublist (by simp)

theorem assembleUpTo (h : Keeps s t) {top : Nat} (hTop : top ≤ t.pos.line) : Keeps s (t.assembleUpTo top) :=
  assembleLoop _ h hTop

theorem assemble (h : Keeps s t) : Keeps s t.assemble := h.assembleUpTo le_rfl

/-! ## Lost lines and line triggers -/

theorem captureOrder (h : Keeps s t) {cam : Fin 8} {off : Nat} {cause : OrderCause} :
    Keeps s (t.captureOrder cam off cause) := h.raise

theorem camCount (h : Keeps s t) {cam : Fin 8} {f : CamCounters → CamCounters} : Keeps s (t.camCount cam f) := h.modCam

theorem declareLost (h : Keeps s t) {cam : Fin 8} {cause : LostCause} {declared : Nat → Bool} :
    Keeps s (t.declareLost cam cause declared) := by
  unfold State.declareLost
  dsimp only
  split
  · exact h
  · refine (modCam (h.modIng_pulses fun hs => Ingest.pulsesTo_map (h.pulses hs) (fun p => ?_) (fun p => ?_))).raise <;>
      split <;> rfl

theorem forceOut (h : Keeps s t) : Keeps s t.forceOut := by
  unfold State.forceOut
  refine ite (fun _ => h) (fun _ => ?_)
  split
  · refine assembleUpTo (h.foldl (fun _ _ k => k.declareLost) _) ?_
    rw [State.foldl_pos (fun _ _ => State.declareLost_pos _ _ _ _)]
    exact Nat.sub_le _ _
  · exact h

/-- A line trigger reaches Ingest (R40): the entries of the list still lie below the new line. -/
theorem ingestTrigger (h : Keeps s t) {n : Nat} (hn : t.pos.line = n + 1) (hp : s.pulsesSound → t.ing.pulsesTo n)
    {o : Trigger} : Keeps s (t.ingestTrigger (n + 1) o) := by
  have hForced : s.pulsesSound → t.forceOut.ing.pulsesTo n := fun hs =>
    State.forceOut_pulsesTo (hp hs) (by rw [hn]; exact le_rfl)
  have hLine : t.forceOut.pos.line = n + 1 := by rw [State.forceOut_pos, hn]
  cases o with
  | notCaptured => exact h.assemble
  | pulsed =>
    refine assemble (h.forceOut.modIng_pulses fun hs => ?_)
    rw [hLine]
    exact Ingest.pulsesTo_append (hForced hs) n.lt_succ_self rfl (Nat.le_succ _)
      (fun q hq => (Option.some.inj hq) ▸ Nat.lt_succ_self _)
  | overrun =>
    refine assemble (foldl (fun _ _ k => k.camCount.raise) _ (h.forceOut.modIng_pulses fun hs => ?_))
    rw [hLine]
    exact Ingest.pulsesTo_append (hForced hs) n.lt_succ_self rfl le_rfl (fun q hq => nomatch hq)

theorem startLearning (h : Keeps s t) : Keeps s t.startLearning := h.modIng

/-! ## Capture writes -/

theorem completeLine (h : Keeps s t) {cam : Fin 8} : Keeps s (t.completeLine cam) := by
  unfold State.completeLine
  dsimp only
  split
  · exact h
  · split
    · exact (h.modIng_cols classifyLine_cols).modCam
    all_goals exact h

theorem tapBytes (h : Keeps s t) {cam : Fin 8} {px : List (Nat × Byte)} : Keeps s (t.tapBytes cam px) := by
  unfold State.tapBytes
  exact ite (fun _ => h.modCam.completeLine) (fun _ => h.modCam)

theorem beginLine (h : Keeps s t) {cam : Fin 8} {slot j : Nat} {px : List (Nat × Byte)} :
    Keeps s (t.beginLine cam slot j px) := by
  unfold State.beginLine
  dsimp only
  have hSkip : ∀ u, Keeps s u → Keeps s (if 0 < j then
      (u.declareLost cam .skip (fun q => t.ing.cams[cam].expected ≤ q && q < t.ing.cams[cam].expected + j)).assemble
      else u) :=
    fun u hu => ite (fun _ => hu.declareLost.assemble) (fun _ => hu)
  refine tapBytes (modCam (hSkip _ ?_))
  split
  · exact h.declareLost.modCam.assemble
  · exact h

theorem offerNew (h : Keeps s t) {cam : Fin 8} {off slot : Nat} {px : List (Nat × Byte)} :
    Keeps s (t.offerNew cam off slot px).1 := by
  unfold State.offerNew
  simp only [apply_ite Prod.fst]
  exact ite (fun _ => h.camCount.captureOrder) fun _ =>
    ite (fun _ => h.camCount.captureOrder) fun _ => ite (fun _ => h) fun _ => h.beginLine

theorem offer (h : Keeps s t) {cam : Fin 8} {off : Nat} {bytes : List (Option Byte)} :
    Keeps s (t.offer cam off bytes).1 := by
  unfold State.offer
  dsimp only
  simp only [apply_ite Prod.fst]
  refine ite (fun _ => h.camCount) (fun _ => ?_)
  split
  · simp only [apply_ite Prod.fst]
    exact ite (fun _ => h.camCount) fun _ => ite (fun _ => h.camCount.captureOrder) fun _ =>
      ite (fun _ => h) fun _ => ite (fun _ => h.tapBytes) fun _ => ite (fun _ => h) fun _ => h.offerNew
  · exact h

theorem captureExpired (h : Keeps s t) {cam : Fin 8} {slot : Nat} : Keeps s (t.captureExpired cam slot) := by
  unfold State.captureExpired
  dsimp only
  refine assemble (modCam (ite (fun _ => h) (fun _ => modCam (declareLost ?_))))
  exact ite (fun _ => h.declareLost.assemble) (fun _ => h)

/-! ## The end of a classification -/

theorem lineMarks (h : Keeps s t) {cam : Fin 8} {r : LineResult} : Keeps s (t.lineMarks cam r) := by
  unfold State.lineMarks
  exact h.modCam.raiseIf

theorem deliver (h : Keeps s t) {cam : Fin 8} {line : Nat} {r : LineResult} : Keeps s (t.deliver cam line r) := by
  refine modCam (h.modIng_pulses fun hs => Ingest.pulsesTo_map (h.pulses hs) (fun p => ?_) (fun p => ?_)) <;> split <;> rfl

theorem lagRule (h : Keeps s t) {cam : Fin 8} {q : Nat} : Keeps s (t.lagRule cam q) := h.foldl (fun _ _ k => k.declareLost) _

theorem endClassification (h : Keeps s t) {cam : Fin 8} {bufB : Bool} : Keeps s (t.endClassification cam bufB).1 := by
  unfold State.endClassification
  split
  iterate 2 exact h
  dsimp only
  split
  · exact h.modCam.lineMarks
  · exact h.modCam.lineMarks.deliver.lagRule.assemble

/-! ## GEOMETRY -/

theorem flushLines (fuel : Nat) (h : Keeps s t) : Keeps s (State.flushLines fuel t) := by
  induction fuel generalizing t with
  | zero => exact h
  | succ fuel ih =>
    unfold State.flushLines
    refine ite (fun _ => h) (fun hNext => ih ?_)
    have hFlushed : Keeps s (t.modIng (fun g =>
        { g with assembled := t.ing.assembled + 1, pulses := g.pulses.filter (fun p => p.line ≠ t.ing.assembled + 1) })) :=
      h.modIng_pulses fun hs =>
        Ingest.pulsesTo_assembled (h.pulses hs) (not_lt.1 hNext) List.filter_sublist (by simp)
    exact (ite (fun _ => hFlushed.requestSpan) (fun _ => hFlushed)).works (Works.refl _).trackAndReport

theorem flushIngest (h : Keeps s t) : Keeps s t.flushIngest := by
  unfold State.flushIngest
  exact (flushLines _ h).works (Works.refl _).closeByGap.lineDone

theorem newGeometry (h : Keeps s t) {cfgs : Vector CamSettings 8} {pp holdLimit : Nat} :
    Keeps s (t.newGeometry cfgs pp holdLimit) :=
  h.modIng_pulses fun hs => ⟨(h.pulses hs).1, List.Pairwise.nil, by simp⟩

/-! ## Position Unit -/

theorem followBreak (h : Keeps s t) : Keeps s t.followBreak := by
  unfold State.followBreak
  refine ite (fun _ => h) (fun _ => ?_)
  have hBreak : Keeps s ((t.modPos (fun p => { p with broken := t.pos.inputOf .inRibbonBreak })).raise .ribbonBreak
      t.pos.line (mark (t.pos.inputOf .inRibbonBreak))) := h.modPos.raise
  refine ite (fun _ => hBreak.works (Works.refl _).planBreak) (fun _ => ?_)
  exact ite (fun _ => hBreak.works (Works.refl _).planClear) (fun _ => (hBreak.works (Works.refl _).planClear).startLearning)

theorem followPark (h : Keeps s t) {cause : Nat} : Keeps s (t.followPark cause) := by
  unfold State.followPark
  exact ite (fun _ => h) fun _ => ite (fun _ => h.modPos.raise) fun _ => h.modPos.raise.startLearning

theorem follow (h : Keeps s t) {oldReady oldShift : Bool} : Keeps s (t.follow oldReady oldShift) := by
  unfold State.follow
  have hFollowed : Keeps s (((t.followBreak).followPark 1).judgeReadiness oldReady) :=
    h.followBreak.followPark.works (Works.refl _).judgeReadiness
  exact ite (fun _ => hFollowed.closeShift) (fun _ => hFollowed)

theorem modTerm (h : Keeps s t) {i : Fin 6} {f : Terminal → Terminal} : Keeps s (t.modTerm i f) := h.modPos

theorem changeTerm (h : Keeps s t) {i : Fin 6} {f : Terminal → Terminal} {event : State → State}
    (he : ∀ u, Keeps s u → Keeps s (event u)) : Keeps s (t.changeTerm i f event) := (he _ h.modTerm).follow

theorem sampleTerm (h : Keeps s t) {pins : BitVec 6} {i : Fin 6} : Keeps s (t.sampleTerm pins i) := by
  unfold State.sampleTerm
  exact ite (fun _ => h.changeTerm fun _ k => k.raiseIf) (fun _ => h.modTerm)

theorem sampleAll (h : Keeps s t) {pins : BitVec 6} : Keeps s (t.sampleAll pins) := h.foldl (fun _ _ k => k.sampleTerm) _

theorem advance (h : Keeps s t) : Keeps s (t.modPos Position.advance) := by
  refine h.modPos_ranges ?line ?tod ?counts
  case line =>
    unfold Position.advance
    split <;> exact le_rfl
  case tod =>
    intro _
    unfold Position.advance
    split
    · exact Nat.zero_lt_succ _
    next hDay => exact not_le.1 hDay
  case counts =>
    intro hs
    unfold State.countsInRange
    rw [State.modPos_pos]
    unfold Position.advance
    split <;> exact hs

theorem advanceTime (h : Keeps s t) {pins : BitVec 6} : Keeps s (t.advanceTime pins) := by
  unfold State.advanceTime
  have hTime : Keeps s (if t.ready then (t.modPos Position.advance).modPos Position.countStall else t.modPos Position.advance) :=
    ite (fun _ => h.advance.modPos) (fun _ => h.advance)
  exact (hTime.works (Works.refl _).countAckTimers).boundaryTest.sampleAll

theorem stallTimeoutTaken (h : Keeps s t) : Keeps s t.stallTimeoutTaken := by
  unfold State.stallTimeoutTaken
  refine ite (fun _ => ?_) (fun _ => h)
  split
  · exact h.modPos
  · exact h.modPos.raise

theorem stallRestart (h : Keeps s t) : Keeps s t.stallRestart := by
  unfold State.stallRestart
  exact h.modPos.raiseIf

theorem lineSpan (h : Keeps s t) {n : Nat} {k : Option SpanKind} : Keeps s (t.lineSpan n k) := by
  cases k with
  | none => exact h
  | some k => exact h.requestSpan

theorem trigger (h : Keeps s t) : Keeps s (t.modPos Position.trigger) :=
  h.modPos_ranges (Nat.le_succ _) (fun hTod => hTod) (fun hCounts => hCounts)

end Keeps

theorem State.lineSpan_pos (n : Nat) (k : Option SpanKind) (s : State) : (s.lineSpan n k).pos = s.pos := by
  cases k <;> rfl

theorem State.lineSpan_ing (n : Nat) (k : Option SpanKind) (s : State) : (s.lineSpan n k).ing = s.ing := by
  cases k <;> rfl

namespace Keeps

variable {s t : State}

theorem lineTrigger (h : Keeps s t) (hLine : s.pulsesSound → t.ing.pulsesTo t.pos.line) : Keeps s t.lineTrigger := by
  unfold State.lineTrigger
  have hTrigger : Keeps s (((t.modPos Position.trigger).lineSpan (t.pos.line + 1) t.pos.outcome.2).ingestTrigger
      (t.pos.line + 1) t.pos.outcome.1) :=
    h.trigger.lineSpan.ingestTrigger (by rw [State.lineSpan_pos]; rfl) (by rw [State.lineSpan_ing]; exact hLine)
  exact (hTrigger.works (Works.refl _).planTrigger.deadlineTest).tallied.stallRestart

theorem forwardCount (h : Keeps s t) (hReady : t.cp.binding = .ready) : Keeps s t.forwardCount := by
  unfold State.forwardCount
  refine ite (fun _ => ?deficit) fun _ => ite (fun hPhase => ?phase) fun _ => ite (fun _ => h) fun _ => ?line
  case deficit =>
    exact h.modPos_ranges le_rfl (fun hTod => hTod) fun hs => ⟨hs.1, (Nat.sub_le _ _).trans hs.2⟩
  case phase =>
    exact h.modPos_ranges le_rfl (fun hTod => hTod) fun hs => ⟨fun _ => hPhase, hs.2⟩
  case line =>
    have hZero : Keeps s (t.modPos (fun p => { p with phase := 0 })) :=
      h.modPos_ranges le_rfl (fun hTod => hTod) fun hs => ⟨fun _ => Nat.zero_lt_of_lt (hs.1 hReady), hs.2⟩
    exact hZero.lineTrigger hZero.pulses

theorem backwardCount (h : Keeps s t) : Keeps s t.backwardCount := by
  unfold State.backwardCount
  refine ite (fun _ => h.modPos) fun hMax => raiseIf ?_
  exact h.modPos_ranges le_rfl (fun hTod => hTod) fun hs => ⟨hs.1, not_le.1 hMax⟩

theorem encoder (h : Keeps s t) {a b : Bool} : Keeps s (t.encoder a b) := by
  unfold State.encoder
  have hPair : Keeps s (t.modPos (fun p => { p with pairA := a, pairB := b })) := h.modPos
  refine ite (fun _ => hPair) fun hReady => ite (fun _ => hPair.modPos) fun _ =>
    ite (fun _ => hPair.forwardCount ?_) fun _ => hPair.backwardCount
  have hNot : t.ready = true := by
    simp only [Bool.or_eq_true, Bool.not_eq_true', not_or, Bool.not_eq_false] at hReady
    exact hReady.1
  exact of_decide_eq_true hNot

theorem tick (h : Keeps s t) : Keeps s t.tick := by
  refine modEv (modPath_queues h.modPos ?_)
  rintro ⟨hHead, hDown, hOnce⟩
  refine ⟨fun hSome => hHead (by simpa using hSome), hDown, fun k hk => ?_⟩
  obtain ⟨k', hk', rfl⟩ := Option.map_eq_some_iff.1 hk
  exact hOnce k' hk'

/-! ## The head of the write queue -/

theorem popWrite (h : Keeps s t) : Keeps s t.popWrite := by
  refine h.modPath_queues ?_ (fun hLen => (List.tail_sublist _).length_le.trans hLen)
  rintro ⟨-, hDown, -⟩
  exact ⟨nofun, fun w hw => hDown w (List.mem_of_mem_tail hw), nofun⟩

theorem refuseHead (h : Keeps s t) {w : QueuedWrite} : Keeps s (t.refuseHead w) := h.popWrite.answer
theorem refuseCrossing (h : Keeps s t) {w : QueuedWrite} : Keeps s (t.refuseCrossing w) := h.refuseHead.count
theorem refuseGuarded (h : Keeps s t) {w : QueuedWrite} {r : Fin 4} : Keeps s (t.refuseGuarded w r) :=
  h.refuseHead.count.raise

theorem guarded (h : Keeps s t) {w : QueuedWrite} {k : State → State} (hk : Keeps s (k t)) : Keeps s (t.guarded w k) := by
  unfold State.guarded
  split
  · exact h.refuseGuarded
  · exact hk

theorem observe (h : Keeps s t) {w : QueuedWrite} {x : Fin 4 × Nat} : Keeps s (t.observe w x) := by
  unfold State.observe
  exact ite (fun _ => h.modRing) (fun _ => h.count)

theorem forwardHead (h : Keeps s t) {w : QueuedWrite} {what : AccessFor} : Keeps s (t.forwardHead w what) :=
  h.popWrite.issue.foldl (fun _ _ k => k.observe) _

theorem forwardPlain (h : Keeps s t) {w : QueuedWrite} : Keeps s (t.forwardPlain w) := h.forwardHead.count
theorem forwardPosted (h : Keeps s t) {w : QueuedWrite} : Keeps s (t.forwardPosted w) := h.forwardHead.answer

theorem forwardHeldProducer (h : Keeps s t) : Keeps s t.forwardHeldProducer := by
  unfold State.forwardHeldProducer
  split
  · exact h.guarded h.forwardPlain
  · exact h

end Keeps

/-- A write names no ring twice among those whose consumer word it covers. -/
theorem State.consumersTouched_nodup (s : State) (w : QueuedWrite) : ((s.consumersTouched w).map Prod.fst).Nodup := by
  have hSub : ∀ rs : List (Fin 4), ((rs.filterMap (fun r =>
      if s.touchesConsumer w r then some (r, s.rings[r].base + 4) else none)).map Prod.fst).Sublist rs := by
    intro rs
    induction rs with
    | nil => exact List.Sublist.refl _
    | cons r rs ih =>
      rw [List.filterMap_cons]
      split
      · exact ih.cons r
      next x hx =>
        split at hx
        · cases hx
          exact ih.cons_cons r
        · cases hx
  exact (hSub _).nodup (List.nodup_finRange 4)

theorem State.consumersOf_nodup {s : State} (h : s.queueSound) (w : QueuedWrite) :
    ((s.consumersOf w).map Prod.fst).Nodup := by
  unfold State.consumersOf
  split
  next k hk => exact h.2.2 k hk
  next => exact s.consumersTouched_nodup w

/-- The write at the head of the queue, which does not cross a page. -/
def State.atHead (w : QueuedWrite) (s : State) : Prop := ∃ ws, s.path.writes = w :: ws ∧ w.cls.crossing = false

/-- The head write is held, with the rings it covers. -/
theorem State.queueSound_hold {s : State} (h : s.queueSound) {w : QueuedWrite} (hw : s.atHead w) {f : Path → Path} {k : Hold}
    (hHold : (f s.path).hold = some k) (hCover : k.consumers = s.consumersOf w)
    (hWrites : (f s.path).writes = s.path.writes := by rfl) : (s.modPath f).queueSound := by
  obtain ⟨ws, hHead, hCross⟩ := hw
  have hOnce := State.consumersOf_nodup h w
  refine ⟨fun _ => ⟨w, ws, hWrites.trans hHead, hCross⟩, ?_, ?_⟩
  · rw [State.modPath_path, hWrites]
    exact h.2.1
  · intro k' hk'
    rw [State.modPath_path, hHold] at hk'
    cases hk'
    rwa [hCover]

namespace Keeps

variable {s t : State}

theorem learnProducer (h : Keeps s t) {w : QueuedWrite} : Keeps s (t.learnProducer w) := h.modCp

theorem faultAckNotice (h : Keeps s t) {n : Nat} : Keeps s (t.faultAckNotice n) := by
  unfold State.faultAckNotice
  exact ite (fun _ => ite (fun _ => h.modCp.writeStateWord.chainFault) fun _ => h.modCp.writeStateWord) fun _ => h

theorem holdProducer (h : Keeps s t) {w : QueuedWrite} (hw : t.atHead w) : Keeps s (t.holdProducer w) :=
  ((h.modPath_queues fun hs => State.queueSound_hold hs hw rfl rfl).count).modCp

theorem producerTaken (h : Keeps s t) {w : QueuedWrite} (hw : t.atHead w) : Keeps s (t.producerTaken w) := by
  unfold State.producerTaken
  dsimp only
  have hHeld : Keeps s ((t.learnProducer w).holdProducer w) := h.learnProducer.holdProducer hw
  split
  · exact h.learnProducer.forwardPlain
  all_goals exact ite (fun _ => hHeld.forwardHeldProducer) fun _ => ite (fun _ => hHeld.chainFault) fun _ => hHeld

theorem plainHead (h : Keeps s t) {w : QueuedWrite} : Keeps s (t.plainHead w) :=
  ite (fun _ => h.refuseCrossing) (fun _ => h.guarded h.forwardPlain)

end Keeps

theorem State.atHead_congr {s t : State} {w : QueuedWrite} (hp : t.path.writes = s.path.writes) (h : s.atHead w) :
    t.atHead w := by
  rwa [State.atHead, hp]

/-- An offer answered WAIT has changed nothing (R43). -/
theorem State.offer_wait {s u : State} {cam : Fin 8} {off : Nat} {bytes : List (Option Byte)}
    (h : s.offer cam off bytes = (u, .wait)) : u = s := by
  unfold State.offer State.offerNew at h
  dsimp only at h
  repeat' split at h
  all_goals simp_all

namespace Keeps

variable {s t : State}

theorem offerWrite (h : Keeps s t) {w : QueuedWrite} (hw : t.queueSound → t.atHead w) : Keeps s (t.offerWrite w) := by
  unfold State.offerWrite
  have hOffer : Keeps s (t.offer w.cls.cam w.cls.offset w.burst.bytes).1 := h.offer
  split
  next hEq =>
    rw [hEq] at hOffer
    exact hOffer.forwardPosted.count
  next hEq =>
    rw [hEq] at hOffer
    exact hOffer.forwardPosted.count
  next hEq =>
    rw [State.offer_wait hEq]
    exact (h.modPath_queues fun hs => State.queueSound_hold hs (hw hs) rfl rfl).count

theorem captureHead (h : Keeps s t) {w : QueuedWrite} (hw : t.queueSound → t.atHead w) : Keeps s (t.captureHead w) :=
  h.guarded (h.offerWrite hw)

end Keeps

/-- What is held stands at the head and crosses no page. -/
theorem State.atHead_of_heldCapture {s : State} {w : QueuedWrite} (hc : s.heldCapture = some w) (h : s.queueSound) :
    s.atHead w := by
  unfold State.heldCapture at hc
  split at hc
  next k v vs hHold hWrites =>
    split at hc
    · cases hc
    · obtain ⟨x, xs, hHead, hCross⟩ := h.1 (by rw [hHold]; rfl)
      rw [hWrites] at hHead
      cases hHead
      cases hc
      exact ⟨vs, hWrites, hCross⟩
  next => cases hc

namespace Keeps

variable {s t : State}

theorem reoffer (h : Keeps s t) : Keeps s t.reoffer := by
  unfold State.reoffer
  split
  next hHeld => exact h.captureHead (State.atHead_of_heldCapture hHeld)
  next => exact h

theorem reofferFor (h : Keeps s t) {cam : Fin 8} : Keeps s (t.reofferFor cam) := by
  unfold State.reofferFor
  split
  · exact ite (fun _ => h.reoffer) (fun _ => h)
  · exact h

theorem captureExpiry (h : Keeps s t) {w : QueuedWrite} : Keeps s (t.captureExpiry w) := by
  unfold State.captureExpiry
  exact (h.count.guarded h.count.forwardPosted).captureExpired

theorem faultAckHead (h : Keeps s t) {w : QueuedWrite} : Keeps s (t.faultAckHead w) := h.guarded h.forwardPlain.faultAckNotice

theorem producerHead (h : Keeps s t) {w : QueuedWrite} (hw : t.atHead w) : Keeps s (t.producerHead w) := by
  refine h.guarded ?_
  split
  · refine h.faultAckNotice.producerTaken (State.atHead_congr ?_ hw)
    exact congrArg (fun o => o.path.writes) (State.faultAckNotice_outer t.path _ t)
  · exact h.producerTaken hw

theorem liveHead (h : Keeps s t) {w : QueuedWrite} : Keeps s (t.liveHead w) := h.guarded h.refuseHead.count.raise

/-- A row acts on a head of its kind, which crosses no page unless it is a plain one. -/
theorem onHead (h : Keeps s t) {k : HeadKind} {act : QueuedWrite → State → State}
    (ha : ∀ w, (k ≠ .plain → t.atHead w) → Keeps s (act w t)) : Keeps s (t.onHead k act) := by
  unfold State.onHead
  split
  next w ws _ hWrites =>
    refine ite (fun hKind => ha w fun hPlain => ⟨ws, hWrites, ?_⟩) (fun _ => h)
    by_contra hCross
    rw [State.headKind, if_pos (by simpa using hCross)] at hKind
    exact hPlain hKind.symm
  next => exact h

theorem releaseRead (h : Keeps s t) {pos : Nat} {r : QueuedRead} : Keeps s (t.releaseRead pos r) := by
  have hPop : Keeps s (t.popRead pos) :=
    h.modPath_queues (fun hs => hs) (hReads := fun hLen => (List.eraseIdx_sublist _ _).length_le.trans hLen)
  exact ite (fun _ => hPop.answer.count) fun _ => ite (fun _ => hPop.answer.count) fun _ =>
    ite (fun _ => h) fun _ => hPop.issue.count

end Keeps

/-! ## Rings -/

theorem length_markIssued (i : Idx) (l : List Staged) : (markIssued i l).length = l.length := by
  induction l with
  | nil => rfl
  | cons e es ih =>
    unfold markIssued
    split
    · rfl
    · rw [List.length_cons, ih, List.length_cons]

namespace Keeps

variable {s t : State}

theorem accept (h : Keeps s t) {r : Fin 4} {i : Idx} : Keeps s (t.modRing r (Ring.accept i)) :=
  h.modRing fun hLen => (List.length_filter_le _ _).trans hLen

theorem ringChanged (h : Keeps s t) {r : Fin 4} : Keeps s (t.ringChanged r) :=
  ite (fun _ => h.works (Works.refl _).testWaiting) (fun _ => h)

theorem issueRecord (h : Keeps s t) {r : Fin 4} : Keeps s (t.issueRecord r) := by
  unfold State.issueRecord
  dsimp only
  split
  · exact h
  · exact h.issueWrite.modRing fun hLen => (length_markIssued _ _).trans_le hLen

theorem issueReport (h : Keeps s t) : Keeps s t.issueReport := by
  unfold State.issueReport
  split
  · exact h.issueWrite.issueWrite.modRing.modTally
  iterate 2 exact h

theorem dropReport (h : Keeps s t) : Keeps s t.dropReport := by
  unfold State.dropReport
  split
  · exact h.modTally.performDeferred
  · exact h

theorem stopRing (h : Keeps s t) {r : Fin 4} {addr : Addr} {source : Nat} : Keeps s (t.stopRing r addr source) := by
  unfold State.stopRing
  have hStop : Keeps s ((((t.relive (AccessFor.isRecordOf r) .stopped).modRing r Ring.stop).memError addr source).raise
      .ringStopped r.val t.rings[r].written.toNat) :=
    (h.relive.modRing fun hLen => (List.length_filter_le _ _).trans hLen).raise.raise
  exact (ite (fun _ => hStop.dropReport) (fun _ => hStop)).ringChanged

theorem resetRing (h : Keeps s t) {r : Fin 4} : Keeps s (t.resetRing r) := by
  unfold State.resetRing
  have hReset : Keeps s ((t.relive (AccessFor.isRing r) .discarded).modRing r (Ring.reset r)) :=
    h.relive.modRing fun _ => Nat.zero_le _
  exact ite (fun _ => h) fun _ => (ite (fun _ => hReset.modTally) (fun _ => hReset)).ringChanged

theorem setupRing (h : Keeps s t) {r : Fin 4} {base capacity notify : Nat} :
    Keeps s (t.setupRing r base capacity notify) := h.relive.modRing.issueWrite

theorem headerAnswered (h : Keeps s t) {r : Fin 4} : Keeps s (t.headerAnswered r) := h.landAll.modRing.ringChanged.finish

theorem raiseDone (h : Keeps s t) {first : Idx} : Keeps s (t.raiseDone first) :=
  ite (fun _ => h) (fun _ => (h.foldl (fun _ _ k => k.raise) _).modCp)

theorem resultAnswered (h : Keeps s t) {n : Nat} {first : Idx} : Keeps s (t.resultAnswered n first) :=
  h.landed.raiseDone.writeBackIfDue

theorem releaseHeld (h : Keeps s t) {n : Option Nat} : Keeps s (t.releaseHeld n) := by
  unfold State.releaseHeld
  split
  · exact ite (fun _ => h.forwardHeldProducer) (fun _ => h)
  · exact h

theorem headerDone (h : Keeps s t) {n : Nat} {why : HeaderFor} : Keeps s (t.headerDone n why) := by
  cases why with
  | initial => exact h.landed
  | faultAck => exact h.landed
  | writeBack hold => exact h.landed.releaseHeld

theorem memError (h : Keeps s t) {addr : Addr} {source : Nat} : Keeps s (t.memError addr source) := h.raise

theorem ringError (h : Keeps s t) {r : Fin 4} {life : Life} {a : InFlight} {source : Nat} :
    Keeps s (t.ringError r life a source) := by
  cases life with
  | live => exact ite (fun _ => h.stopRing) (fun _ => h.memError)
  | stopped => exact h.memError
  | discarded => exact h

theorem accessError (h : Keeps s t) {a : InFlight} : Keeps s (t.accessError a) := by
  unfold State.accessError
  have hCount : Keeps s (t.landed a.serial).countError := h.landed.count
  dsimp only
  split
  · exact hCount.answer
  · exact hCount.answer
  · exact hCount.memError
  · exact hCount.ringError
  · exact hCount.ringError
  · exact hCount.stopRing.finish
  · exact hCount.memError.modCp.writeBackIfDue
  · exact hCount.memError.headerDone

theorem slotReadError (h : Keeps s t) : Keeps s t.slotReadError := h.count.memError.chainFault

theorem wordAnswered (h : Keeps s t) {r : Fin 4} {v : Idx} : Keeps s (t.wordAnswered r v) := h.modRing.raiseIf

theorem reportBurstsOver (h : Keeps s t) : Keeps s t.reportBurstsOver := by
  unfold State.reportBurstsOver
  split
  · exact h.modTally.performDeferred
  · exact h.modTally.performDeferred
  · exact h

/-! ## Command Processor -/

theorem applyChain (h : Keeps s t) {chain : List ChainSlot} : Keeps s (t.applyChain chain) := by
  unfold State.applyChain
  split
  · exact h
  · dsimp only
    split
    · exact h.tallied.answerCommand
    · exact ite (fun _ => h.tallied.modCp) (fun _ => h.tallied.answerCommand)

theorem bufferSlot (h : Keeps s t) {slot : ChainSlot} : Keeps s (t.bufferSlot slot) :=
  ite (fun _ => h.modCp.writeBack) (fun _ => h.modCp)

theorem chainStage (h : Keeps s t) {slot : ChainSlot} {chained : Bool} : Keeps s (t.chainStage slot chained) := by
  unfold State.chainStage
  split
  · exact h
  · exact ite (fun _ => h.chainFault) fun _ => ite (fun _ => h.bufferSlot) fun _ => h.applyChain
  · exact ite (fun _ => h.chainFault) fun _ => ite (fun _ => h.chainFault) fun _ => ite (fun _ => h.bufferSlot) fun _ =>
      h.modCp.applyChain

theorem takeSlot (h : Keeps s t) {bytes : List Byte} : Keeps s (t.takeSlot bytes) := h.modCp.chainStage

theorem onCommand (h : Keeps s t) {k : CmdKind} {act : List Byte → State → State} (ha : ∀ p, Keeps s (act p t)) :
    Keeps s (t.onCommand k act) := by
  unfold State.onCommand
  split
  · exact ite (fun _ => ha _) (fun _ => h)
  · exact h

theorem answerWith (h : Keeps s t) {code : ResultCode} : Keeps s (t.answerWith code) := h.finish

theorem unlessFails (h : Keeps s t) {check : Option ResultCode} {take : State → State}
    (ht : check = none → Keeps s (take t)) : Keeps s (t.unlessFails check take) := by
  unfold State.unlessFails
  split
  · exact h.answerWith
  · exact (ht rfl).answerWith

theorem readyOnly (h : Keeps s t) {k : State → State} (hk : Keeps s (k t)) : Keeps s (t.readyOnly k) :=
  ite (fun _ => hk) (fun _ => h.answerWith)

theorem boundOrReady (h : Keeps s t) {k : State → State} (hk : Keeps s (k t)) : Keeps s (t.boundOrReady k) :=
  ite (fun _ => h.answerWith) (fun _ => hk)

/-- A change of the binding state to one that is not READY. -/
theorem modCp_binding (h : Keeps s t) {f : CmdProc → CmdProc}
    (hf : (f t.cp).binding = .ready → t.pos.phase < t.pos.dv) : Keeps s (t.modCp f) :=
  { h with counts := fun hs => ⟨hf, (h.counts hs).2⟩ }

theorem bind (h : Keeps s t) {p : List Byte} : Keeps s (t.bind p) := by
  refine ite (fun _ => h.unlessFails fun _ => ?_) (fun _ => h.answerWith)
  refine modCp_binding (h.modPath_queues ?_ (hWindow := ?_)) nofun
  · exact fun hs => hs
  · simp [bindTable]

end Keeps

/-- A list of checks that holds holds at each of them. -/
theorem firstFailure_eq_none {checks : List (Bool × ResultCode)} (h : firstFailure checks = none) :
    ∀ c ∈ checks, c.1 = true := by
  induction checks with
  | nil => nofun
  | cons c cs ih =>
    obtain ⟨ok, code⟩ := c
    unfold firstFailure at h
    split at h
    next hOk => exact List.forall_mem_cons.2 ⟨hOk, ih h⟩
    next => cases h

theorem geoDv_pos {t : Vector WinEntry 16} {p : List Byte} (h : geoCheck t p = none) : 0 < geoDv p := by
  have hFirst := firstFailure_eq_none h _ (List.mem_cons_self ..)
  simp only [Bool.and_eq_true, within, decide_eq_true_eq] at hFirst
  omega

theorem QueuedWrite.unbound_crossing (w : QueuedWrite) : w.unbound.cls.crossing = w.cls.crossing := by
  unfold QueuedWrite.unbound
  split
  · rfl
  next hCross => split <;> simp_all

theorem QueuedWrite.unbound_down {w : QueuedWrite} (h : w.cls.translated = false → w.cls.down = w.burst.addr)
    (hw : w.unbound.cls.translated = false) : w.unbound.cls.down = w.unbound.burst.addr := by
  revert hw
  unfold QueuedWrite.unbound
  split
  · exact h
  · split
    iterate 2 exact fun _ => rfl
    iterate 2 exact h

theorem State.queueSound_blocksReset {s : State} (h : s.queueSound) : s.blocksReset.queueSound := by
  obtain ⟨hHead, hDown, -⟩ := h
  refine ⟨fun hSome => ?_, fun w hw => ?_, fun k hk => ?_⟩
  · obtain ⟨w, ws, hWrites, hCross⟩ := hHead (by simpa [State.blocksReset, Path.unbound] using hSome)
    exact ⟨w.unbound, ws.map QueuedWrite.unbound, by simp [State.blocksReset, Path.unbound, hWrites],
      w.unbound_crossing.trans hCross⟩
  · obtain ⟨v, hv, rfl⟩ := List.mem_map.1 hw
    exact QueuedWrite.unbound_down (hDown v hv)
  · obtain ⟨k', -, rfl⟩ := Option.map_eq_some_iff.1 hk
    exact List.nodup_nil

namespace Keeps

variable {s t : State}

theorem takeGeometry (h : Keeps s t) {p : List Byte} (hDv : 0 < geoDv p) : Keeps s (t.takeGeometry p) := by
  unfold State.takeGeometry
  have hGeo : Keeps s (t.flushIngest.modPos (Position.geometry p (t.cp.binding = .bound))) :=
    h.flushIngest.modPos_ranges le_rfl (fun hTod => hTod) fun _ => ⟨fun _ => hDv, Nat.zero_le _⟩
  exact (hGeo.newGeometry.modCp_binding fun _ => hDv).reoffer

theorem geometry (h : Keeps s t) {p : List Byte} : Keeps s (t.geometry p) :=
  ite (fun _ => h.unlessFails fun hCheck => h.takeGeometry (geoDv_pos hCheck)) (fun _ => h.answerWith)

theorem modPlan (h : Keeps s t) {f : Planner → Planner} (ha : s.oneActive → (t.modPlan f).oneActive)
    (hf : t.plan.orders.length ≤ 32 → (f t.plan).orders.length ≤ 32 := by exact fun h => h) : Keeps s (t.modPlan f) :=
  { h with
    active := ha
    tables := fun hs =>
      let ⟨hFlaws, hOrders, hRest⟩ := h.tables hs
      ⟨hFlaws, hf hOrders, hRest⟩ }

end Keeps

theorem Planner.active_eq_none {p : Planner} (h : p.active = none) (i : Fin 2) (c : Campaign) : p.slots[i] ≠ .active c := by
  unfold Planner.active at h
  split at h
  · cases h
  · cases h
  next hFirst hSecond =>
    match i with
    | 0 => exact hFirst c
    | 1 => exact hSecond c

theorem Planner.active_eq_some {p : Planner} {j : Fin 2} {d : Campaign} (h : p.active = some (j, d)) :
    p.slots[j] = .active d := by
  unfold Planner.active at h
  split at h
  next hFirst => cases h; exact hFirst
  next hSecond _ => cases h; exact hSecond
  next => cases h

/-- After the end of a campaign no slot is ACTIVE (R92). -/
theorem State.endCampaign_slots {s : State} (h : s.oneActive) (i : Fin 2) (c : Campaign) :
    s.endCampaign.plan.slots[i] ≠ .active c := by
  unfold State.endCampaign
  split
  next hNone => exact Planner.active_eq_none hNone i c
  next j d hSome =>
    have hOwn := Planner.active_eq_some hSome
    have hPlan : ∀ x : CampSlot, (∀ c, x ≠ .active c) → (s.plan.slots.set j x)[i] ≠ .active c := by
      intro x hx
      match i, j with
      | 0, 0 => simpa using hx c
      | 1, 1 => simpa using hx c
      | 0, 1 => exact fun hi => h c d ⟨by simpa using hi, hOwn⟩
      | 1, 0 => exact fun hi => h d c ⟨hOwn, by simpa using hi⟩
    have hEnded := hPlan (if ((s.plan.discard Row.uncommitted).rows.any fun r => r.slot = j) then .draining d else .none)
      (fun c => by split <;> simp)
    rwa [← Planner.discard_slots Row.uncommitted s.plan] at hEnded

namespace Keeps

variable {s t : State}

theorem beginCampaign (h : Keeps s t) {i : Fin 2} {p : List Byte} : Keeps s (t.beginCampaign i p) := by
  unfold State.beginCampaign
  have hEnd : Keeps s t.endCampaign := h.works (Works.refl _).endCampaign
  have hBegun : Keeps s (t.endCampaign.modPlan fun x =>
      { x with slots := x.slots.set i (.active (campaignFrom t.lp p)), opening := some .change }) := by
    refine hEnd.modPlan fun hs c d => ?_
    have hOther := State.endCampaign_slots (h.active hs)
    match i with
    | 0 => exact fun hcd => hOther 1 d (by simpa using hcd.2)
    | 1 => exact fun hcd => hOther 0 c (by simpa using hcd.1)
  exact hBegun.startLearning.works (Works.refl _).requestLanes.fillQueue.giveRetire.runPlanning

theorem campaignBegin (h : Keeps s t) {p : List Byte} : Keeps s (t.campaignBegin p) := by
  refine h.readyOnly ?_
  split
  · exact h.answerWith
  · exact h.unlessFails fun _ => h.beginCampaign

theorem campaignEnd (h : Keeps s t) : Keeps s t.campaignEnd :=
  h.readyOnly (ite (fun _ => (h.works (Works.refl _).endCampaign).answerWith) (fun _ => h.answerWith))

theorem orderAdd (h : Keeps s t) {p : List Byte} : Keeps s (t.orderAdd p) := by
  refine h.readyOnly (h.unlessFails fun hCheck => h.works (Works.replan ((Works.refl t).modPlan fun _ => ?_)))
  have hRoom := firstFailure_eq_none hCheck _ (List.mem_cons_of_mem _ (List.mem_cons_of_mem _ (List.mem_cons_self ..)))
  exact List.length_append.trans_le (of_decide_eq_true hRoom)

theorem moveOrder (h : Keeps s t) {id : Nat} {old new : OrderState} : Keeps s (t.moveOrder id old new) := by
  refine h.readyOnly ?_
  split
  · exact h.answerWith
  · exact ite (fun _ => (h.works ((Works.refl _).modPlan (fun hLen => (length_modOrder _ _ _).trans_le hLen)).replan
      ).answerWith) (fun _ => h.answerWith)

theorem cancelOrder (h : Keeps s t) {o : Order} : Keeps s (t.cancelOrder o) := by
  refine h.works (Works.replan ((Works.refl t).modPlan_of_slots ?_ fun hLen => ?_))
  · split <;> rfl
  · have hSpare : (t.plan.spareOrder o.id).orders.length = t.plan.orders.length := length_modOrder _ _ _
    split
    · exact (List.length_filter_le _ _).trans (hSpare.trans_le hLen)
    · exact (length_modOrder _ _ _).trans_le (hSpare.trans_le hLen)

theorem orderCancel (h : Keeps s t) {p : List Byte} : Keeps s (t.orderCancel p) := by
  refine h.readyOnly ?_
  split
  · exact h.answerWith
  · split
    · exact h.cancelOrder.answerWith
    · exact h.cancelOrder.answerWith
    · exact (h.works (Works.replan ((Works.refl t).modPlan fun hLen => (List.length_filter_le _ _).trans hLen))).answerWith
    · exact h.answerWith

theorem ringSetup (h : Keeps s t) {p : List Byte} : Keeps s (t.ringSetup p) := by
  refine h.boundOrReady ?_
  split
  · exact h.answerWith
  · split
    · exact h.answerWith
    · exact h.setupRing.modCp

theorem ringReset (h : Keeps s t) {p : List Byte} : Keeps s (t.ringReset p) := by
  refine h.boundOrReady ?_
  split
  · exact h.answerWith
  · exact h.resetRing.answerWith

theorem setClock (h : Keeps s t) {day tod : Nat} (hTod : tod < 86400000) : Keeps s (t.setClock day tod) := by
  unfold State.setClock
  have hSet : Keeps s (t.modPos (fun p => { p with day := BitVec.ofNat 16 day, tod := tod, ticks := 0 })) :=
    h.modPos_ranges le_rfl (fun _ => hTod) (fun hs => hs)
  exact (ite (fun _ => hSet.closeShift) (fun _ => hSet)).modTally

theorem setTime (h : Keeps s t) {p : List Byte} : Keeps s (t.setTime p) := by
  refine h.boundOrReady (h.unlessFails fun hCheck => h.setClock ?_)
  by_contra hTod
  rw [orRange, if_neg (by rw [decide_eq_true_eq]; exact hTod)] at hCheck
  cases hCheck

theorem shiftEnd (h : Keeps s t) : Keeps s t.shiftEnd :=
  h.boundOrReady (ite (fun _ => h.closeShift.modCp) (fun _ => h.closeShift.answerWith))

theorem gantry (h : Keeps s t) {p : List Byte} : Keeps s (t.gantry p) :=
  h.readyOnly (h.unlessFails fun _ => h.modPos.followPark)

theorem linkSetup (h : Keeps s t) {p : List Byte} : Keeps s (t.linkSetup p) :=
  h.readyOnly (h.unlessFails fun _ => h.works (Works.fillQueue ((Works.refl t).modLink)))

theorem terminalSetup (h : Keeps s t) {p : List Byte} : Keeps s (t.terminalSetup p) := by
  refine h.boundOrReady ?_
  split
  · exact h.unlessFails fun _ => h.changeTerm fun _ k => k
  · exact h.answerWith

theorem terminalSet (h : Keeps s t) {p : List Byte} : Keeps s (t.terminalSet p) := by
  refine h.boundOrReady ?_
  split
  · exact h.answerWith
  · exact h.unlessFails fun _ => h.modTerm

/-! ## UNBIND and reset -/

theorem blocksReset (h : Keeps s t) : Keeps s t.blocksReset where
  pending := h.pending
  control _ := by simp [State.entryZero, State.blocksReset, Path.unbound]
  queues hs := by simpa [State.queuesBounded, State.blocksReset, Path.unbound] using h.queues hs
  clock hs := h.clock hs
  counts _ := ⟨nofun, Nat.zero_le _⟩
  cols _ := rfl
  pulses _ := ⟨le_rfl, List.Pairwise.nil, by simp [State.blocksReset, Ingest.initial]⟩
  active _ c d := by simp [State.blocksReset, Planner.initial]
  held hs := State.queueSound_blocksReset (h.held hs)
  tables _ := by simp [State.tablesBounded, State.blocksReset, FlawMap.initial, Planner.initial, Link.initial, Ring.initial]

theorem unbind (h : Keeps s t) : Keeps s t.unbind := by
  unfold State.unbind State.forwardHeldCapture
  refine finish (count ?_)
  split
  · exact h.blocksReset.guarded h.blocksReset.forwardPlain
  · exact h.blocksReset

theorem powerOn (s : State) (k : BitVec 4) (a b : Bool) : Keeps s { State.powerOn k a b with pending := s.pending } where
  pending := rfl
  control _ := by simp [State.entryZero, State.powerOn, Path.initial]
  queues _ := by simp [State.queuesBounded, State.powerOn, Path.initial]
  clock _ := Nat.zero_lt_succ _
  counts _ := ⟨nofun, Nat.zero_le _⟩
  cols _ := rfl
  pulses _ := ⟨le_rfl, List.Pairwise.nil, by simp [State.powerOn, Ingest.initial]⟩
  active _ c d := by simp [State.powerOn, Planner.initial]
  held _ := ⟨nofun, nofun, nofun⟩
  tables _ := by simp [State.tablesBounded, State.powerOn, FlawMap.initial, Planner.initial, Link.initial, Ring.initial]

end Keeps

namespace Keeps

variable {s t : State}

theorem detect (h : Keeps s t) {p : List Byte} : Keeps s (t.detect p) := h.readyOnly (h.unlessFails fun _ => h.modIng)

theorem classifyCmd (h : Keeps s t) {p : List Byte} : Keeps s (t.classifyCmd p) :=
  h.readyOnly (h.unlessFails fun _ => h.modBlobs)

theorem gradeTable (h : Keeps s t) {p : List Byte} : Keeps s (t.gradeTable p) :=
  h.readyOnly (h.unlessFails fun _ => h.modGrader)

theorem eventSetup (h : Keeps s t) {p : List Byte} : Keeps s (t.eventSetup p) :=
  h.boundOrReady (h.unlessFails fun _ => h.modEv)

theorem eventAck (h : Keeps s t) {p : List Byte} : Keeps s (t.eventAck p) := h.boundOrReady h.modEv.answerWith

theorem shiftPlan (h : Keeps s t) {p : List Byte} : Keeps s (t.shiftPlan p) :=
  h.boundOrReady (h.unlessFails fun _ => h.modTally)

end Keeps

/-! ## The rows -/

/-- A row that goes on to a next state keeps the invariants. -/
def KeepsRow (s : State) (o : Host.Outcome State Fault Refusal) : Prop := ∀ t, o = .next t → Keeps s t

namespace KeepsRow

variable {s u : State}

theorem next (h : Keeps s u) : KeepsRow s (.next u) := fun _ hu => (Host.Outcome.next.inj hu) ▸ h

theorem fault {f : Fault} : KeepsRow s (.fault f) := fun _ h => absurd h (by simp)

theorem ite {c : Prop} [Decidable c] {o p : Host.Outcome State Fault Refusal} (h : c → KeepsRow s o)
    (k : ¬ c → KeepsRow s p) : KeepsRow s (if c then o else p) := by
  split
  · exact h ‹_›
  · exact k ‹_›

/-- A row that acts under a condition, and otherwise has no occasion. -/
theorem when {c : Prop} [Decidable c] (h : c → Keeps s u) : KeepsRow s (if c then .next u else .next s) :=
  ite (fun hc => next (h hc)) (fun _ => next (Keeps.refl s))

end KeepsRow

/-- An access that no window translates keeps its own address (R23). -/
theorem Path.classify_down {p : Path} {a : Addr} {n : Nat} (h : (p.classify a n).translated = false) :
    (p.classify a n).down = a := by
  unfold Path.classify at h ⊢
  grind

theorem execUpstreamWriteArrival_keeps (b : WriteBurst) (s : State) : KeepsRow s (execUpstreamWriteArrival b s) := by
  refine .ite (fun _ => .when fun hRoom => ?_) (fun _ => .fault)
  refine (Keeps.refl s).modPath_queues ?_ (hWrites := fun _ => List.length_append.trans_le hRoom)
  rintro ⟨hHead, hDown, hOnce⟩
  refine ⟨fun hSome => ?_, fun w hw => ?_, hOnce⟩
  · obtain ⟨w, ws, hWrites, hCross⟩ := hHead hSome
    exact ⟨w, ws ++ _, by rw [State.modPath_path, hWrites, List.cons_append], hCross⟩
  · rcases List.mem_append.1 hw with hOld | hNew
    · exact hDown w hOld
    · obtain rfl := List.mem_singleton.1 hNew
      exact Path.classify_down

theorem execUpstreamReadArrival_keeps (b : ReadBurst) (s : State) : KeepsRow s (execUpstreamReadArrival b s) :=
  .ite (fun _ => .when fun hRoom => (Keeps.refl s).modPath_queues (fun hs => hs)
    (hReads := fun _ => List.length_append.trans_le hRoom)) (fun _ => .fault)

theorem execClassificationDone_keeps (cam : Fin 8) (bufB : Bool) (s : State) :
    KeepsRow s (execClassificationDone cam bufB s) := by
  have hEnd : Keeps s (s.endClassification cam bufB).1 := (Keeps.refl s).endClassification
  unfold execClassificationDone
  split
  next hEq =>
    rw [hEq] at hEnd
    exact .next hEnd.reofferFor
  next hEq =>
    rw [hEq] at hEnd
    exact .next hEnd

theorem execReadRelease_keeps (pos : Nat) (s : State) : KeepsRow s (execReadRelease pos s) := by
  unfold execReadRelease
  split
  · exact .next (Keeps.refl s)
  · exact .ite (fun _ => .next (Keeps.refl s)) (fun _ => .next (Keeps.refl s).releaseRead)

theorem execForwardedResponse_keeps (n : Nat) (data : List Byte) (s : State) :
    KeepsRow s (execForwardedResponse n data s) := by
  have k := Keeps.refl s
  unfold execForwardedResponse
  split
  · exact .next k
  · split
    · exact .next k.landed.answer
    · exact .next k.landed.answer
    · exact .next k.landed
    · exact .next k.resultAnswered
    all_goals exact .next k

theorem execCaptureHoldExpiry_keeps (s : State) : KeepsRow s (execCaptureHoldExpiry s) := by
  unfold execCaptureHoldExpiry
  split
  · exact .next (Keeps.refl s).captureExpiry
  · exact .next (Keeps.refl s)

theorem execProducerHoldExpiry_keeps (s : State) : KeepsRow s (execProducerHoldExpiry s) := by
  unfold execProducerHoldExpiry
  split
  · exact .when fun _ => (Keeps.refl s).count.forwardHeldProducer
  · exact .next (Keeps.refl s)

theorem execMemError_keeps (a : ErrorAt) (s : State) : KeepsRow s (execMemError a s) := by
  unfold execMemError
  split
  · exact .when fun _ => (Keeps.refl s).slotReadError
  · split
    · exact .next (Keeps.refl s).accessError
    · exact .next (Keeps.refl s)

theorem execRecordIssue_keeps (r : Fin 4) (s : State) : KeepsRow s (execRecordIssue r s) :=
  .ite (fun _ => .ite (fun _ => .next (Keeps.refl s).issueReport) (fun _ => .next (Keeps.refl s).issueRecord))
    (fun _ => .next (Keeps.refl s))

theorem execProducerWordAnswered_keeps (r : Fin 4) (s : State) : KeepsRow s (execProducerWordAnswered r s) := by
  unfold execProducerWordAnswered
  split
  · exact .next (Keeps.refl s).landAll.wordAnswered
  · exact .next (Keeps.refl s)

theorem execReportAccepted_keeps (s : State) : KeepsRow s (execReportAccepted s) := by
  unfold execReportAccepted
  split
  · exact .next (Keeps.refl s).landAll.accept.modTally.performDeferred
  · exact .next (Keeps.refl s)

theorem execWriteBackDone_keeps (s : State) : KeepsRow s (execWriteBackDone s) := by
  unfold execWriteBackDone
  split
  · exact .next (Keeps.refl s).headerDone
  · exact .next (Keeps.refl s)

theorem execRingHeaderWritten_keeps (s : State) : KeepsRow s (execRingHeaderWritten s) := by
  unfold execRingHeaderWritten
  split
  · exact .next (Keeps.refl s).headerAnswered
  · exact .next (Keeps.refl s)

theorem execInFlightBurstsComplete_keeps (r : Fin 4) (s : State) : KeepsRow s (execInFlightBurstsComplete r s) :=
  .next (.ite (fun _ => (Keeps.refl s).landAll.reportBurstsOver) (fun _ => (Keeps.refl s).landAll))

/-! The rows of the Grader, the Cut Link and the interrupt lines work behind the Ingest Unit. -/

/-- A row that goes on to a next state does the work of the blocks behind the Ingest Unit alone. -/
def WorksRow (s : State) (o : Host.Outcome State Fault Refusal) : Prop := ∀ t, o = .next t → Works s t

theorem WorksRow.next {s u : State} (h : Works s u) : WorksRow s (.next u) := fun _ hu => (Host.Outcome.next.inj hu) ▸ h

theorem WorksRow.when {s u : State} {c : Prop} [Decidable c] (h : Works s u) :
    WorksRow s (if c then .next u else .next s) := by
  split
  · exact .next h
  · exact .next (Works.refl s)

theorem WorksRow.keeps {s : State} {o : Host.Outcome State Fault Refusal} (h : WorksRow s o) : KeepsRow s o :=
  fun t ht => (h t ht).keeps

theorem execFinalGrading_works (s : State) : WorksRow s (execFinalGrading s) := by
  unfold execFinalGrading
  split
  · exact .next (Works.refl s).finalGrading
  · exact .next (Works.refl s)

theorem execMalformedFrame_works (s : State) : WorksRow s (execMalformedFrame s) := by
  unfold execMalformedFrame
  split
  · split
    · exact .next (Works.refl s)
    · exact .next (Works.refl s).malformed
  · exact .next (Works.refl s)

theorem execFrameActionEnd_works (s : State) : WorksRow s (execFrameActionEnd s) := by
  unfold execFrameActionEnd
  split
  · exact .when (Works.refl s).endAction
  · exact .next (Works.refl s)

theorem execAckTimeout_works (cut : Idx) (s : State) : WorksRow s (execAckTimeout cut s) := by
  unfold execAckTimeout
  split
  · exact .when (Works.refl s).ackExpired
  · exact .next (Works.refl s)

/-- Every row keeps every invariant. -/
theorem exec_keeps (c : Instr) (s : State) : KeepsRow s (exec c s) := by
  have k : Keeps s s := Keeps.refl s
  have w : Works s s := Works.refl s
  cases c with
  | powerOnReset straps a b => exact .next (Keeps.powerOn s straps a b)
  | encoderTransition a b => exact .next k.encoder
  | ltrigPulseEnd => exact .next k.modPos
  | stallTimeout => exact .next k.stallTimeoutTaken
  | timeOfDayAdvance pins => exact .next k.advanceTime
  | upstreamWriteArrival b => exact execUpstreamWriteArrival_keeps b s
  | upstreamReadArrival b => exact execUpstreamReadArrival_keeps b s
  | writeAtHead => exact .next (k.onHead fun _ _ => k.plainHead)
  | captureWrite => exact .next (k.onHead fun _ hw => k.captureHead fun _ => hw nofun)
  | classificationDone cam bufB => exact execClassificationDone_keeps cam bufB s
  | producerWrite => exact .next (k.onHead fun _ hw => k.producerHead (hw nofun))
  | faultAck => exact .next (k.onHead fun _ _ => k.faultAckHead)
  | consumerWordWrite => exact .next (k.onHead fun _ _ => k.plainHead)
  | liveWrite => exact .next (k.onHead fun _ _ => k.liveHead)
  | readRelease pos => exact execReadRelease_keeps pos s
  | forwardedResponse n data => exact execForwardedResponse_keeps n data s
  | captureHoldExpiry => exact execCaptureHoldExpiry_keeps s
  | producerHoldExpiry => exact execProducerHoldExpiry_keeps s
  | memError a => exact execMemError_keeps a s
  | recordIssue r => exact execRecordIssue_keeps r s
  | recordAccepted r i => exact .when fun _ => k.landAll.accept.ringChanged
  | producerWordWrite r => exact .when fun _ => k.issueWrite
  | producerWordAnswered r => exact execProducerWordAnswered_keeps r s
  | reportAccepted => exact execReportAccepted_keeps s
  | slotTake bytes => exact .ite (fun _ => .when fun _ => k.takeSlot) (fun _ => .fault)
  | writeBackDone => exact execWriteBackDone_keeps s
  | ringHeaderWritten => exact execRingHeaderWritten_keeps s
  | inFlightBurstsComplete r => exact execInFlightBurstsComplete_keeps r s
  | finalGrading => exact (execFinalGrading_works s).keeps
  | frameSendStart => exact .next w.sendStart.keeps
  | frameSendComplete => exact .next w.sendComplete.keeps
  | accept => exact .next (w.onFrame fun _ _ k => k.answerAccept).keeps
  | scored => exact .next (w.onFrame fun _ _ k => k.answerScored).keeps
  | refuse => exact .next (w.onFrame fun _ _ k => k.answerRefuse).keeps
  | ready => exact .next (w.onFrame fun _ _ k => k.answerReady).keeps
  | malformedFrame => exact (execMalformedFrame_works s).keeps
  | frameDiscard x => exact (WorksRow.when w.receive).keeps
  | frameGapTimeout => exact (WorksRow.when w.discardFrame).keeps
  | ackTimeout cut => exact (execAckTimeout_works cut s).keeps
  | irqGapEnd line => exact .next k.modEv
  | characterComplete c => exact .next w.receive.keeps
  | breakTaken => exact .next w.receive.keeps
  | frameActionEnd => exact (execFrameActionEnd_works s).keeps
  | bind => exact .next (k.onCommand fun _ => k.bind)
  | unbind => exact .next (k.onCommand fun _ => k.unbind)
  | geometry => exact .next (k.onCommand fun _ => k.geometry)
  | detect => exact .next (k.onCommand fun _ => k.detect)
  | classify => exact .next (k.onCommand fun _ => k.classifyCmd)
  | gradeTable => exact .next (k.onCommand fun _ => k.gradeTable)
  | campaignBegin => exact .next (k.onCommand fun _ => k.campaignBegin)
  | campaignEnd => exact .next (k.onCommand fun _ => k.campaignEnd)
  | orderAdd => exact .next (k.onCommand fun _ => k.orderAdd)
  | orderCancel => exact .next (k.onCommand fun _ => k.orderCancel)
  | orderHold => exact .next (k.onCommand fun _ => k.moveOrder)
  | orderRelease => exact .next (k.onCommand fun _ => k.moveOrder)
  | ringSetup => exact .next (k.onCommand fun _ => k.ringSetup)
  | ringReset => exact .next (k.onCommand fun _ => k.ringReset)
  | eventSetup => exact .next (k.onCommand fun _ => k.eventSetup)
  | eventAck => exact .next (k.onCommand fun _ => k.eventAck)
  | setTime => exact .next (k.onCommand fun _ => k.setTime)
  | shiftPlan => exact .next (k.onCommand fun _ => k.shiftPlan)
  | shiftEnd => exact .next (k.onCommand fun _ => k.shiftEnd)
  | gantry => exact .next (k.onCommand fun _ => k.gantry)
  | linkSetup => exact .next (k.onCommand fun _ => k.linkSetup)
  | terminalSetup => exact .next (k.onCommand fun _ => k.terminalSetup)
  | terminalSet => exact .next (k.onCommand fun _ => k.terminalSet)

end Sys2Proof.Machine
end
section
/-! PROOFS. One step: the front of the queue, the microsecond on an empty queue, and the invariants that every step keeps. -/

/- The proofs that follow wait on one another, and each that waits holds a thread with its stack: one after the other, they
stay within the memory that the check gives. -/
set_option Elab.async false

namespace Sys2Proof.Machine

theorem step_of_empty {s : State} (h : s.pending = []) : step s = .next s.tick := by rw [step, h]

theorem step_of_cons {s : State} {c : Instr} {rest : List Instr} (h : s.pending = c :: rest) :
    step s = exec c { s with pending := rest } := by rw [step, h]

/-- A step leaves the invariants that the state with the queue's rest meets: every row keeps them, and so does a microsecond. -/
theorem step_keeps {s t : State} (h : step s = .next t) :
    Keeps s t ∨ ∃ rest, Keeps { s with pending := rest } t := by
  cases hPending : s.pending with
  | nil =>
    rw [step_of_empty hPending] at h
    exact .inl ((Host.Outcome.next.inj h) ▸ (Keeps.refl s).tick)
  | cons c rest =>
    rw [step_of_cons hPending] at h
    exact .inr ⟨rest, exec_keeps c _ t h⟩

theorem exec_pending {c : Instr} {s t : State} (h : exec c s = .next t) : t.pending = s.pending := (exec_keeps c s t h).pending

/-- Settles O1. -/
theorem stepTakesFrontCommand : Obligations.StepTakesFrontCommand := fun _ _ _ => rfl

/-- Settles O2: every row keeps the queue it finds. -/
theorem stepLeavesRestOfQueue : Obligations.StepLeavesRestOfQueue := by
  intro c rest s t hPending hStep
  rw [step_of_cons hPending] at hStep
  exact exec_pending hStep

/-- Settles O3. -/
theorem idleStepIsOneMicrosecond : Obligations.IdleStepIsOneMicrosecond := by
  intro s hPending
  refine ⟨s.tick, step_of_empty hPending, rfl, rfl, rfl, fun i => ?_, rfl⟩
  simp [State.tick]

/-- Settles O4. -/
theorem stepKeepsControlWindow : Obligations.StepKeepsControlWindow := by
  intro s t hs hStep
  rcases step_keeps hStep with k | ⟨_, k⟩ <;> exact k.control hs

/-- Settles O5. -/
theorem stepKeepsRanges : Obligations.StepKeepsRanges := by
  intro s t hStep
  rcases step_keeps hStep with k | ⟨_, k⟩ <;> exact ⟨k.queues, k.clock, k.counts, k.cols, k.pulses⟩

/-- Settles O6. -/
theorem stepKeepsOneActiveCampaign : Obligations.StepKeepsOneActiveCampaign := by
  intro s t hs hStep
  rcases step_keeps hStep with k | ⟨_, k⟩ <;> exact k.active hs

/-- Settles O7. -/
theorem stepKeepsQueueSound : Obligations.StepKeepsQueueSound := by
  intro s t hs hStep
  rcases step_keeps hStep with k | ⟨_, k⟩ <;> exact k.held hs

/-- Settles O8. -/
theorem stepKeepsTablesBounded : Obligations.StepKeepsTablesBounded := by
  intro s t hs hStep
  rcases step_keeps hStep with k | ⟨_, k⟩ <;> exact k.tables hs

/-- Settles O9. -/
theorem resetMeetsInvariants : Obligations.ResetMeetsInvariants := by
  refine ⟨?control, ?queues, ?clock, rfl, ?counts, ?active, ?held, ?tables, ?pulses⟩
  case control => simp [State.entryZero, State.reset, State.powerOn, Path.initial]
  case queues => simp [State.queuesBounded, State.reset, State.powerOn, Path.initial]
  case clock => exact Nat.zero_lt_succ _
  case counts => exact ⟨nofun, Nat.zero_le _⟩
  case active => exact fun c d => by simp [State.reset, State.powerOn, Planner.initial]
  case held => exact ⟨nofun, nofun, nofun⟩
  case tables =>
    simp [State.tablesBounded, State.reset, State.powerOn, FlawMap.initial, Planner.initial, Link.initial, Ring.initial]
  case pulses => exact ⟨le_rfl, List.Pairwise.nil, by simp [State.reset, State.powerOn, Ingest.initial]⟩

theorem Path.initial_window {straps : BitVec 4} (i : Fin 16) (hi : i ≠ 0) : (Path.initial straps).window[i].enable = false := by
  have hi' : (0 : Nat) ≠ i.val := fun h => hi (Fin.ext h.symm)
  simp [Path.initial, hi', WinEntry.disabled]

/-- Settles O12. -/
theorem powerOnResetLeavesResetState : Obligations.PowerOnResetLeavesResetState := by
  intro k a b s
  refine ⟨_, rfl, ?_⟩
  simp [State.powerOn, CmdProc.initial, Position.initial, Ingest.initial, Blobs.initial, FlawMap.initial, Planner.initial,
    Link.initial, Grader.initial, Tally.initial, Events.initial, Ring.initial, Path.initial, WinEntry.control]
  exact ⟨rfl, rfl, rfl, Path.initial_window⟩

end Sys2Proof.Machine
end
section
/-! PROOFS. The Position Unit (01): what each of its operations leaves of its registers, and the ribbon line number (R3). -/

set_option Elab.async false

namespace Sys2Proof.Machine

/-! ## The registers after each operation -/

@[simp] theorem State.startLearning_pos (s : State) : s.startLearning.pos = s.pos := rfl
@[simp] theorem State.planBreak_pos (s : State) : s.planBreak.pos = s.pos := (Works.refl s).planBreak.pos
@[simp] theorem State.planClear_pos (s : State) : s.planClear.pos = s.pos := (Works.refl s).planClear.pos
@[simp] theorem State.raise_pos (k : EventKind) (a b : Nat) (s : State) : (s.raise k a b).pos = s.pos := (Works.refl s).raise.pos
@[simp] theorem State.raiseIf_pos (c : Bool) (k : EventKind) (a b : Nat) (s : State) : (s.raiseIf c k a b).pos = s.pos :=
  (Works.refl s).raiseIf.pos
@[simp] theorem State.judgeReadiness_pos (old : Bool) (s : State) : (s.judgeReadiness old).pos = s.pos :=
  (Works.refl s).judgeReadiness.pos
@[simp] theorem State.closeShift_pos (c : CloseCause) (s : State) : (s.closeShift c).pos = s.pos :=
  congrArg Outer.pos (State.closeShift_outer c s)
@[simp] theorem State.boundaryTest_pos (s : State) : s.boundaryTest.pos = s.pos :=
  congrArg Outer.pos (State.boundaryTest_outer s)
@[simp] theorem State.finish_pos (code : ResultCode) (force : Bool) (s : State) : (s.finish code force).pos = s.pos :=
  congrArg Outer.pos (State.finish_outer s.path code force s)

theorem State.followBreak_pos (s : State) :
    s.followBreak.pos = { s.pos with broken := s.pos.inputOf .inRibbonBreak } := by
  unfold State.followBreak
  dsimp only
  split
  next hSame => rw [hSame]
  · split
    · simp
    · split <;> simp

/-- The gantry state as the command and the terminal give it (R7). -/
def Position.parkInput (p : Position) : Bool := p.parkCmd || p.inputOf .inGantryParked

theorem State.followPark_eq (cause : Nat) (s : State) : s.followPark cause =
    if s.pos.parkInput = s.pos.parked then s
    else if s.pos.parkInput then
      (s.modPos (fun p => { p with parked := true, parkTriggers := 0 })).raise .gantryParked s.pos.line cause
    else
      ((s.modPos (fun p => { p with parked := false })).raise .gantryOnGlass s.pos.line s.pos.parkTriggers).startLearning :=
  rfl

theorem State.followPark_pos (cause : Nat) (s : State) :
    (s.followPark cause).pos =
      { s.pos with parked := s.pos.parkInput,
                   parkTriggers := if s.pos.parkInput ∧ ¬ s.pos.parked then 0 else s.pos.parkTriggers } := by
  rw [State.followPark_eq]
  split
  next hSame => simp [hSame]
  next hNew =>
    split
    next hPark =>
      have hOld : s.pos.parked = false := by
        rw [hPark] at hNew
        simpa using hNew
      simp only [State.raise_pos, State.modPos_pos]
      simp [hPark, hOld]
    next hPark => simp [hPark]

/-- The break and the gantry follow the inputs. -/
def Position.followed (p : Position) : Position :=
  { p with broken := p.inputOf .inRibbonBreak, parked := p.parkInput,
           parkTriggers := if p.parkInput ∧ ¬ p.parked then 0 else p.parkTriggers }

theorem State.follow_pos (oldReady oldShift : Bool) (s : State) : (s.follow oldReady oldShift).pos = s.pos.followed := by
  unfold State.follow
  dsimp only
  split <;> simp only [State.closeShift_pos, State.judgeReadiness_pos, State.followPark_pos, State.followBreak_pos] <;> rfl

theorem State.changeTerm_pos (i : Fin 6) (f : Terminal → Terminal) {event : State → State} (he : ∀ u, (event u).pos = u.pos)
    (s : State) : (s.changeTerm i f event).pos = (s.modTerm i f).pos.followed := by
  unfold State.changeTerm
  rw [State.follow_pos, he]

theorem State.termEvent_pos (i : Fin 6) (old : Terminal) (s : State) : (s.termEvent i old).pos = s.pos := State.raiseIf_pos ..

theorem State.lineTrigger_pos (s : State) :
    s.lineTrigger.pos = { s.pos.trigger with stallTimer := 0, stallRunning := true, run := .running } := by
  have hTrigger : ∀ u : State, u.planTrigger.deadlineTest.pos = u.pos := fun u =>
    (Works.refl u).planTrigger.deadlineTest.pos
  have hIngest : ∀ n o (u : State), (u.ingestTrigger n o).pos = u.pos := fun n o u =>
    congrArg Outer.pos (State.ingestTrigger_outer n o u)
  unfold State.lineTrigger State.stallRestart
  simp only [State.raiseIf_pos, State.modPos_pos, State.tallied_pos, hTrigger, hIngest, State.lineSpan_pos]

/-! ## The ribbon line number -/

@[simp] theorem Position.advance_line (p : Position) : p.advance.line = p.line := by
  unfold Position.advance
  split <;> rfl

theorem State.changeTerm_line (i : Fin 6) (f : Terminal → Terminal) {event : State → State} (he : ∀ u, (event u).pos = u.pos)
    (s : State) : (s.changeTerm i f event).pos.line = s.pos.line := by
  rw [State.changeTerm_pos _ _ he]
  rfl

theorem State.sampleTerm_line (pins : BitVec 6) (s : State) (i : Fin 6) : (s.sampleTerm pins i).pos.line = s.pos.line := by
  unfold State.sampleTerm
  dsimp only
  split
  · exact State.changeTerm_line _ _ (State.termEvent_pos _ _) _
  · rfl

theorem State.advanceTime_line (pins : BitVec 6) (s : State) : (s.advanceTime pins).pos.line = s.pos.line := by
  have hCount : ∀ u : State, u.countAckTimers.pos = u.pos := fun u => (Works.refl u).countAckTimers.pos
  unfold State.advanceTime State.sampleAll
  rw [foldl_of (fun u => u.pos.line) _ (State.sampleTerm_line pins), State.boundaryTest_pos, hCount]
  split <;> simp [Position.countStall]

theorem State.stallTimeoutTaken_line (s : State) : s.stallTimeoutTaken.pos.line = s.pos.line := by
  unfold State.stallTimeoutTaken
  split
  · split
    · rfl
    · rw [State.raise_pos]
      rfl
  · rfl

theorem State.backwardCount_line (s : State) : s.backwardCount.pos.line = s.pos.line := by
  unfold State.backwardCount
  split
  · rfl
  · rw [State.raiseIf_pos]
    rfl

/-- What a step but for power-on reset and UNBIND may do to the ribbon line number. -/
def Position.linePasses (p q : Position) : Prop :=
  p.line ≤ q.line ∧ q.line ≤ p.line + 1 ∧ (p.line ≤ 1099511627775 → q.line ≤ 1099511627775)

theorem Position.linePasses_of_eq {p q : Position} (h : q.line = p.line) : p.linePasses q := by
  refine ⟨h.ge, ?_, fun hMax => h.trans_le hMax⟩
  rw [h]
  exact Nat.le_succ _

theorem State.forwardCount_line (s : State) : s.pos.linePasses s.forwardCount.pos := by
  unfold State.forwardCount
  split
  · exact Position.linePasses_of_eq rfl
  · split
    · exact Position.linePasses_of_eq rfl
    · split
      · exact Position.linePasses_of_eq rfl
      next hMax =>
        rw [State.lineTrigger_pos]
        exact ⟨Nat.le_succ _, le_rfl, fun _ => not_le.1 hMax⟩

theorem State.encoder_line (a b : Bool) (s : State) : s.pos.linePasses (s.encoder a b).pos := by
  unfold State.encoder
  dsimp only
  split
  · exact Position.linePasses_of_eq rfl
  · split
    · exact Position.linePasses_of_eq rfl
    · split
      · exact State.forwardCount_line (s.modPos (fun p => { p with pairA := a, pairB := b }))
      · exact Position.linePasses_of_eq (State.backwardCount_line (s.modPos _))

/-! ## Commands -/

section
variable {α : Type} {g : State → α} {s : State}

/-- What no answer changes, a command changes where its action does. -/
theorem State.unlessFails_keeps (ha : ∀ code (u : State), g (u.finish code false) = g u) {check : Option ResultCode}
    {take : State → State} (ht : check = none → g (take s) = g s) : g (s.unlessFails check take) = g s := by
  unfold State.unlessFails
  split
  · exact ha _ _
  · exact (ha _ _).trans (ht rfl)

theorem State.readyOnly_keeps (ha : ∀ code (u : State), g (u.finish code false) = g u) {k : State → State}
    (hk : g (k s) = g s) : g (s.readyOnly k) = g s := by
  unfold State.readyOnly
  split
  · exact hk
  · exact ha _ _

theorem State.boundOrReady_keeps (ha : ∀ code (u : State), g (u.finish code false) = g u) {k : State → State}
    (hk : g (k s) = g s) : g (s.boundOrReady k) = g s := by
  unfold State.boundOrReady
  split
  · exact ha _ _
  · exact hk

end

/-- An answer leaves the ribbon line number. -/
theorem State.finish_line (code : ResultCode) (s : State) : (s.finish code false).pos.line = s.pos.line := by
  rw [State.finish_pos]

theorem State.gantry_line (p : List Byte) (s : State) : (s.gantry p).pos.line = s.pos.line := by
  refine State.readyOnly_keeps (g := (·.pos.line)) State.finish_line ?_
  refine State.unlessFails_keeps (g := (·.pos.line)) State.finish_line fun _ => ?_
  simp only [State.followPark_pos, State.modPos_pos]

theorem State.terminalSetup_line (p : List Byte) (s : State) : (s.terminalSetup p).pos.line = s.pos.line := by
  refine State.boundOrReady_keeps (g := (·.pos.line)) State.finish_line ?_
  split
  · refine State.unlessFails_keeps (g := (·.pos.line)) State.finish_line fun _ => ?_
    exact State.changeTerm_line _ _ (fun _ => rfl) _
  · exact State.finish_line _ _

theorem State.terminalSet_line (p : List Byte) (s : State) : (s.terminalSet p).pos.line = s.pos.line := by
  refine State.boundOrReady_keeps (g := (·.pos.line)) State.finish_line ?_
  split
  · exact State.finish_line _ _
  · exact State.unlessFails_keeps (g := (·.pos.line)) State.finish_line fun _ => rfl

theorem State.setClock_pos (day tod : Nat) (s : State) :
    (s.setClock day tod).pos = { s.pos with day := BitVec.ofNat 16 day, tod := tod, ticks := 0 } := by
  unfold State.setClock
  dsimp only
  split
  · exact State.closeShift_pos _ _
  · rfl

theorem State.setTime_line (p : List Byte) (s : State) : (s.setTime p).pos.line = s.pos.line := by
  refine State.boundOrReady_keeps (g := (·.pos.line)) State.finish_line ?_
  refine State.unlessFails_keeps (g := (·.pos.line)) State.finish_line fun _ => ?_
  rw [State.setClock_pos]

theorem State.bind_line (p : List Byte) (s : State) : (s.bind p).pos.line = s.pos.line := by
  unfold State.bind
  split
  · exact State.unlessFails_keeps (g := (·.pos.line)) State.finish_line fun _ => rfl
  · exact State.finish_line _ _

theorem State.reoffer_pos (s : State) : s.reoffer.pos = s.pos :=
  congrArg Outer.pos (State.reoffer_outer s.path s.ing.cols s)

theorem State.flushIngest_pos (s : State) : s.flushIngest.pos = s.pos := congrArg Outer.pos (State.flushIngest_outer s)

theorem State.takeGeometry_pos (p : List Byte) (s : State) :
    (s.takeGeometry p).pos = s.pos.geometry p (s.cp.binding = .bound) := by
  unfold State.takeGeometry
  rw [State.reoffer_pos, State.modCp_pos, State.newGeometry, State.modIng_pos, State.modPos_pos, State.flushIngest_pos]

theorem State.geometry_line (p : List Byte) (s : State) : (s.geometry p).pos.line = s.pos.line := by
  unfold State.geometry
  split
  · refine State.unlessFails_keeps (g := (·.pos.line)) State.finish_line fun _ => ?_
    rw [State.takeGeometry_pos]
    rfl
  · exact State.finish_line _ _

/-! ## The rows -/

section
variable {s t : State} {q : Path} {c : Cols} {v : Vector CampSlot 2}

theorem line_of_outer (h : t.outer = s.outer) : t.pos.line = s.pos.line := congrArg (·.pos.line) h
theorem line_of_slots (h : t.outer.atSlots v = s.outer.atSlots v) : t.pos.line = s.pos.line := congrArg (·.pos.line) h
theorem line_of_ports (h : t.outer.atPorts q = s.outer.atPorts q) : t.pos.line = s.pos.line := congrArg (·.pos.line) h
theorem line_of_path (h : t.outer.atPath q c = s.outer.atPath q c) : t.pos.line = s.pos.line := congrArg (·.pos.line) h
theorem line_of_slots_ports (h : (t.outer.atSlots v).atPorts q = (s.outer.atSlots v).atPorts q) : t.pos.line = s.pos.line :=
  congrArg (·.pos.line) h

end

theorem State.onCommand_line {k : CmdKind} {act : List Byte → State → State}
    (h : ∀ p u, (act p u).pos.line = u.pos.line) {s t : State}
    (ht : Host.Outcome.next (s.onCommand k act) = (.next t : Host.Outcome State Fault Refusal)) :
    t.pos.line = s.pos.line := by
  obtain rfl := Host.Outcome.next.inj ht
  exact State.onCommand_of (·.pos.line) k act s fun p => h p s

theorem execUpstreamWriteArrival_line (b : WriteBurst) {s t : State} (h : execUpstreamWriteArrival b s = .next t) :
    t.pos.line = s.pos.line := by
  unfold execUpstreamWriteArrival at h
  split at h
  · split at h <;> obtain rfl := Host.Outcome.next.inj h <;> rfl
  · cases h

theorem execUpstreamReadArrival_line (b : ReadBurst) {s t : State} (h : execUpstreamReadArrival b s = .next t) :
    t.pos.line = s.pos.line := by
  unfold execUpstreamReadArrival at h
  split at h
  · split at h <;> obtain rfl := Host.Outcome.next.inj h <;> rfl
  · cases h

/-- Every row but ENCODER_TRANSITION, POWER_ON_RESET and UNBIND leaves the ribbon line number. -/
theorem exec_line {c : Instr} {s t : State} (hReset : ∀ k a b, c ≠ .powerOnReset k a b) (hUnbind : c ≠ .unbind)
    (h : exec c s = .next t) : s.pos.linePasses t.pos := by
  let q := s.path
  let w := s.ing.cols
  let v := s.plan.slots
  cases c with
  | powerOnReset k a b => exact absurd rfl (hReset k a b)
  | unbind => exact absurd rfl hUnbind
  | encoderTransition a b =>
    obtain rfl := Host.Outcome.next.inj (h : execEncoderTransition a b s = .next t)
    exact State.encoder_line a b s
  | ltrigPulseEnd =>
    obtain rfl := Host.Outcome.next.inj (h : execLtrigPulseEnd s = .next t)
    exact Position.linePasses_of_eq rfl
  | stallTimeout =>
    obtain rfl := Host.Outcome.next.inj (h : execStallTimeout s = .next t)
    exact Position.linePasses_of_eq (State.stallTimeoutTaken_line s)
  | timeOfDayAdvance pins =>
    obtain rfl := Host.Outcome.next.inj (h : execTimeOfDayAdvance pins s = .next t)
    exact Position.linePasses_of_eq (State.advanceTime_line pins s)
  | upstreamWriteArrival b => exact Position.linePasses_of_eq (execUpstreamWriteArrival_line b h)
  | upstreamReadArrival b => exact Position.linePasses_of_eq (execUpstreamReadArrival_line b h)
  | writeAtHead => exact Position.linePasses_of_eq (line_of_path (execWriteAtHead_outer q w h))
  | captureWrite => exact Position.linePasses_of_eq (line_of_path (execCaptureWrite_outer q w h))
  | classificationDone cam bufB => exact Position.linePasses_of_eq (line_of_path (execClassificationDone_outer q w cam bufB h))
  | producerWrite => exact Position.linePasses_of_eq (line_of_path (execProducerWrite_outer q w h))
  | faultAck => exact Position.linePasses_of_eq (line_of_path (execFaultAck_outer q w h))
  | consumerWordWrite => exact Position.linePasses_of_eq (line_of_path (execConsumerWordWrite_outer q w h))
  | liveWrite => exact Position.linePasses_of_eq (line_of_path (execLiveWrite_outer q w h))
  | readRelease n => exact Position.linePasses_of_eq (line_of_path (execReadRelease_outer q w n h))
  | forwardedResponse n data => exact Position.linePasses_of_eq (line_of_ports (execForwardedResponse_outer q n data h))
  | captureHoldExpiry => exact Position.linePasses_of_eq (line_of_path (execCaptureHoldExpiry_outer q w h))
  | producerHoldExpiry => exact Position.linePasses_of_eq (line_of_path (execProducerHoldExpiry_outer q w h))
  | memError a => exact Position.linePasses_of_eq (line_of_path (execMemError_outer q w a h))
  | recordIssue r => exact Position.linePasses_of_eq (line_of_ports (execRecordIssue_outer q r h))
  | recordAccepted r i => exact Position.linePasses_of_eq (line_of_ports (execRecordAccepted_outer q r i h))
  | producerWordWrite r => exact Position.linePasses_of_eq (line_of_ports (execProducerWordWrite_outer q r h))
  | producerWordAnswered r => exact Position.linePasses_of_eq (line_of_ports (execProducerWordAnswered_outer q r h))
  | reportAccepted => exact Position.linePasses_of_eq (line_of_ports (execReportAccepted_outer q h))
  | slotTake bytes => exact Position.linePasses_of_eq (line_of_ports (execSlotTake_outer q bytes h))
  | writeBackDone => exact Position.linePasses_of_eq (line_of_path (execWriteBackDone_outer q w h))
  | ringHeaderWritten => exact Position.linePasses_of_eq (line_of_ports (execRingHeaderWritten_outer q h))
  | inFlightBurstsComplete r => exact Position.linePasses_of_eq (line_of_ports (execInFlightBurstsComplete_outer q r h))
  | finalGrading => exact Position.linePasses_of_eq (line_of_slots (execFinalGrading_outer v h))
  | frameSendStart => exact Position.linePasses_of_eq (line_of_outer (execFrameSendStart_outer h))
  | frameSendComplete => exact Position.linePasses_of_eq (line_of_outer (execFrameSendComplete_outer h))
  | accept => exact Position.linePasses_of_eq (line_of_outer (execAccept_outer h))
  | scored => exact Position.linePasses_of_eq (line_of_outer (execScored_outer h))
  | refuse => exact Position.linePasses_of_eq (line_of_outer (execRefuse_outer h))
  | ready => exact Position.linePasses_of_eq (line_of_outer (execReady_outer h))
  | malformedFrame => exact Position.linePasses_of_eq (line_of_outer (execMalformedFrame_outer h))
  | frameDiscard x => exact Position.linePasses_of_eq (line_of_outer (execFrameDiscard_outer x h))
  | frameGapTimeout => exact Position.linePasses_of_eq (line_of_outer (execFrameGapTimeout_outer h))
  | ackTimeout cut => exact Position.linePasses_of_eq (line_of_outer (execAckTimeout_outer cut h))
  | irqGapEnd i => exact Position.linePasses_of_eq (line_of_outer (execIrqGapEnd_outer i h))
  | characterComplete c => exact Position.linePasses_of_eq (line_of_outer (execCharacterComplete_outer c h))
  | breakTaken => exact Position.linePasses_of_eq (line_of_outer (execBreakTaken_outer h))
  | frameActionEnd => exact Position.linePasses_of_eq (line_of_outer (execFrameActionEnd_outer h))
  | bind => exact Position.linePasses_of_eq (State.onCommand_line State.bind_line h)
  | geometry => exact Position.linePasses_of_eq (State.onCommand_line State.geometry_line h)
  | detect => exact Position.linePasses_of_eq (line_of_ports (execDetect_outer q h))
  | classify => exact Position.linePasses_of_eq (line_of_ports (execClassify_outer q h))
  | gradeTable => exact Position.linePasses_of_eq (line_of_ports (execGradeTable_outer q h))
  | campaignBegin => exact Position.linePasses_of_eq (line_of_slots_ports (execCampaignBegin_outer v q h))
  | campaignEnd => exact Position.linePasses_of_eq (line_of_slots_ports (execCampaignEnd_outer v q h))
  | orderAdd => exact Position.linePasses_of_eq (line_of_ports (execOrderAdd_outer q h))
  | orderCancel => exact Position.linePasses_of_eq (line_of_ports (execOrderCancel_outer q h))
  | orderHold => exact Position.linePasses_of_eq (line_of_ports (execOrderHold_outer q h))
  | orderRelease => exact Position.linePasses_of_eq (line_of_ports (execOrderRelease_outer q h))
  | ringSetup => exact Position.linePasses_of_eq (line_of_ports (execRingSetup_outer q h))
  | ringReset => exact Position.linePasses_of_eq (line_of_ports (execRingReset_outer q h))
  | eventSetup => exact Position.linePasses_of_eq (line_of_ports (execEventSetup_outer q h))
  | eventAck => exact Position.linePasses_of_eq (line_of_ports (execEventAck_outer q h))
  | setTime => exact Position.linePasses_of_eq (State.onCommand_line State.setTime_line h)
  | shiftPlan => exact Position.linePasses_of_eq (line_of_ports (execShiftPlan_outer q h))
  | shiftEnd => exact Position.linePasses_of_eq (line_of_ports (execShiftEnd_outer q h))
  | gantry => exact Position.linePasses_of_eq (State.onCommand_line State.gantry_line h)
  | linkSetup => exact Position.linePasses_of_eq (line_of_ports (execLinkSetup_outer q h))
  | terminalSetup => exact Position.linePasses_of_eq (State.onCommand_line State.terminalSetup_line h)
  | terminalSet => exact Position.linePasses_of_eq (State.onCommand_line State.terminalSet_line h)

/-- Settles O10: the line number rises at a line trigger alone, by one. -/
theorem ribbonLineNeverFalls : Obligations.RibbonLineNeverFalls := by
  intro s t hReset hUnbind hStep
  cases hPending : s.pending with
  | nil =>
    rw [step_of_empty hPending] at hStep
    obtain rfl := Host.Outcome.next.inj hStep
    exact Position.linePasses_of_eq (p := s.pos) rfl
  | cons c rest =>
    rw [step_of_cons hPending] at hStep
    rw [hPending] at hReset hUnbind
    exact exec_line (s := { s with pending := rest }) (fun k a b hc => hReset k a b (congrArg some hc))
      (fun hc => hUnbind (congrArg some hc)) hStep

end Sys2Proof.Machine
end
section
/-! PROOFS. The guards (R25, R26) and the accesses that a step issues on behalf of the upstream port: most operations issue none
(`Quiet`), those between the guard test of a write and its end keep the guards (`Calm`), and what is forwarded hits none. -/

set_option Elab.async false

namespace Sys2Proof.Machine

/-- An access on behalf of the upstream write port (R28, R30). -/
def AccessFor.upstream (a : AccessFor) : Prop := ∃ axi, a = .fwdWrite axi ∨ a = .posted axi

/-- An access enables no byte in the guard of a ring. -/
def InFlight.spares (rings : Vector Ring 4) (a : InFlight) : Prop :=
  ∀ (r : Fin 4) x, rings[r].guards r x → ¬ enables a.addr a.bytes x

theorem AccessFor.withLife_of_upstream {w : AccessFor} {l : Life} (h : (w.withLife l).upstream) : w.withLife l = w := by
  cases w with
  | record _ _ _ | prodWord _ _ _ => simp [AccessFor.upstream, AccessFor.withLife] at h
  | _ => rfl

/-! ## Changes that issue no upstream write -/

/-- Every upstream write in flight after the change was so before. -/
def Quiet (s t : State) : Prop := ∀ a ∈ t.path.down, a.what.upstream → a ∈ s.path.down

namespace Quiet

variable {s t u : State}

theorem refl (s : State) : Quiet s s := fun _ h _ => h

theorem trans (h : Quiet s t) (k : Quiet t u) : Quiet s u := fun a ha hw => h a (k a ha hw) hw

theorem of_down (h : Quiet s t) (hp : u.path.down = t.path.down) : Quiet s u := by
  rwa [Quiet, hp]

theorem of_path (h : Quiet s t) (hp : u.path = t.path) : Quiet s u := h.of_down (congrArg Path.down hp)

theorem of_outer (h : Quiet s t) (hp : u.outer = t.outer) : Quiet s u := h.of_path (congrArg Outer.path hp)

theorem foldl {α : Type} {f : State → α → State} (hf : ∀ u x, Quiet s u → Quiet s (f u x)) (l : List α) (h : Quiet s t) :
    Quiet s (l.foldl f t) := by
  induction l generalizing t with
  | nil => exact h
  | cons x xs ih => exact ih (hf t x h)

theorem ite {c : Prop} [Decidable c] (h : c → Quiet s t) (k : ¬ c → Quiet s u) : Quiet s (if c then t else u) := by
  split
  · exact h ‹_›
  · exact k ‹_›

theorem modTally (h : Quiet s t) {f : Tally → Tally} : Quiet s (t.modTally f) := h
theorem modCp (h : Quiet s t) {f : CmdProc → CmdProc} : Quiet s (t.modCp f) := h
theorem modRing (h : Quiet s t) {r : Fin 4} {f : Ring → Ring} : Quiet s (t.modRing r f) := h

theorem answer (h : Quiet s t) {a : Answer} : Quiet s (t.answer a) := h.of_down rfl

theorem raise (h : Quiet s t) {k : EventKind} {a b : Nat} : Quiet s (t.raise k a b) := h.of_path (Works.refl t).raise.path

/-- An access that the part issues on its own behalf. -/
theorem issue (h : Quiet s t) {w : AccessFor} {a : Addr} {b : List (Option Byte)} {n : Nat} (hw : ¬ w.upstream) :
    Quiet s (t.issue w a b n) := by
  intro x hx hUp
  rcases List.mem_append.1 hx with hOld | hNew
  · exact h x hOld hUp
  · rw [List.mem_singleton.1 hNew] at hUp
    exact absurd hUp hw

theorem landed (h : Quiet s t) {n : Nat} : Quiet s (t.landed n) := fun a ha => h a (List.mem_of_mem_filter ha)

theorem landAll (h : Quiet s t) {q : InFlight → Bool} : Quiet s (t.landAll q) := fun a ha => h a (List.mem_of_mem_filter ha)

/-- The writes of a ring that go on in another life are no upstream writes. -/
theorem of_map (h : Quiet s t) {q : InFlight → Bool} {l : Life}
    (hp : u.path.down = t.path.down.map (fun a => if q a then { a with what := a.what.withLife l } else a)) : Quiet s u := by
  intro x hx hUp
  rw [hp] at hx
  obtain ⟨a, ha, rfl⟩ := List.mem_map.1 hx
  by_cases hq : q a = true
  · simp only [if_pos hq] at hUp ⊢
    have hSame := AccessFor.withLife_of_upstream hUp
    rw [hSame] at hUp ⊢
    exact h a ha hUp
  · simp only [if_neg hq] at hUp ⊢
    exact h a ha hUp

theorem relive (h : Quiet s t) {q : AccessFor → Bool} {l : Life} : Quiet s (t.relive q l) := h.of_map rfl

theorem writeBackIfDue (h : Quiet s t) : Quiet s t.writeBackIfDue := by
  unfold State.writeBackIfDue
  split
  · exact ite (fun _ => h) (fun _ => h.modCp.issue (by simp [AccessFor.upstream]))
  · exact h

theorem writeBack (h : Quiet s t) : Quiet s t.writeBack := h.modCp.writeBackIfDue

theorem writeStateWord (h : Quiet s t) : Quiet s t.writeStateWord := h.issue (by simp [AccessFor.upstream])

theorem writeResult (h : Quiet s t) {slots : List Idx} {first : Idx} {code : ResultCode} {detail : Nat} :
    Quiet s (t.writeResult slots first code detail) := by
  unfold State.writeResult
  exact h.modCp.foldl (fun _ _ k => k.issue (by simp [AccessFor.upstream])) _

theorem answerCommand (h : Quiet s t) {first : Idx} {tag n : Nat} {notify : Bool} {code : ResultCode} {force : Bool} :
    Quiet s (t.answerCommand first tag n notify code force) := by
  unfold State.answerCommand
  have hResult : ∀ f, Quiet s ((t.writeResult (slotsFrom first n) first code n).modCp f) := fun _ => h.writeResult.of_path rfl
  exact ite (fun _ => (hResult _).writeBack) (fun _ => hResult _)

theorem finish (h : Quiet s t) {code : ResultCode} {force : Bool} : Quiet s (t.finish code force) := by
  unfold State.finish
  split
  · exact h
  · exact h.answerCommand

theorem chainFault (h : Quiet s t) {cause : FaultCause} {offending : List Idx} : Quiet s (t.chainFault cause offending) := by
  unfold State.chainFault
  have hResult : Quiet s (if (t.cp.chain.map (·.index) ++ offending).isEmpty then t
      else t.writeResult (t.cp.chain.map (·.index) ++ offending) ((t.cp.chain.map (·.index) ++ offending).headD 0) .sequence
        cause.code) :=
    ite (fun _ => h) (fun _ => h.writeResult)
  exact hResult.modCp.raise.writeBack

theorem performDeferred (h : Quiet s t) : Quiet s t.performDeferred := by
  have hClose : ∀ c f, Quiet s ((t.modTally f).performClose c) := fun c f => h.of_outer (State.performClose_outer c _)
  unfold State.performDeferred
  split
  · exact h
  · exact ite (fun _ => (hClose _ _).finish) (fun _ => hClose _ _)

theorem closeShift (h : Quiet s t) {c : CloseCause} : Quiet s (t.closeShift c) := h.of_outer (State.closeShift_outer c t)

/-! ### Rings and memory errors -/

theorem ringChanged (h : Quiet s t) {r : Fin 4} : Quiet s (t.ringChanged r) := h.of_outer (State.ringChanged_outer r t)

theorem dropReport (h : Quiet s t) : Quiet s t.dropReport := by
  unfold State.dropReport
  split
  · exact h.modTally.performDeferred
  · exact h

theorem memError (h : Quiet s t) {addr : Addr} {source : Nat} : Quiet s (t.memError addr source) := h.raise

theorem stopRing (h : Quiet s t) {r : Fin 4} {addr : Addr} {source : Nat} : Quiet s (t.stopRing r addr source) := by
  unfold State.stopRing
  have hStop : Quiet s ((((t.relive (AccessFor.isRecordOf r) .stopped).modRing r Ring.stop).memError addr source).raise
      .ringStopped r.val t.rings[r].written.toNat) := h.relive.modRing.memError.raise
  exact (ite (fun _ => hStop.dropReport) (fun _ => hStop)).ringChanged

theorem resetRing (h : Quiet s t) {r : Fin 4} : Quiet s (t.resetRing r) := by
  unfold State.resetRing
  have hReset : Quiet s ((t.relive (AccessFor.isRing r) .discarded).modRing r (Ring.reset r)) := h.relive.modRing
  exact ite (fun _ => h) fun _ => (ite (fun _ => hReset.modTally) (fun _ => hReset)).ringChanged

theorem setupRing (h : Quiet s t) {r : Fin 4} {base capacity notify : Nat} :
    Quiet s (t.setupRing r base capacity notify) := h.relive.modRing.issue (by simp [AccessFor.upstream])

theorem headerAnswered (h : Quiet s t) {r : Fin 4} : Quiet s (t.headerAnswered r) := h.landAll.modRing.ringChanged.finish

theorem issueRecord (h : Quiet s t) {r : Fin 4} : Quiet s (t.issueRecord r) := by
  unfold State.issueRecord
  dsimp only
  split
  · exact h
  · exact (h.issue (by simp [AccessFor.upstream])).modRing

theorem issueReport (h : Quiet s t) : Quiet s t.issueReport := by
  unfold State.issueReport
  split
  · have hNot : ∀ i, ¬ (AccessFor.record reportRing i .live).upstream := by simp [AccessFor.upstream]
    exact ((h.issue (hNot _)).issue (hNot _)).modRing.modTally
  iterate 2 exact h

theorem resultAnswered (h : Quiet s t) {n : Nat} {first : Idx} : Quiet s (t.resultAnswered n first) :=
  (h.landed.of_outer (State.raiseDone_outer first _)).writeBackIfDue

theorem ringError (h : Quiet s t) {r : Fin 4} {life : Life} {a : InFlight} {source : Nat} :
    Quiet s (t.ringError r life a source) := by
  cases life with
  | live => exact ite (fun _ => h.stopRing) (fun _ => h.memError)
  | stopped => exact h.memError
  | discarded => exact h

theorem slotReadError (h : Quiet s t) : Quiet s t.slotReadError :=
  Quiet.chainFault (Quiet.memError (h.of_down (u := t.countError) rfl))

theorem reportBurstsOver (h : Quiet s t) : Quiet s t.reportBurstsOver := by
  unfold State.reportBurstsOver
  split
  · exact h.modTally.performDeferred
  · exact h.modTally.performDeferred
  · exact h

theorem releaseRead (h : Quiet s t) {pos : Nat} {r : QueuedRead} : Quiet s (t.releaseRead pos r) := by
  have hPop : Quiet s (t.popRead pos) := h.of_down rfl
  refine ite (fun _ => hPop.of_down rfl) fun _ => ite (fun _ => hPop.of_down rfl) fun _ => ite (fun _ => h) fun _ => ?_
  exact (hPop.issue (by simp [AccessFor.upstream])).of_down rfl

/-! ### Commands -/

theorem applyChain (h : Quiet s t) {chain : List ChainSlot} : Quiet s (t.applyChain chain) := by
  unfold State.applyChain
  split
  · exact h
  · dsimp only
    split
    · exact h.modTally.answerCommand
    · exact ite (fun _ => h.modTally.modCp) (fun _ => h.modTally.answerCommand)

theorem bufferSlot (h : Quiet s t) {slot : ChainSlot} : Quiet s (t.bufferSlot slot) :=
  ite (fun _ => h.modCp.writeBack) (fun _ => h.modCp)

theorem chainStage (h : Quiet s t) {slot : ChainSlot} {chained : Bool} : Quiet s (t.chainStage slot chained) := by
  unfold State.chainStage
  split
  · exact h
  · exact ite (fun _ => h.chainFault) fun _ => ite (fun _ => h.bufferSlot) fun _ => h.applyChain
  · exact ite (fun _ => h.chainFault) fun _ => ite (fun _ => h.chainFault) fun _ => ite (fun _ => h.bufferSlot) fun _ =>
      h.modCp.applyChain

theorem takeSlot (h : Quiet s t) {bytes : List Byte} : Quiet s (t.takeSlot bytes) :=
  h.modCp.chainStage

theorem answerWith (h : Quiet s t) {code : ResultCode} : Quiet s (t.answerWith code) := h.finish

theorem unlessFails (h : Quiet s t) {check : Option ResultCode} {take : State → State}
    (ht : Quiet s (take t)) : Quiet s (t.unlessFails check take) := by
  unfold State.unlessFails
  split
  · exact h.answerWith
  · exact ht.answerWith

theorem readyOnly (h : Quiet s t) {k : State → State} (hk : Quiet s (k t)) : Quiet s (t.readyOnly k) :=
  ite (fun _ => hk) (fun _ => h.answerWith)

theorem boundOrReady (h : Quiet s t) {k : State → State} (hk : Quiet s (k t)) : Quiet s (t.boundOrReady k) :=
  ite (fun _ => h.answerWith) (fun _ => hk)

theorem bind (h : Quiet s t) {p : List Byte} : Quiet s (t.bind p) :=
  ite (fun _ => h.unlessFails (h.of_down rfl)) (fun _ => h.answerWith)

theorem campaignBegin (h : Quiet s t) {p : List Byte} : Quiet s (t.campaignBegin p) := by
  refine h.readyOnly ?_
  split
  · exact h.answerWith
  next i _ => exact h.unlessFails (h.of_path (congrArg Outer.path (State.beginCampaign_outer t.plan.slots i p t)))

theorem campaignEnd (h : Quiet s t) : Quiet s t.campaignEnd :=
  h.readyOnly (ite (fun _ => (h.of_path (Works.refl t).endCampaign.path).answerWith) (fun _ => h.answerWith))

theorem orderAdd (h : Quiet s t) {p : List Byte} : Quiet s (t.orderAdd p) :=
  h.readyOnly (h.unlessFails (h.of_path (congrArg Outer.path (State.replan_outer (t.modPlan _)))))

theorem moveOrder (h : Quiet s t) {id : Nat} {old new : OrderState} : Quiet s (t.moveOrder id old new) := by
  refine h.readyOnly ?_
  split
  · exact h.answerWith
  · exact ite (fun _ => (h.of_path (congrArg Outer.path (State.replan_outer (t.modPlan _)))).answerWith)
      (fun _ => h.answerWith)

theorem orderCancel (h : Quiet s t) {p : List Byte} : Quiet s (t.orderCancel p) := by
  refine h.readyOnly ?_
  split
  · exact h.answerWith
  · split
    iterate 2 exact (h.of_outer (State.cancelOrder_outer _ t)).answerWith
    · exact (h.of_path (congrArg Outer.path (State.replan_outer (t.modPlan _)))).answerWith
    · exact h.answerWith

theorem ringSetup (h : Quiet s t) {p : List Byte} : Quiet s (t.ringSetup p) := by
  refine h.boundOrReady ?_
  split
  · exact h.answerWith
  · split
    · exact h.answerWith
    · exact h.setupRing.modCp

theorem ringReset (h : Quiet s t) {p : List Byte} : Quiet s (t.ringReset p) := by
  refine h.boundOrReady ?_
  split
  · exact h.answerWith
  · exact h.resetRing.answerWith

theorem setTime (h : Quiet s t) {p : List Byte} : Quiet s (t.setTime p) :=
  h.boundOrReady (h.unlessFails (h.of_path (congrArg Outer.path (State.setClock_outer t.pos _ _ t))))

theorem shiftEnd (h : Quiet s t) : Quiet s t.shiftEnd :=
  h.boundOrReady (ite (fun _ => h.closeShift.modCp) (fun _ => h.closeShift.answerWith))

theorem gantry (h : Quiet s t) {p : List Byte} : Quiet s (t.gantry p) :=
  h.readyOnly (h.unlessFails (h.of_path (congrArg Outer.path (State.followPark_outer t.pos 0 (t.modPos _)))))

theorem linkSetup (h : Quiet s t) {p : List Byte} : Quiet s (t.linkSetup p) :=
  h.readyOnly (h.unlessFails (h.of_outer (State.fillQueue_outer _)))

theorem terminalSetup (h : Quiet s t) {p : List Byte} : Quiet s (t.terminalSetup p) := by
  refine h.boundOrReady ?_
  split
  next i f _ _ =>
    refine h.unlessFails (h.of_path ?_)
    exact congrArg Outer.path (State.changeTerm_outer t.pos i (Terminal.setup f p) id t (fun _ => rfl))
  next => exact h.answerWith

theorem terminalSet (h : Quiet s t) {p : List Byte} : Quiet s (t.terminalSet p) := by
  refine h.boundOrReady ?_
  split
  · exact h.answerWith
  · exact h.unlessFails (h.of_path rfl)

theorem onCommand (h : Quiet s t) {k : CmdKind} {act : List Byte → State → State} (ha : ∀ p, Quiet s (act p t)) :
    Quiet s (t.onCommand k act) := by
  unfold State.onCommand
  split
  · exact ite (fun _ => ha _) (fun _ => h)
  · exact h

end Quiet

end Sys2Proof.Machine
end
section
/-! PROOFS. No forwarded write hits a guard (R26): what the part does between the guard test of a write and the end of the row
keeps the guards, and issues no further upstream write. -/

set_option Elab.async false

namespace Sys2Proof.Machine

theorem Ring.guards_congr {g g' : Ring} (h : g'.guard = g.guard) (r : Fin 4) (x : Nat) : g'.guards r x ↔ g.guards r x := by
  simp only [Ring.guard, Prod.mk.injEq] at h
  obtain ⟨hState, hBase, hCapacity⟩ := h
  rw [Ring.guards, Ring.guards, hState, hBase, hCapacity]

/-- A change that keeps every guard and issues no upstream write. -/
structure Calm (s t : State) : Prop where
  guards : ∀ r : Fin 4, t.rings[r].guard = s.rings[r].guard
  quiet : Quiet s t

theorem Works.calm {s t : State} (w : Works s t) : Calm s t where
  guards := w.guards
  quiet := (Quiet.refl s).of_path w.path

namespace Calm

variable {s t u : State}

theorem refl (s : State) : Calm s s := (Works.refl s).calm

theorem trans (h : Calm s t) (k : Calm t u) : Calm s u where
  guards r := (k.guards r).trans (h.guards r)
  quiet := h.quiet.trans k.quiet

theorem works (h : Calm s t) (w : Works t u) : Calm s u := h.trans w.calm

theorem foldl {α : Type} {f : State → α → State} (hf : ∀ u x, Calm s u → Calm s (f u x)) (l : List α) (h : Calm s t) :
    Calm s (l.foldl f t) := by
  induction l generalizing t with
  | nil => exact h
  | cons x xs ih => exact ih (hf t x h)

theorem ite {c : Prop} [Decidable c] (h : c → Calm s t) (k : ¬ c → Calm s u) : Calm s (if c then t else u) := by
  split
  · exact h ‹_›
  · exact k ‹_›

theorem modCp (h : Calm s t) {f : CmdProc → CmdProc} : Calm s (t.modCp f) := ⟨h.guards, h.quiet⟩
theorem modIng (h : Calm s t) {f : Ingest → Ingest} : Calm s (t.modIng f) := ⟨h.guards, h.quiet⟩
theorem modCam (h : Calm s t) {c : Fin 8} {f : Camera → Camera} : Calm s (t.modCam c f) := ⟨h.guards, h.quiet⟩
theorem camCount (h : Calm s t) {c : Fin 8} {f : CamCounters → CamCounters} : Calm s (t.camCount c f) := h.modCam
theorem raise (h : Calm s t) {k : EventKind} {a b : Nat} : Calm s (t.raise k a b) := h.works (Works.refl t).raise
theorem raiseIf (h : Calm s t) {c : Bool} {k : EventKind} {a b : Nat} : Calm s (t.raiseIf c k a b) :=
  h.works (Works.refl t).raiseIf
theorem modPath (h : Calm s t) {f : Path → Path} (hf : (f t.path).down = t.path.down := by rfl) : Calm s (t.modPath f) :=
  ⟨h.guards, h.quiet.of_down hf⟩
theorem count (h : Calm s t) {f : PathCounters → PathCounters} : Calm s (t.count f) := h.modPath
theorem answer (h : Calm s t) {a : Answer} : Calm s (t.answer a) := h.modPath
theorem popWrite (h : Calm s t) : Calm s t.popWrite := h.modPath
theorem issue (h : Calm s t) {w : AccessFor} {a : Addr} {b : List (Option Byte)} {n : Nat} (hw : ¬ w.upstream) :
    Calm s (t.issue w a b n) := ⟨h.guards, h.quiet.issue hw⟩

/-! ## Results and faults -/

theorem writeBack (h : Calm s t) : Calm s t.writeBack where
  guards := by
    unfold State.writeBack State.writeBackIfDue
    split
    · split <;> exact h.guards
    · exact h.guards
  quiet := h.quiet.writeBack

theorem writeResult (h : Calm s t) {slots : List Idx} {first : Idx} {code : ResultCode} {detail : Nat} :
    Calm s (t.writeResult slots first code detail) := by
  unfold State.writeResult
  exact h.modCp.foldl (fun _ _ k => k.issue (by simp [AccessFor.upstream])) _

theorem finish (h : Calm s t) {code : ResultCode} {force : Bool} : Calm s (t.finish code force) := by
  unfold State.finish State.answerCommand
  split
  · exact h
  · exact ite (fun _ => h.writeResult.modCp.writeBack) (fun _ => h.writeResult.modCp)

theorem chainFault (h : Calm s t) {cause : FaultCause} {offending : List Idx} : Calm s (t.chainFault cause offending) := by
  unfold State.chainFault
  exact ((ite (fun _ => h) (fun _ => h.writeResult)).modCp.raise).writeBack

theorem faultAckNotice (h : Calm s t) {n : Nat} : Calm s (t.faultAckNotice n) := by
  unfold State.faultAckNotice
  have hWord : ∀ f, Calm s (t.modCp f).writeStateWord := fun f => h.modCp.issue (by simp [AccessFor.upstream])
  exact ite (fun _ => ite (fun _ => (hWord _).chainFault) fun _ => hWord _) fun _ => h

theorem holdProducer (h : Calm s t) {w : QueuedWrite} : Calm s (t.holdProducer w) := h.modPath.count.modCp

/-! ## Capture writes -/

theorem judgeLine (h : Calm s t) {m : Nat} {k : Option SpanKind} : Calm s (t.judgeLine m k) := by
  cases k <;> exact ⟨h.guards, h.quiet⟩

theorem handOver (h : Calm s t) {m : Nat} {entry : Option Pulse} : Calm s (t.handOver m entry) := by
  cases entry with
  | none => exact h.modIng.works (Works.refl _).trackAndReport
  | some p =>
    cases hCapture : p.capture with
    | none =>
      rw [State.handOver_overrun hCapture]
      exact h.modIng.judgeLine.works (Works.refl _).trackAndReport
    | some q =>
      rw [State.handOver_pulsed hCapture]
      have hEdges : ∀ u, Calm s u → Calm s (u.updateEdges m p.status) := fun u hu => hu.modIng.raiseIf.raiseIf
      exact (hEdges _ h.modIng.judgeLine).works (Works.refl _).recordEdges.trackAndReport

theorem assembleLoop {top : Nat} (fuel : Nat) (h : Calm s t) : Calm s (State.assembleLoop top fuel t) := by
  induction fuel generalizing t with
  | zero => exact h
  | succ fuel ih =>
    unfold State.assembleLoop
    refine ite (fun _ => h) (fun _ => ?_)
    dsimp only
    split
    · exact ih h.modIng.handOver
    · exact ite (fun _ => ih h.modIng.handOver) (fun _ => h)

theorem assemble (h : Calm s t) : Calm s t.assemble := assembleLoop _ h

theorem captureOrder (h : Calm s t) {cam : Fin 8} {off : Nat} {cause : OrderCause} : Calm s (t.captureOrder cam off cause) :=
  h.raise

theorem declareLost (h : Calm s t) {cam : Fin 8} {cause : LostCause} {declared : Nat → Bool} :
    Calm s (t.declareLost cam cause declared) := by
  unfold State.declareLost
  dsimp only
  split
  · exact h
  · exact h.modIng.modCam.raise

theorem completeLine (h : Calm s t) {cam : Fin 8} : Calm s (t.completeLine cam) := by
  unfold State.completeLine
  dsimp only
  split
  · exact h
  · split
    · exact h.modIng.modCam
    all_goals exact h

theorem tapBytes (h : Calm s t) {cam : Fin 8} {px : List (Nat × Byte)} : Calm s (t.tapBytes cam px) := by
  unfold State.tapBytes
  exact ite (fun _ => h.modCam.completeLine) (fun _ => h.modCam)

theorem beginLine (h : Calm s t) {cam : Fin 8} {slot j : Nat} {px : List (Nat × Byte)} :
    Calm s (t.beginLine cam slot j px) := by
  unfold State.beginLine
  dsimp only
  have hSkip : ∀ u, Calm s u → Calm s (if 0 < j then
      (u.declareLost cam .skip (fun q => t.ing.cams[cam].expected ≤ q && q < t.ing.cams[cam].expected + j)).assemble
      else u) :=
    fun u hu => ite (fun _ => hu.declareLost.assemble) (fun _ => hu)
  refine tapBytes (modCam (hSkip _ ?_))
  split
  · exact h.declareLost.modCam.assemble
  · exact h

theorem offerNew (h : Calm s t) {cam : Fin 8} {off slot : Nat} {px : List (Nat × Byte)} :
    Calm s (t.offerNew cam off slot px).1 := by
  unfold State.offerNew
  simp only [apply_ite Prod.fst]
  exact ite (fun _ => h.camCount.captureOrder) fun _ =>
    ite (fun _ => h.camCount.captureOrder) fun _ => ite (fun _ => h) fun _ => h.beginLine

theorem offer (h : Calm s t) {cam : Fin 8} {off : Nat} {bytes : List (Option Byte)} :
    Calm s (t.offer cam off bytes).1 := by
  unfold State.offer
  dsimp only
  simp only [apply_ite Prod.fst]
  refine ite (fun _ => h.camCount) (fun _ => ?_)
  split
  · simp only [apply_ite Prod.fst]
    exact ite (fun _ => h.camCount) fun _ => ite (fun _ => h.camCount.captureOrder) fun _ =>
      ite (fun _ => h) fun _ => ite (fun _ => h.tapBytes) fun _ => ite (fun _ => h) fun _ => h.offerNew
  · exact h

theorem captureExpired (h : Calm s t) {cam : Fin 8} {slot : Nat} : Calm s (t.captureExpired cam slot) := by
  unfold State.captureExpired
  dsimp only
  refine assemble (modCam (ite (fun _ => h) (fun _ => modCam (declareLost ?_))))
  exact ite (fun _ => h.declareLost.assemble) (fun _ => h)

/-! ## The head of the write queue -/

theorem refuseHead (h : Calm s t) {w : QueuedWrite} : Calm s (t.refuseHead w) := h.popWrite.answer
theorem refuseGuarded (h : Calm s t) {w : QueuedWrite} {r : Fin 4} : Calm s (t.refuseGuarded w r) := h.refuseHead.count.raise

theorem observe (h : Calm s t) {w : QueuedWrite} {x : Fin 4 × Nat} : Calm s (t.observe w x) := by
  unfold State.observe
  exact ite (fun _ => ⟨fun r => (upd_ring_guard rfl r).trans (h.guards r), h.quiet.modRing⟩) (fun _ => h.count)

end Calm

/-! ## Forwarding -/

/-- A write that crosses no page and hits no guard spares the guards at the address it is issued at. -/
def State.cleared (w : QueuedWrite) (s : State) : Prop :=
  ∀ (r : Fin 4) x, s.rings[r].guards r x → ¬ enables w.cls.down w.burst.bytes x

/-- The guard test clears a write that crosses no page and, untranslated, goes to its own address (R26). -/
theorem State.cleared_of_guardHit {s : State} {w : QueuedWrite} (h : s.guardHit w = none) (hCross : w.cls.crossing = false)
    (hDown : w.cls.translated = false → w.cls.down = w.burst.addr) : s.cleared w := by
  have hNone : ∀ r, ¬ s.hitsGuard w r := by
    intro r hHit
    unfold State.guardHit at h
    rw [if_neg (by simp [hCross]), List.find?_eq_none] at h
    exact h r (List.mem_finRange r) ((State.hitsGuard_iff s w r).1 hHit)
  intro r x hGuard hEnables
  refine hNone r ⟨x, hGuard, ?_⟩
  cases hTranslated : w.cls.translated with
  | true => exact .inr ⟨rfl, hEnables⟩
  | false => exact .inl (hDown hTranslated ▸ hEnables)

/-- Every upstream write that is in flight after the change, and was not before, spares the guards as they stand then. -/
def Shelters (s t : State) : Prop := ∀ a ∈ t.path.down, a.what.upstream → a ∈ s.path.down ∨ a.spares t.rings

theorem Quiet.shelters {s t : State} (h : Quiet s t) : Shelters s t := fun a ha hUp => .inl (h a ha hUp)

namespace Shelters

variable {s t u : State}

theorem before (h : Quiet s t) (k : Shelters t u) : Shelters s u := by
  intro a ha hUp
  rcases k a ha hUp with hOld | hNew
  · exact .inl (h a hOld hUp)
  · exact .inr hNew

theorem calm (h : Shelters s t) (k : Calm t u) : Shelters s u := by
  intro a ha hUp
  rcases h a (k.quiet a ha hUp) hUp with hOld | hNew
  · exact .inl hOld
  · exact .inr fun r x hx => hNew r x ((Ring.guards_congr (k.guards r) r x).1 hx)

theorem ite {c : Prop} [Decidable c] (h : c → Shelters s t) (k : ¬ c → Shelters s u) : Shelters s (if c then t else u) := by
  split
  · exact h ‹_›
  · exact k ‹_›

/-- A cleared write is issued. -/
theorem issue (h : Calm s t) {w : QueuedWrite} (hw : s.cleared w) {what : AccessFor} :
    Shelters s (t.issue what w.cls.down w.burst.bytes 0) := by
  intro a ha hUp
  rcases List.mem_append.1 ha with hOld | hNew
  · exact .inl (h.quiet a hOld hUp)
  · rw [List.mem_singleton.1 hNew]
    exact .inr fun r x hx => hw r x ((Ring.guards_congr (h.guards r) r x).1 hx)

theorem forwardHead (h : Calm s t) {w : QueuedWrite} (hw : s.cleared w) {what : AccessFor} :
    Shelters s (t.forwardHead w what) :=
  (issue h.popWrite hw).calm ((Calm.refl _).foldl (fun _ _ k => k.observe) _)

theorem forwardPlain (h : Calm s t) {w : QueuedWrite} (hw : s.cleared w) : Shelters s (t.forwardPlain w) :=
  (forwardHead h hw).calm (Calm.refl _).count

theorem forwardPosted (h : Calm s t) {w : QueuedWrite} (hw : s.cleared w) : Shelters s (t.forwardPosted w) :=
  (forwardHead h hw).calm (Calm.refl _).answer

theorem guarded (h : Calm s t) {w : QueuedWrite} {k : State → State} (hCross : w.cls.crossing = false)
    (hDown : w.cls.translated = false → w.cls.down = w.burst.addr) (hk : t.cleared w → Shelters s (k t)) :
    Shelters s (t.guarded w k) := by
  unfold State.guarded
  split
  · exact h.refuseGuarded.quiet.shelters
  next hHit => exact hk (State.cleared_of_guardHit hHit hCross hDown)

end Shelters

/-- The head of the write queue, which crosses no page and, untranslated, goes to its own address. -/
structure QueuedWrite.sound (w : QueuedWrite) : Prop where
  crossing : w.cls.crossing = false
  down : w.cls.translated = false → w.cls.down = w.burst.addr

theorem State.atHead_sound {s : State} {w : QueuedWrite} (h : s.queueSound) (hw : s.atHead w) : w.sound := by
  obtain ⟨ws, hWrites, hCross⟩ := hw
  exact ⟨hCross, h.2.1 w (by rw [hWrites]; exact List.mem_cons_self ..)⟩

namespace Shelters

variable {s t : State}

/-- A write that passes the guard test is forwarded. -/
theorem guardedPlain (h : Quiet s t) {w : QueuedWrite} (hw : w.sound) :
    Shelters s (t.guarded w (State.forwardPlain w)) :=
  before h (guarded (Calm.refl t) hw.crossing hw.down fun hClear => forwardPlain (Calm.refl t) hClear)

theorem guardedPosted (h : Quiet s t) {w : QueuedWrite} (hw : w.sound) :
    Shelters s (t.guarded w (State.forwardPosted w)) :=
  before h (guarded (Calm.refl t) hw.crossing hw.down fun hClear => forwardPosted (Calm.refl t) hClear)

theorem offerWrite {w : QueuedWrite} (hw : s.cleared w) : Shelters s (s.offerWrite w) := by
  unfold State.offerWrite
  have hOffer : Calm s (s.offer w.cls.cam w.cls.offset w.burst.bytes).1 := (Calm.refl s).offer
  split
  next hEq =>
    rw [hEq] at hOffer
    exact (forwardPosted hOffer hw).calm (Calm.refl _).count
  next hEq =>
    rw [hEq] at hOffer
    exact (forwardPosted hOffer hw).calm (Calm.refl _).count
  next hEq =>
    rw [hEq] at hOffer
    exact hOffer.modPath.count.quiet.shelters

theorem captureHead (h : Quiet s t) {w : QueuedWrite} (hw : w.sound) : Shelters s (t.captureHead w) :=
  before h (guarded (Calm.refl t) hw.crossing hw.down offerWrite)

theorem plainHead {w : QueuedWrite} (hDown : w.cls.translated = false → w.cls.down = w.burst.addr) :
    Shelters s (s.plainHead w) :=
  ite (fun _ => (Calm.refl s).refuseHead.count.quiet.shelters) fun hCross =>
    guardedPlain (Quiet.refl s) ⟨by simpa using hCross, hDown⟩

theorem faultAckHead {w : QueuedWrite} (hw : w.sound) : Shelters s (s.faultAckHead w) :=
  guarded (Calm.refl s) hw.crossing hw.down fun hClear => (forwardPlain (Calm.refl s) hClear).calm (Calm.refl _).faultAckNotice

theorem liveHead {w : QueuedWrite} : Shelters s (s.liveHead w) := by
  refine Quiet.shelters ?_
  unfold State.liveHead State.guarded
  split
  · exact (Calm.refl s).refuseGuarded.quiet
  · exact (Calm.refl s).refuseHead.count.raise.quiet

theorem forwardHeldProducer (h : Quiet s t) (hHead : ∀ w ws, t.path.writes = w :: ws → w.sound) :
    Shelters s t.forwardHeldProducer := by
  unfold State.forwardHeldProducer
  split
  next w ws hWrites => exact guardedPlain h (hHead w ws hWrites)
  next => exact h.shelters

theorem producerTaken (h : Calm s t) {w : QueuedWrite} (hw : w.sound) (hClear : s.cleared w)
    (hHead : ∃ ws, t.path.writes = w :: ws) : Shelters s (t.producerTaken w) := by
  unfold State.producerTaken
  dsimp only
  have hHeld : Calm s ((t.learnProducer w).holdProducer w) := h.modCp.holdProducer
  have hNext : Shelters s ((t.learnProducer w).holdProducer w).forwardHeldProducer := by
    refine forwardHeldProducer hHeld.quiet fun v vs hWrites => ?_
    obtain ⟨ws, hHead⟩ := hHead
    obtain rfl : w = v := (List.cons.inj (hHead.symm.trans hWrites)).1
    exact hw
  split
  · exact forwardPlain h.modCp hClear
  all_goals
    exact ite (fun _ => hNext) fun _ => ite (fun _ => hHeld.chainFault.quiet.shelters) fun _ => hHeld.quiet.shelters

theorem producerHead {w : QueuedWrite} (hw : w.sound) (hHead : ∃ ws, s.path.writes = w :: ws) :
    Shelters s (s.producerHead w) := by
  refine guarded (Calm.refl s) hw.crossing hw.down fun hClear => ?_
  split
  · refine producerTaken (Calm.refl s).faultAckNotice hw hClear ?_
    rwa [show (s.faultAckNotice s.path.nextAccess).path.writes = s.path.writes from
      congrArg (fun o => o.path.writes) (State.faultAckNotice_outer s.path _ s)]
  · exact producerTaken (Calm.refl s) hw hClear hHead

theorem reoffer (h : Quiet s t) (hSound : t.queueSound) : Shelters s t.reoffer := by
  unfold State.reoffer
  split
  next hHeld => exact captureHead h (State.atHead_sound hSound (State.atHead_of_heldCapture hHeld hSound))
  next => exact h.shelters

theorem reofferFor (h : Quiet s t) (hSound : t.queueSound) {cam : Fin 8} : Shelters s (t.reofferFor cam) := by
  unfold State.reofferFor
  split
  · exact ite (fun _ => reoffer h hSound) (fun _ => h.shelters)
  · exact h.shelters

theorem captureExpiry (hSound : s.queueSound) {w : QueuedWrite} (hw : s.heldCapture = some w) :
    Shelters s (s.captureExpiry w) := by
  unfold State.captureExpiry
  exact (guardedPosted (Calm.refl s).count.quiet (State.atHead_sound hSound (State.atHead_of_heldCapture hw hSound))).calm
    (Calm.refl _).captureExpired

/-- A row acts on a head of its kind, which crosses no page unless it is a plain one. -/
theorem onHead (hSound : s.queueSound) {k : HeadKind} {act : QueuedWrite → State → State}
    (ha : ∀ w, (∃ ws, s.path.writes = w :: ws) → (w.cls.translated = false → w.cls.down = w.burst.addr) →
      (k ≠ .plain → w.sound) → Shelters s (act w s)) : Shelters s (s.onHead k act) := by
  unfold State.onHead
  split
  next w ws _ hWrites =>
    have hDown := hSound.2.1 w (by rw [hWrites]; exact List.mem_cons_self ..)
    refine ite (fun hKind => ha w ⟨ws, hWrites⟩ hDown fun hPlain => ⟨?_, hDown⟩) (fun _ => (Quiet.refl s).shelters)
    by_contra hCross
    rw [State.headKind, if_pos (by simpa using hCross)] at hKind
    exact hPlain hKind.symm
  next => exact (Quiet.refl s).shelters

/-- The held write is forwarded when its write-back is over. -/
theorem headerDone (hSound : s.queueSound) (h : Quiet s t) (hQueue : t.path.writes = s.path.writes)
    (hHold : t.path.hold = s.path.hold) {n : Nat} {why : HeaderFor} : Shelters s (t.headerDone n why) := by
  cases why with
  | initial => exact h.landed.shelters
  | faultAck => exact h.landed.shelters
  | writeBack hold =>
    change Shelters s ((t.landed n).releaseHeld hold)
    unfold State.releaseHeld
    split
    next k _ hSome =>
      refine ite (fun _ => forwardHeldProducer h.landed fun w ws hWrites => ?_) (fun _ => h.landed.shelters)
      obtain ⟨v, vs, hHead, hCross⟩ := hSound.1 (by rw [← hHold, show t.path.hold = some _ from hSome]; rfl)
      obtain ⟨rfl, -⟩ := List.cons.inj ((hQueue.trans hHead).symm.trans hWrites)
      exact State.atHead_sound hSound ⟨vs, hHead, hCross⟩
    next => exact h.landed.shelters

theorem accessError (hSound : s.queueSound) {a : InFlight} : Shelters s (s.accessError a) := by
  unfold State.accessError
  have h : Quiet s (s.landed a.serial).countError := (Quiet.refl s).landed.of_down rfl
  dsimp only
  split
  · exact h.answer.shelters
  · exact h.answer.shelters
  · exact h.memError.shelters
  · exact h.ringError.shelters
  · exact h.ringError.shelters
  · exact h.stopRing.finish.shelters
  · exact h.memError.modCp.writeBackIfDue.shelters
  · have hRaise : ((s.landed a.serial).countError.memError a.addr 4).path = (s.landed a.serial).countError.path :=
      (Works.refl _).raise.path
    refine headerDone hSound h.memError ?_ ?_ <;> rw [hRaise] <;> rfl

theorem takeGeometry (hSound : s.queueSound) {p : List Byte} : Shelters s (s.takeGeometry p) := by
  unfold State.takeGeometry
  have hPath : (((s.flushIngest.modPos (Position.geometry p (s.cp.binding = .bound))).newGeometry (geoCams p) (geoPp p)
      (geoHold p)).modCp (fun c => { c with binding := .ready })).path = s.path :=
    congrArg Outer.path (State.flushIngest_outer s)
  refine reoffer ((Quiet.refl s).of_path hPath) ?_
  rwa [State.queueSound, hPath]

theorem geometry (hSound : s.queueSound) {p : List Byte} : Shelters s (s.geometry p) := by
  refine ite (fun _ => ?_) (fun _ => (Quiet.refl s).answerWith.shelters)
  unfold State.unlessFails
  split
  · exact (Quiet.refl s).answerWith.shelters
  · exact (takeGeometry hSound).calm (Calm.refl _).finish

theorem unbind (hSound : s.queueSound) : Shelters s s.unbind := by
  have hReset : Quiet s s.blocksReset := by
    refine (Quiet.refl s).of_map (q := fun _ => true) (l := .discarded) ?_
    simp [State.blocksReset, Path.unbound]
  have hSoundReset := State.queueSound_blocksReset hSound
  have hForward : Shelters s s.blocksReset.forwardHeldCapture := by
    unfold State.forwardHeldCapture
    split
    next hHeld =>
      exact guardedPlain hReset (State.atHead_sound hSoundReset (State.atHead_of_heldCapture hHeld hSoundReset))
    next => exact hReset.shelters
  exact (hForward.calm (Calm.refl _).count).calm (Calm.refl _).finish

theorem onCommand {k : CmdKind} {act : List Byte → State → State} (ha : ∀ p, Shelters s (act p s)) :
    Shelters s (s.onCommand k act) := by
  unfold State.onCommand
  split
  · exact ite (fun _ => ha _) (fun _ => (Quiet.refl s).shelters)
  · exact (Quiet.refl s).shelters

end Shelters

/-! ## The rows -/

/-- A row that goes on to a next state forwards no write into a guard. -/
def ShelteredRow (s : State) (o : Host.Outcome State Fault Refusal) : Prop := ∀ t, o = .next t → Shelters s t

namespace ShelteredRow

variable {s u : State}

theorem next (h : Shelters s u) : ShelteredRow s (.next u) := fun _ hu => (Host.Outcome.next.inj hu) ▸ h

theorem fault {f : Fault} : ShelteredRow s (.fault f) := fun _ h => absurd h (by simp)

theorem ite {c : Prop} [Decidable c] {o p : Host.Outcome State Fault Refusal} (h : c → ShelteredRow s o)
    (k : ¬ c → ShelteredRow s p) : ShelteredRow s (if c then o else p) := by
  split
  · exact h ‹_›
  · exact k ‹_›

theorem quiet (h : Quiet s u) : ShelteredRow s (.next u) := next h.shelters

/-- The row has no occasion. -/
theorem idle : ShelteredRow s (.next s) := quiet (Quiet.refl s)

theorem when {c : Prop} [Decidable c] (h : c → Quiet s u) : ShelteredRow s (if c then .next u else .next s) :=
  ite (fun hc => quiet (h hc)) (fun _ => idle)

theorem of_path {o : Host.Outcome State Fault Refusal} (h : ∀ {t}, o = .next t → t.path = s.path) : ShelteredRow s o :=
  fun _ ht => ((Quiet.refl s).of_path (h ht)).shelters

theorem of_outer {o : Host.Outcome State Fault Refusal} (h : ∀ {t}, o = .next t → t.outer = s.outer) : ShelteredRow s o :=
  of_path fun ht => congrArg Outer.path (h ht)

/-- A row of the Position Unit. -/
theorem of_pos {o : Host.Outcome State Fault Refusal} (h : ∀ {t}, o = .next t → t.outer.atPos s.pos = s.outer.atPos s.pos) :
    ShelteredRow s o := of_path fun ht => congrArg Outer.path (h ht)

end ShelteredRow

theorem execUpstreamWriteArrival_sheltered (b : WriteBurst) (s : State) : ShelteredRow s (execUpstreamWriteArrival b s) :=
  .ite (fun _ => .when fun _ => (Quiet.refl s).of_down rfl) (fun _ => .fault)

theorem execUpstreamReadArrival_sheltered (b : ReadBurst) (s : State) : ShelteredRow s (execUpstreamReadArrival b s) :=
  .ite (fun _ => .when fun _ => (Quiet.refl s).of_down rfl) (fun _ => .fault)

theorem execClassificationDone_sheltered {s : State} (h : s.queueSound) (cam : Fin 8) (bufB : Bool) :
    ShelteredRow s (execClassificationDone cam bufB s) := by
  have hPath : (s.endClassification cam bufB).1.path = s.path :=
    congrArg Outer.path (State.endClassification_outer cam bufB s)
  unfold execClassificationDone
  split
  next hEq =>
    rw [hEq] at hPath
    exact .next (Shelters.reofferFor ((Quiet.refl s).of_path hPath) (by rwa [State.queueSound, hPath]))
  next hEq =>
    rw [hEq] at hPath
    exact .quiet ((Quiet.refl s).of_path hPath)

theorem execReadRelease_sheltered (pos : Nat) (s : State) : ShelteredRow s (execReadRelease pos s) := by
  unfold execReadRelease
  split
  · exact .idle
  · exact .ite (fun _ => .idle) (fun _ => .quiet (Quiet.refl s).releaseRead)

theorem execForwardedResponse_sheltered (n : Nat) (data : List Byte) (s : State) :
    ShelteredRow s (execForwardedResponse n data s) := by
  have h := Quiet.refl s
  unfold execForwardedResponse
  split
  · exact .idle
  · split
    · exact .quiet h.landed.answer
    · exact .quiet h.landed.answer
    · exact .quiet h.landed
    · exact .quiet h.resultAnswered
    all_goals exact .idle

theorem execCaptureHoldExpiry_sheltered {s : State} (h : s.queueSound) : ShelteredRow s (execCaptureHoldExpiry s) := by
  unfold execCaptureHoldExpiry
  split
  next hHeld => exact .next (Shelters.captureExpiry h hHeld)
  next => exact .idle

theorem execProducerHoldExpiry_sheltered {s : State} (h : s.queueSound) : ShelteredRow s (execProducerHoldExpiry s) := by
  unfold execProducerHoldExpiry
  split
  next k hHold =>
    refine .ite (fun _ => .next (Shelters.forwardHeldProducer (Calm.refl s).count.quiet fun w ws hWrites => ?_)) (fun _ => .idle)
    obtain ⟨v, vs, hHead, hCross⟩ := h.1 (by rw [hHold]; rfl)
    obtain ⟨rfl, -⟩ := List.cons.inj (hHead.symm.trans hWrites)
    exact State.atHead_sound h ⟨vs, hHead, hCross⟩
  next => exact .idle

theorem execMemError_sheltered {s : State} (h : s.queueSound) (a : ErrorAt) : ShelteredRow s (execMemError a s) := by
  unfold execMemError
  split
  · exact .when fun _ => (Quiet.refl s).slotReadError
  · split
    · exact .next (Shelters.accessError h)
    · exact .idle

theorem execReportAccepted_sheltered (s : State) : ShelteredRow s (execReportAccepted s) := by
  unfold execReportAccepted
  split
  · exact .quiet (Quiet.refl s).landAll.modRing.modTally.performDeferred
  · exact .idle

theorem execProducerWordAnswered_sheltered (r : Fin 4) (s : State) : ShelteredRow s (execProducerWordAnswered r s) := by
  unfold execProducerWordAnswered
  split
  · exact .quiet ((Quiet.refl s).landAll.of_outer (State.wordAnswered_outer _ _ _))
  · exact .idle

theorem execWriteBackDone_sheltered {s : State} (h : s.queueSound) : ShelteredRow s (execWriteBackDone s) := by
  unfold execWriteBackDone
  split
  · exact .next (Shelters.headerDone h (Quiet.refl s) rfl rfl)
  · exact .idle

theorem execRingHeaderWritten_sheltered (s : State) : ShelteredRow s (execRingHeaderWritten s) := by
  unfold execRingHeaderWritten
  split
  · exact .quiet (Quiet.refl s).headerAnswered
  · exact .idle

/-- No row forwards a write into a guard. -/
theorem exec_sheltered (c : Instr) {s : State} (h : s.queueSound) : ShelteredRow s (exec c s) := by
  have k := Quiet.refl s
  cases c with
  | powerOnReset straps a b =>
    refine .quiet fun x hx hUp => ?_
    obtain rfl := List.mem_singleton.1 hx
    simp [InFlight.firstHeader, AccessFor.upstream] at hUp
  | encoderTransition a b => exact .of_pos (execEncoderTransition_outer s.pos a b)
  | ltrigPulseEnd => exact .of_pos (execLtrigPulseEnd_outer s.pos)
  | stallTimeout => exact .of_pos (execStallTimeout_outer s.pos)
  | timeOfDayAdvance pins => exact .of_pos (execTimeOfDayAdvance_outer s.pos pins)
  | upstreamWriteArrival b => exact execUpstreamWriteArrival_sheltered b s
  | upstreamReadArrival b => exact execUpstreamReadArrival_sheltered b s
  | writeAtHead => exact .next (Shelters.onHead h fun _ _ hDown _ => Shelters.plainHead hDown)
  | captureWrite => exact .next (Shelters.onHead h fun _ _ _ hw => Shelters.captureHead k (hw nofun))
  | classificationDone cam bufB => exact execClassificationDone_sheltered h cam bufB
  | producerWrite => exact .next (Shelters.onHead h fun _ hHead _ hw => Shelters.producerHead (hw nofun) hHead)
  | faultAck => exact .next (Shelters.onHead h fun _ _ _ hw => Shelters.faultAckHead (hw nofun))
  | consumerWordWrite => exact .next (Shelters.onHead h fun _ _ hDown _ => Shelters.plainHead hDown)
  | liveWrite => exact .next (Shelters.onHead h fun _ _ _ _ => Shelters.liveHead)
  | readRelease pos => exact execReadRelease_sheltered pos s
  | forwardedResponse n data => exact execForwardedResponse_sheltered n data s
  | captureHoldExpiry => exact execCaptureHoldExpiry_sheltered h
  | producerHoldExpiry => exact execProducerHoldExpiry_sheltered h
  | memError a => exact execMemError_sheltered h a
  | recordIssue r => exact .ite (fun _ => .ite (fun _ => .quiet k.issueReport) (fun _ => .quiet k.issueRecord)) (fun _ => .idle)
  | recordAccepted r i => exact .when fun _ => k.landAll.modRing.ringChanged
  | producerWordWrite r => exact .when fun _ => k.issue (by simp [AccessFor.upstream])
  | producerWordAnswered r => exact execProducerWordAnswered_sheltered r s
  | reportAccepted => exact execReportAccepted_sheltered s
  | slotTake bytes => exact .ite (fun _ => .when fun _ => k.takeSlot) (fun _ => .fault)
  | writeBackDone => exact execWriteBackDone_sheltered h
  | ringHeaderWritten => exact execRingHeaderWritten_sheltered s
  | inFlightBurstsComplete r => exact .quiet (.ite (fun _ => k.landAll.reportBurstsOver) (fun _ => k.landAll))
  | finalGrading => exact .of_path fun ht => congrArg Outer.path (execFinalGrading_outer s.plan.slots ht)
  | frameSendStart => exact .of_outer execFrameSendStart_outer
  | frameSendComplete => exact .of_outer execFrameSendComplete_outer
  | accept => exact .of_outer execAccept_outer
  | scored => exact .of_outer execScored_outer
  | refuse => exact .of_outer execRefuse_outer
  | ready => exact .of_outer execReady_outer
  | malformedFrame => exact .of_outer execMalformedFrame_outer
  | frameDiscard x => exact .of_outer (execFrameDiscard_outer x)
  | frameGapTimeout => exact .of_outer execFrameGapTimeout_outer
  | ackTimeout cut => exact .of_outer (execAckTimeout_outer cut)
  | irqGapEnd i => exact .of_outer (execIrqGapEnd_outer i)
  | characterComplete c => exact .of_outer (execCharacterComplete_outer c)
  | breakTaken => exact .of_outer execBreakTaken_outer
  | frameActionEnd => exact .of_outer execFrameActionEnd_outer
  | bind => exact .quiet (k.onCommand fun _ => k.bind)
  | unbind => exact .next (Shelters.onCommand fun _ => Shelters.unbind h)
  | geometry => exact .next (Shelters.onCommand fun _ => Shelters.geometry h)
  | detect => exact .quiet (k.onCommand fun _ => k.readyOnly (k.unlessFails (k.of_down rfl)))
  | classify => exact .quiet (k.onCommand fun _ => k.readyOnly (k.unlessFails (k.of_down rfl)))
  | gradeTable => exact .quiet (k.onCommand fun _ => k.readyOnly (k.unlessFails (k.of_down rfl)))
  | campaignBegin => exact .quiet (k.onCommand fun _ => k.campaignBegin)
  | campaignEnd => exact .quiet (k.onCommand fun _ => k.campaignEnd)
  | orderAdd => exact .quiet (k.onCommand fun _ => k.orderAdd)
  | orderCancel => exact .quiet (k.onCommand fun _ => k.orderCancel)
  | orderHold => exact .quiet (k.onCommand fun _ => k.moveOrder)
  | orderRelease => exact .quiet (k.onCommand fun _ => k.moveOrder)
  | ringSetup => exact .quiet (k.onCommand fun _ => k.ringSetup)
  | ringReset => exact .quiet (k.onCommand fun _ => k.ringReset)
  | eventSetup => exact .quiet (k.onCommand fun _ => k.boundOrReady (k.unlessFails (k.of_down rfl)))
  | eventAck => exact .quiet (k.onCommand fun _ => k.boundOrReady (k.of_down (u := s.modEv _) rfl).answerWith)
  | setTime => exact .quiet (k.onCommand fun _ => k.setTime)
  | shiftPlan => exact .quiet (k.onCommand fun _ => k.boundOrReady (k.unlessFails (k.of_down rfl)))
  | shiftEnd => exact .quiet (k.onCommand fun _ => k.shiftEnd)
  | gantry => exact .quiet (k.onCommand fun _ => k.gantry)
  | linkSetup => exact .quiet (k.onCommand fun _ => k.linkSetup)
  | terminalSetup => exact .quiet (k.onCommand fun _ => k.terminalSetup)
  | terminalSet => exact .quiet (k.onCommand fun _ => k.terminalSet)

/-- Settles O11: a write that a row forwards has passed the guard test, and nothing between the test and the end of the row
changes a guard. -/
theorem noForwardedWriteHitsGuard : Obligations.NoForwardedWriteHitsGuard := by
  intro s t hSound hStep a ha hNew hUp r hRunning x y hxy
  have hShelters : Shelters s t := by
    cases hPending : s.pending with
    | nil =>
      rw [step_of_empty hPending] at hStep
      obtain rfl := Host.Outcome.next.inj hStep
      exact ((Quiet.refl s).of_down rfl).shelters
    | cons c rest =>
      rw [step_of_cons hPending] at hStep
      exact exec_sheltered (s := { s with pending := rest }) c hSound t hStep
  have hSpares := (hShelters a ha hUp).resolve_left hNew
  have hNot : ¬ t.rings[r].guards r x := fun hGuards => hSpares r x hGuards ⟨y, hxy⟩
  exact ⟨fun hWord => hNot ⟨hRunning, .inl hWord⟩, fun hArea => hNot ⟨hRunning, .inr hArea⟩⟩

end Sys2Proof.Machine
end
section
/-! PROOFS. Counting (R1, R2), the timers (R4, R6, R191), and the gaps of the interrupt lines (R190, R191). -/

set_option Elab.async false

namespace Sys2Proof.Machine

/-! ## Counting -/

/-- The encoder inputs take new levels, and nothing else changes. -/
def State.encoderMoved (a b : Bool) (s : State) : State := s.modPos (fun p => { p with pairA := a, pairB := b })

/-- The number of places of the Gray sequence that an encoder pair moves. -/
def grayStep (a b c d : Bool) : Nat := (grayPlace a b + 4 - grayPlace c d) % 4

theorem grayStep_next {a b c d : Bool} (h : (a, b) = grayNext (c, d)) : grayStep a b c d = 1 := by
  revert a b c d
  decide

theorem grayStep_prev {a b c d : Bool} (h : (c, d) = grayNext (a, b)) : grayStep a b c d = 3 := by
  revert a b c d
  decide

theorem grayStep_both {a b c d : Bool} (ha : a ≠ c) (hb : b ≠ d) : grayStep a b c d = 2 := by
  revert a b c d
  decide

theorem State.encoder_eq (a b : Bool) (s : State) : s.encoder a b =
    let d := grayStep a b s.pos.pairA s.pos.pairB
    let s1 := s.encoderMoved a b
    if !s.ready || d = 0 then s1
    else if d = 2 then s1.modPos (fun p => { p with encErr := inc16 p.encErr })
    else if (d = 1) != s.pos.bLeads then s1.forwardCount
    else s1.backwardCount := rfl

section
variable {a b : Bool} {s : State}

theorem State.ready_iff : s.ready = true ↔ s.cp.binding = .ready := by simp [State.ready]

theorem State.encoder_forward (hReady : s.cp.binding = .ready)
    (h : if s.pos.bLeads then (s.pos.pairA, s.pos.pairB) = grayNext (a, b) else (a, b) = grayNext (s.pos.pairA, s.pos.pairB)) :
    s.encoder a b = (s.encoderMoved a b).forwardCount := by
  rw [State.encoder_eq]
  dsimp only
  rw [State.ready_iff.2 hReady]
  split at h
  next hLeads => simp [grayStep_prev h, hLeads]
  next hLeads => simp [grayStep_next h, hLeads]

theorem State.encoder_backward (hReady : s.cp.binding = .ready)
    (h : if s.pos.bLeads then (a, b) = grayNext (s.pos.pairA, s.pos.pairB) else (s.pos.pairA, s.pos.pairB) = grayNext (a, b)) :
    s.encoder a b = (s.encoderMoved a b).backwardCount := by
  rw [State.encoder_eq]
  dsimp only
  rw [State.ready_iff.2 hReady]
  split at h
  next hLeads => simp [grayStep_next h, hLeads]
  next hLeads => simp [grayStep_prev h, hLeads]

theorem State.encoder_invalid (hReady : s.cp.binding = .ready) (ha : a ≠ s.pos.pairA) (hb : b ≠ s.pos.pairB) :
    s.encoder a b = (s.encoderMoved a b).modPos (fun p => { p with encErr := inc16 p.encErr }) := by
  rw [State.encoder_eq]
  simp [State.ready_iff.2 hReady, grayStep_both ha hb]

theorem State.encoder_notReady (hReady : s.cp.binding ≠ .ready) : s.encoder a b = s.encoderMoved a b := by
  rw [State.encoder_eq]
  simp [State.ready, hReady]

end

theorem exec_encoder (a b : Bool) (s : State) : exec (.encoderTransition a b) s = .next (s.encoder a b) := rfl

section
variable {s : State}

theorem State.forwardCount_deficit (h : 0 < s.pos.deficit) :
    s.forwardCount = s.modPos (fun p => { p with deficit := p.deficit - 1 }) := by
  rw [State.forwardCount, if_pos h]

theorem State.forwardCount_phase (h : s.pos.deficit = 0) (hPhase : s.pos.phase + 1 < s.pos.dv) :
    s.forwardCount = s.modPos (fun p => { p with phase := p.phase + 1 }) := by
  rw [State.forwardCount, if_neg (by omega), if_pos hPhase]

theorem State.forwardCount_end (h : s.pos.deficit = 0) (hPhase : s.pos.phase + 1 = s.pos.dv)
    (hLine : s.pos.line = 1099511627775) : s.forwardCount = s := by
  rw [State.forwardCount, if_neg (by omega), if_neg (by omega), if_pos (show Config.lineMax ≤ s.pos.line from hLine.ge)]

theorem State.forwardCount_line_trigger (h : s.pos.deficit = 0) (hPhase : s.pos.phase + 1 = s.pos.dv)
    (hLine : s.pos.line < 1099511627775) : s.forwardCount = (s.modPos (fun p => { p with phase := 0 })).lineTrigger := by
  rw [State.forwardCount, if_neg (by omega), if_neg (by omega), if_neg (show ¬ Config.lineMax ≤ s.pos.line from not_le.2 hLine)]

theorem State.backwardCount_full (h : s.pos.deficit = 65535) :
    s.backwardCount = s.modPos (fun p => { p with lostBack := inc16 p.lostBack }) := by
  rw [State.backwardCount, if_pos (show Config.max16 ≤ s.pos.deficit from h.ge)]

theorem State.backwardCount_owes (h : 0 < s.pos.deficit) (hMax : s.pos.deficit < 65535) :
    s.backwardCount = s.modPos (fun p => { p with deficit := p.deficit + 1 }) := by
  rw [State.backwardCount, if_neg (show ¬ Config.max16 ≤ s.pos.deficit from not_le.2 hMax)]
  simp [State.raiseIf, h.ne']

theorem State.backwardCount_first (h : s.pos.deficit = 0) :
    s.backwardCount = (s.modPos (fun p => { p with deficit := p.deficit + 1 })).raise .encoderReverse s.pos.line s.pos.phase := by
  rw [State.backwardCount, if_neg (by rw [h]; decide)]
  simp [State.raiseIf, h]

end

/-- Settles O14: the forward count repays, advances, or stands at the highest line. -/
theorem forwardCountRepaysOrAdvances : Obligations.ForwardCountRepaysOrAdvances := by
  intro a b s hReady hForward
  rw [exec_encoder, State.encoder_forward hReady hForward]
  refine ⟨fun hDeficit => ?_, fun hZero hPhase => ?_, fun hZero hPhase hLine => ?_⟩
  · rw [State.forwardCount_deficit (s := s.encoderMoved a b) hDeficit]
    rfl
  · rw [State.forwardCount_phase (s := s.encoderMoved a b) hZero hPhase]
    rfl
  · rw [State.forwardCount_end (s := s.encoderMoved a b) hZero hPhase hLine]
    rfl

/-- Settles O15. -/
theorem otherEncoderChanges : Obligations.OtherEncoderChanges := by
  intro a b s moved
  refine ⟨fun hReady _ hBackward => ?_, fun hReady ha hb => ?_, fun hReady => ?_⟩
  · rw [exec_encoder, State.encoder_backward hReady hBackward]
    refine ⟨fun hFull => ?_, fun hOwes hMax => ?_, fun hZero => ?_⟩
    · rw [State.backwardCount_full (s := s.encoderMoved a b) hFull]
      rfl
    · rw [State.backwardCount_owes (s := s.encoderMoved a b) hOwes hMax]
      rfl
    · rw [State.backwardCount_first (s := s.encoderMoved a b) hZero]
      simp only [State.encoderMoved, State.modPos, hZero, moved]
  · rw [exec_encoder, State.encoder_invalid hReady ha hb]
    rfl
  · rw [exec_encoder, State.encoder_notReady hReady]
    rfl

/-! ## Timers -/

theorem Position.ltrigHigh_iff (p : Position) : p.ltrigHigh = true ↔ ∃ us, p.ltrig = some us ∧ us < 2 := by
  unfold Position.ltrigHigh
  split
  next us h => simp [h, Config.pulseHighUs]
  next h => simp [h]

section
variable {s : State}

theorem State.stallTimeoutTaken_due (hReady : s.cp.binding = .ready) (hRunning : s.pos.stallRunning = true)
    (hTimer : s.pos.stallTimeout ≤ s.pos.stallTimer) : s.stallTimeoutTaken =
      match s.pos.run with
      | .stalled => s.modPos (fun p => { p with stallRunning := false })
      | .running =>
        (s.modPos (fun p => { p with stallRunning := false, run := .stalled, timeStalled := 0 })).raise .ribbonStall
          s.pos.line s.pos.stallTimeout := by
  unfold State.stallTimeoutTaken
  exact if_pos (by simp [State.ready_iff.2 hReady, hRunning, hTimer])

end

/-- Settles O17. -/
theorem timersEnd : Obligations.TimersEnd := by
  refine ⟨Position.ltrigHigh_iff, fun s => ⟨rfl, fun i => rfl, fun hReady hRunning hTimer => ⟨fun hRun => ?_, fun hRun => ?_⟩⟩⟩
  all_goals
    change Host.Outcome.next s.stallTimeoutTaken = _
    rw [State.stallTimeoutTaken_due hReady hRunning hTimer, hRun]
    rfl

/-! ## Gaps -/

theorem Events.change_gaps (f : Events → Events) (e : Events) (i : Fin 4) :
    (e.change f).gaps[i] = (f e).gapAfter (e.activeSet i) i := by simp [Events.change]

theorem Events.change_activeSet (f : Events → Events) (e : Events) (i : Fin 4) :
    (e.change f).activeSet i = (f e).activeSet i := rfl

theorem Events.level_iff (e : Events) (i : Fin 4) : e.level i = true ↔ e.activeSet i ≠ [] ∧ e.gaps[i] = none := by
  simp [Events.level]

/-- Settles O20: the cases of the gap of a line (R191). -/
theorem pulsedLineMakesGap : Obligations.PulsedLineMakesGap := by
  intro f e i old new
  refine ⟨rfl, fun hLevel => ?_, fun hEmpty => ?_, fun hPulsed hOld hNew hMoved => ?_, fun hPulsed hNew hSame => ?_,
    Events.level_iff (e.change f) i⟩
  all_goals rw [Events.change_gaps, Events.gapAfter]
  · rw [if_pos (by rw [hLevel]; rfl)]
  · rw [if_pos (by simp [show (f e).activeSet i = [] from hEmpty])]
  · have hStands : ¬ (!(f e).pulsed[i] || ((f e).activeSet i).isEmpty) = true := by simpa [hPulsed] using hNew
    have hChanged : (!(e.activeSet i).isEmpty && e.activeSet i != (f e).activeSet i) = true := by
      simpa using ⟨hOld, hMoved⟩
    rw [if_neg hStands, if_pos hChanged]
  · have hStands : ¬ (!(f e).pulsed[i] || ((f e).activeSet i).isEmpty) = true := by simpa [hPulsed] using hNew
    have hKept : ¬ (!(e.activeSet i).isEmpty && e.activeSet i != (f e).activeSet i) = true := by
      simp only [Bool.and_eq_true, not_and]
      rcases hSame with hOld | hSame
      · intro hx
        simp [show e.activeSet i = [] from hOld] at hx
      · intro _
        simpa using hSame
    rw [if_neg hStands, if_neg hKept]

end Sys2Proof.Machine
end
section
/-! PROOFS. Answering commands (R176, R177, R179): what a result, a write-back and a chain fault leave, and the refusals by the
binding state (R183). -/

set_option Elab.async false

namespace Sys2Proof.Machine

/-! ## Results -/

/-- The write of one result into the slot that `x` names. -/
def resultAccess (control : Addr) (first x : Idx) (code : ResultCode) (detail seq serial : Nat) : InFlight :=
  { serial := serial, what := .result first, addr := control + BitVec.ofNat 40 (0x2000 + x.toNat % 128 * 64) + 4,
    bytes := (resultArea code detail seq).map some, len := 0 }

/-- The writes of one result into a list of slots, in its order. -/
def resultAccesses (control : Addr) (slots : List Idx) (first : Idx) (code : ResultCode) (detail seq serial : Nat) :
    List InFlight :=
  slots.zipIdx.map (fun x => resultAccess control first x.1 code detail seq (serial + x.2))

theorem resultBytes_eq (code : ResultCode) (detail seq : Nat) : resultBytes code detail seq = resultArea code detail seq := by
  simp [resultBytes, resultArea, layoutFrom, layoutByte, List.range_succ, toBytes, Nat.div_div_eq_div_mul]

theorem resultAccesses_cons (control : Addr) (x : Idx) (xs : List Idx) (first : Idx) (code : ResultCode)
    (detail seq serial : Nat) : resultAccesses control (x :: xs) first code detail seq serial =
      resultAccess control first x code detail seq serial
        :: resultAccesses control xs first code detail seq (serial + 1) := by
  simp [resultAccesses, List.zipIdx_cons, List.zipIdx_succ, Nat.add_assoc, Nat.add_comm 1]

theorem length_resultAccesses (control : Addr) (slots : List Idx) (first : Idx) (code : ResultCode)
    (detail seq serial : Nat) : (resultAccesses control slots first code detail seq serial).length = slots.length := by
  simp [resultAccesses]

theorem isResult_of_mem_resultAccesses {control : Addr} {slots : List Idx} {first : Idx} {code : ResultCode}
    {detail seq serial : Nat} {a : InFlight} (h : a ∈ resultAccesses control slots first code detail seq serial) :
    a.what = .result first := by
  obtain ⟨x, -, rfl⟩ := List.mem_map.1 h
  rfl

/-- The Path Unit with further accesses in flight. -/
def Path.issued (new : List InFlight) (p : Path) : Path :=
  { p with down := p.down ++ new, nextAccess := p.nextAccess + new.length }

theorem Path.issued_issued (xs ys : List InFlight) (p : Path) : (p.issued xs).issued ys = p.issued (xs ++ ys) := by
  simp [Path.issued, Nat.add_assoc]

theorem State.issueWrites_eq (slots : List Idx) (first : Idx) (code : ResultCode) (detail seq : Nat) (s : State) :
    slots.foldl (fun s i => s.issueWrite (.result first) (s.slotAddr i + 4) (resultBytes code detail seq)) s =
      s.modPath (Path.issued (resultAccesses s.controlBase slots first code detail seq s.path.nextAccess)) := by
  induction slots generalizing s with
  | nil => simp [resultAccesses, Path.issued, State.modPath]
  | cons x xs ih =>
    have hIssue : s.issueWrite (.result first) (s.slotAddr x + 4) (resultBytes code detail seq) =
        s.modPath (Path.issued [resultAccess s.controlBase first x code detail seq s.path.nextAccess]) := by
      rw [resultBytes_eq]
      rfl
    rw [List.foldl_cons, hIssue, ih, resultAccesses_cons]
    exact congrArg (fun p => { s with path := p }) (Path.issued_issued ..)

/-- The Command Processor after a result (R176). -/
def CmdProc.resulted (code : ResultCode) (c : CmdProc) : CmdProc :=
  { c with sequence := (c.sequence + 1) % 2 ^ 32, lastResult := code }

theorem State.writeResult_eq (slots : List Idx) (first : Idx) (code : ResultCode) (detail : Nat) (s : State) :
    s.writeResult slots first code detail =
      { s with
        cp := s.cp.resulted code,
        path := s.path.issued
          (resultAccesses s.controlBase slots first code detail ((s.cp.sequence + 1) % 2 ^ 32) s.path.nextAccess) } := by
  unfold State.writeResult
  dsimp only
  rw [State.issueWrites_eq]
  rfl

/-- The results of a command that occupied `left` slots from its `i`-th on. -/
theorem resultWrites_eq (control : Addr) (first : Idx) (code : ResultCode) (n seq left i serial : Nat) :
    resultWrites control first code n seq left i serial =
      resultAccesses control ((List.range' i left).map (fun j => first + BitVec.ofNat 16 j)) first code n seq serial := by
  induction left generalizing i serial with
  | zero => rfl
  | succ left ih =>
    rw [List.range'_succ, List.map_cons, resultAccesses_cons, ← ih]
    rfl

theorem resultWrites_slotsFrom (control : Addr) (first : Idx) (code : ResultCode) (n detail seq serial : Nat) :
    resultWrites control first code detail seq n 0 serial =
      resultAccesses control (slotsFrom first n) first code detail seq serial := by
  rw [resultWrites_eq, slotsFrom, List.range_eq_range']

theorem slotWrites_eq (control : Addr) (slots : List Idx) (code : ResultCode) (detail seq serial : Nat) :
    slotWrites control slots code detail seq serial =
      resultAccesses control slots (slots.headD 0) code detail seq serial := rfl

@[simp] theorem length_slotsFrom (first : Idx) (n : Nat) : (slotsFrom first n).length = n := by simp [slotsFrom]

/-! ## Write-backs -/

theorem State.issueHeader_eq (hold : Option Nat) (s : State) :
    s.issueHeader hold = { s with path := s.path.issued [headerWrite s s.cp.reported hold] } := by
  simp only [State.issueHeader, State.issue, State.modPath, headerWrite, CmdProc.stateWord, Path.issued, List.map_cons,
    List.map_nil, List.length_singleton]

/-- A result write is in flight. -/
def Path.resultPending (p : Path) : Prop := ∃ a ∈ p.down, a.what.isResult = true

theorem State.writeBack_waits {s : State} (h : s.path.resultPending) :
    s.writeBack = s.modCp (fun c => { c with backDue := some s.path.heldProducer }) :=
  State.writeBackIfDue_waits (s := s.modCp _) h

theorem State.writeBack_goes {s : State} (h : ¬ s.path.resultPending) :
    s.writeBack = (s.modCp (fun c => { c with backDue := none })).issueHeader s.path.heldProducer := by
  unfold State.writeBack
  rw [State.writeBackIfDue_goes rfl (fun a ha => by
    by_contra hResult
    exact h ⟨a, ha, by simpa using hResult⟩)]
  rfl

/-! ## Finished commands -/

/-- The Command Processor once a command is answered, before a write-back. -/
def CmdProc.answered (c : Command) (code : ResultCode) (p : CmdProc) : CmdProc :=
  { p with
    sequence := (p.sequence + 1) % 2 ^ 32, lastResult := code, dispatched := none, wait := none,
    notify := if c.notify then p.notify ++ [{ first := c.first, tag := c.tag, code := code }] else p.notify }

/-- The Path Unit once the result of a command is written. -/
def State.resultPath (c : Command) (code : ResultCode) (s : State) : Path :=
  s.path.issued (resultWrites s.controlBase c.first code c.slots ((s.cp.sequence + 1) % 2 ^ 32) c.slots 0 s.path.nextAccess)

/-- A command answered, before a write-back. -/
def State.answeredState (c : Command) (code : ResultCode) (s : State) : State :=
  { s with cp := s.cp.answered c code, path := s.resultPath c code }

theorem State.finish_eq {s : State} {c : Command} (h : s.cp.dispatched = some c) (code : ResultCode) (force : Bool) :
    s.finish code force =
      if force || (s.cp.consumer == s.cp.known) then (s.answeredState c code).writeBack else s.answeredState c code := by
  unfold State.finish State.answerCommand
  rw [h]
  dsimp only
  rw [State.writeResult_eq, ← resultWrites_slotsFrom]
  rfl

theorem State.writeBack_cases (s : State) : s.writeBack = s.modCp (fun c => { c with backDue := some s.path.heldProducer })
    ∨ s.writeBack = (s.modCp (fun c => { c with backDue := none })).issueHeader s.path.heldProducer := by
  by_cases h : s.path.resultPending
  · exact .inl (State.writeBack_waits h)
  · exact .inr (State.writeBack_goes h)

theorem State.writeBack_frame (s : State) : s.writeBack = { s with cp := s.writeBack.cp, path := s.writeBack.path } := by
  rcases s.writeBack_cases with h | h <;> rw [h] <;> rfl

theorem State.writeBack_cp (s : State) : s.writeBack.cp = { s.cp with backDue := s.writeBack.cp.backDue } := by
  rcases s.writeBack_cases with h | h <;> rw [h] <;> rfl

/-- An answer changes the Command Processor and the accesses in flight alone. -/
theorem State.finish_frame (code : ResultCode) (force : Bool) (s : State) :
    s.finish code force = { s with cp := (s.finish code force).cp, path := (s.finish code force).path } := by
  cases h : s.cp.dispatched with
  | none => simp [State.finish, h]
  | some c =>
    rw [State.finish_eq h]
    split
    · rw [State.writeBack_frame]
      rfl
    · rfl

theorem State.finish_cp {s : State} {c : Command} (h : s.cp.dispatched = some c) (code : ResultCode) (force : Bool) :
    (s.finish code force).cp = { s.cp.answered c code with backDue := (s.finish code force).cp.backDue } := by
  rw [State.finish_eq h]
  split
  · exact State.writeBack_cp _
  · rfl

/-- The first part of the answer: one result, and no more where announced slots are left. -/
theorem State.finish_waits {s : State} {c : Command} (h : s.cp.dispatched = some c) (code : ResultCode)
    (hLeft : s.cp.consumer ≠ s.cp.known) : s.finish code false = s.answeredState c code := by
  rw [State.finish_eq h, if_neg (by simpa using hLeft)]

/-- After the last announced slot a write-back is due, which waits for the result. -/
theorem State.finish_last {s : State} {c : Command} (h : s.cp.dispatched = some c) (code : ResultCode)
    (hLast : s.cp.consumer = s.cp.known) (hSlots : 1 ≤ c.slots) :
    s.finish code false = (s.answeredState c code).modCp (fun p => { p with backDue := some s.path.heldProducer }) := by
  rw [State.finish_eq h, if_pos (by simpa using hLast), State.writeBack_waits]
  · rfl
  · have hLength : 0 < (resultAccesses s.controlBase (slotsFrom c.first c.slots) c.first code c.slots
        ((s.cp.sequence + 1) % 2 ^ 32) s.path.nextAccess).length := by
      rwa [length_resultAccesses, length_slotsFrom]
    obtain ⟨a, ha⟩ := List.exists_mem_of_length_pos hLength
    refine ⟨a, List.mem_append_right _ ?_, ?_⟩
    · rwa [resultWrites_slotsFrom]
    · rw [isResult_of_mem_resultAccesses ha]
      rfl

/-- Settles O21. -/
theorem commandAnswerWritesResults : Obligations.CommandAnswerWritesResults := by
  refine ⟨fun c code s h => ?answer, fun hold s h => ?back⟩
  case answer =>
    have hLength : (resultWrites s.controlBase c.first code c.slots ((s.cp.sequence + 1) % 2 ^ 32) c.slots 0
        s.path.nextAccess).length = c.slots := by
      rw [resultWrites_slotsFrom, length_resultAccesses, length_slotsFrom]
    refine ⟨State.finish_frame code false s, State.finish_cp h code false, fun hLeft => ?_, fun hLast hSlots => ?_⟩
    · rw [State.finish_waits h code hLeft]
      refine ⟨?_, rfl⟩
      simp only [State.answeredState, State.resultPath, Path.issued, hLength]
    · rw [State.finish_last h code hLast hSlots]
      refine ⟨?_, rfl⟩
      simp only [State.modCp_path, State.answeredState, State.resultPath, Path.issued, hLength]
  case back =>
    refine ⟨State.writeBackIfDue_waits, fun hNone => ?_⟩
    have hGoes := State.writeBackIfDue_goes h hNone
    rw [State.issueHeader_eq] at hGoes
    refine ⟨fun hIdle => ?_, fun x rest hStage hChain => ?_⟩
    · have hReported : s.cp.reported = s.cp.consumer := by
        unfold CmdProc.reported
        split
        next hStage hChain => rcases hIdle with hIdle | hIdle <;> simp_all
        next => rfl
      exact hGoes.trans (by rw [← hReported]; rfl)
    · have hReported : s.cp.reported = x.index := by rw [CmdProc.reported, hStage, hChain]
      exact hGoes.trans (by rw [← hReported]; rfl)

/-! ## Chain faults -/

/-- An occurrence depends on the flags, the rings and the Position Unit alone. -/
theorem State.raise_congr {s u : State} (hEv : u.ev = s.ev) (hRings : u.rings = s.rings) (hPos : u.pos = s.pos)
    (k : EventKind) (a b : Nat) :
    u.raise k a b = { u with ev := (s.raise k a b).ev, rings := (s.raise k a b).rings } := by
  cases u
  dsimp only at hEv hRings hPos
  subst hEv hRings hPos
  cases hLog : s.ev.log.getLsbD k.num with
  | false =>
    rw [State.raise_of_not_logged (s := s) hLog]
    exact State.raise_of_not_logged hLog
  | true =>
    by_cases hRoom : s.rings[eventRing].state = .unset ∨ 8 ≤ s.rings[eventRing].staging.length
    · rw [State.raise_of_refused (s := s) hLog hRoom]
      exact State.raise_of_refused hLog hRoom
    · obtain ⟨hSet, hLength⟩ := not_or.1 hRoom
      rw [State.raise_of_room (s := s) hLog hSet (not_le.1 hLength)]
      exact State.raise_of_room hLog hSet (not_le.1 hLength)

/-- The Command Processor once a chain fault has written its results, before the write-back. -/
def CmdProc.faulted (slots : List Idx) (c : CmdProc) : CmdProc :=
  { c with stage := .fault, chain := [], lastResult := .sequence,
           sequence := if slots = [] then c.sequence else (c.sequence + 1) % 2 ^ 32 }

/-- The state once a chain fault has written its results and raised CMD_FAULT, before the write-back. -/
def State.faulted (cause : FaultCause) (slots : List Idx) (s : State) : State :=
  { s with
    cp := s.cp.faulted slots,
    path := s.path.issued
      (slotWrites s.controlBase slots .sequence cause.code ((s.cp.sequence + 1) % 2 ^ 32) s.path.nextAccess),
    ev := (s.raise .cmdFault s.cp.consumer.toNat cause.code).ev,
    rings := (s.raise .cmdFault s.cp.consumer.toNat cause.code).rings }

theorem State.chainFault_eq (cause : FaultCause) (offending : List Idx) (s : State) :
    s.chainFault cause offending = (s.faulted cause (s.cp.chain.map (·.index) ++ offending)).writeBack := by
  unfold State.chainFault
  dsimp only
  generalize s.cp.chain.map (·.index) ++ offending = slots
  congr 1
  cases slots with
  | nil =>
    refine (State.raise_congr (s := s) ?_ ?_ ?_ _ _ _).trans ?_
    iterate 3 rfl
    simp [State.modCp, CmdProc.faulted, State.faulted, slotWrites, Path.issued]
  | cons x xs =>
    rw [if_neg (by simp), State.writeResult_eq]
    refine State.raise_congr (s := s) ?_ ?_ ?_ _ _ _ <;> rfl

/-- Settles O45. -/
theorem chainFaultStopsTaking : Obligations.ChainFaultStopsTaking := by
  intro cause offending s
  dsimp only
  rw [State.chainFault_eq]
  generalize hSlots : s.cp.chain.map (·.index) ++ offending = slots
  have hPending : (s.faulted cause slots).path.resultPending ↔
      slots ≠ [] ∨ ∃ a ∈ s.path.down, a.what.isResult = true := by
    constructor
    · rintro ⟨a, ha, hResult⟩
      rcases List.mem_append.1 ha with hOld | hNew
      · exact .inr ⟨a, hOld, hResult⟩
      · refine .inl ?_
        rintro rfl
        simp [slotWrites] at hNew
    · rintro (hSlots | ⟨a, ha, hResult⟩)
      · obtain ⟨x, xs, rfl⟩ := List.exists_cons_of_ne_nil hSlots
        refine ⟨_, List.mem_append_right _ (List.mem_cons_self ..), rfl⟩
      · exact ⟨a, List.mem_append_left _ ha, hResult⟩
  have hPath : slots = [] → (s.faulted cause slots).path = s.path := by
    rintro rfl
    simp [State.faulted, slotWrites, Path.issued]
  have hFrame := (s.faulted cause slots).writeBack_frame
  have hEv : (s.faulted cause slots).writeBack.ev = (s.faulted cause slots).ev := by rw [hFrame]
  have hRings : (s.faulted cause slots).writeBack.rings = (s.faulted cause slots).rings := by rw [hFrame]
  refine ⟨?_, fun hWaits => ?_, fun hGoes => ?_, hEv, ?_, hRings⟩
  · rw [hEv, hRings]
    exact hFrame
  · rw [State.writeBack_waits (hPending.2 hWaits)]
    refine ⟨rfl, ?_⟩
    simp only [State.modCp_path, State.faulted, Path.issued, slotWrites_eq, length_resultAccesses]
  · rw [State.writeBack_goes (mt hPending.1 hGoes), State.issueHeader_eq]
    have hEmpty : slots = [] := by
      by_contra hSlots
      exact hGoes (.inl hSlots)
    have hPath := hPath hEmpty
    refine ⟨rfl, ?_⟩
    simp only [State.modCp_path, hPath, Path.issued, List.length_singleton, headerWrite]
    rfl
  · rw [hEv]
    exact congrArg Events.pending State.raise_ev

end Sys2Proof.Machine
end
section
/-! PROOFS. The head of the write queue (R26 to R31), the reads (R29, R32), and the answers of memory to write-backs and
results (R176, R177). -/

set_option Elab.async false

namespace Sys2Proof.Machine

/-! ## Refusals by the binding state (R183) -/

section
variable {s : State} {p : List Byte}

theorem State.readyOnly_refuses (h : s.cp.binding ≠ .ready) (k : State → State) : s.readyOnly k = s.finish .state false :=
  if_neg (by simpa [State.ready] using h)

theorem State.readyOnly_takes (h : s.cp.binding = .ready) (k : State → State) : s.readyOnly k = k s :=
  if_pos (State.ready_iff.2 h)

theorem State.boundOrReady_refuses (h : s.cp.binding = .unbound) (k : State → State) :
    s.boundOrReady k = s.finish .state false := if_pos h

theorem State.boundOrReady_takes (h : s.cp.binding ≠ .unbound) (k : State → State) : s.boundOrReady k = k s := if_neg h

/-- A command that is given acts on its payload. -/
theorem State.command_acts {k : CmdKind} (h : s.given k p) {act : List Byte → State → State} {t : State}
    (ht : act p s = t) :
    (Host.Outcome.next (s.onCommand k act) : Host.Outcome State Fault Refusal) = .next t := by
  rw [State.onCommand_given h, ht]

end

/-- Settles O22. -/
theorem commandsRefusedByBindingState : Obligations.CommandsRefusedByBindingState := by
  intro p s
  refine ⟨fun hNot => ?ready, fun hUnbound => ?bound, fun hBound hGiven => ?bind⟩
  case ready =>
    have hRefused := State.readyOnly_refuses hNot
    exact ⟨fun h => State.command_acts h (hRefused _), fun h => State.command_acts h (hRefused _),
      fun h => State.command_acts h (hRefused _), fun h => State.command_acts h (hRefused _),
      fun h => State.command_acts h (hRefused _), fun h => State.command_acts h (hRefused _),
      fun h => State.command_acts h (hRefused _), fun h => State.command_acts h (hRefused _),
      fun h => State.command_acts h (hRefused _), fun h => State.command_acts h (hRefused _),
      fun h => State.command_acts h (hRefused _)⟩
  case bound =>
    have hRefused := State.boundOrReady_refuses hUnbound
    refine ⟨fun h => State.command_acts h (hRefused _), fun h => State.command_acts h (hRefused _),
      fun h => State.command_acts h (hRefused _), fun h => State.command_acts h (hRefused _),
      fun h => State.command_acts h (hRefused _), fun h => State.command_acts h (hRefused _),
      fun h => State.command_acts h (hRefused _), fun h => State.command_acts h (hRefused _),
      fun h => State.command_acts h (hRefused _), fun h => State.command_acts h ?_⟩
    rw [State.geometry, State.geometryAccepted, hUnbound]
    rfl
  case bind => exact State.command_acts hGiven (if_neg hBound)

/-! ## The guard test at the head -/

theorem State.refuseGuarded_eq (w : QueuedWrite) (r : Fin 4) (s : State) : s.refuseGuarded w r =
    ({ s with path := { s.path.refused w with
      counters := { s.path.counters with guarded := inc32 s.path.counters.guarded } } } : State).raise .guardViolation
      w.burst.addr.toNat r.val := by
  rw [State.refuseGuarded, State.count_refuseHead]

theorem State.refuseCrossing_eq (w : QueuedWrite) (s : State) : s.refuseCrossing w =
    { s with path := { s.path.refused w with
      counters := { s.path.counters with crossing := inc32 s.path.counters.crossing } } } := by
  rw [State.refuseCrossing, State.count_refuseHead]

theorem State.forwardPlain_eq (w : QueuedWrite) (s : State) :
    s.forwardPlain w =
      let f := s.forwardHead w (.fwdWrite w.burst.id)
      { f with path := { f.path with counters := { f.path.counters with
        writesForwarded := inc32 f.path.counters.writesForwarded } } } := rfl

theorem HeadKind.exec_row (k : HeadKind) (s : State) : exec k.row s =
    .next (match k with
      | .plain => s.onHead .plain State.plainHead
      | .capture => s.onHead .capture State.captureHead
      | .producer => s.onHead .producer State.producerHead
      | .faultAck => s.onHead .faultAck State.faultAckHead
      | .consumer => s.onHead .consumer State.plainHead
      | .live => s.onHead .live State.liveHead) := by
  cases k <;> rfl

theorem State.plainHead_crossing {w : QueuedWrite} {s : State} (h : w.cls.crossing = true) :
    s.plainHead w = s.refuseCrossing w := if_pos h

theorem State.plainHead_guarded {w : QueuedWrite} {s : State} (h : w.cls.crossing = false) :
    s.plainHead w = s.guarded w (State.forwardPlain w) := if_neg (by simp [h])

/-- Settles O31. -/
theorem plainWriteForwardedOrRefused : Obligations.PlainWriteForwardedOrRefused := by
  intro w s
  refine ⟨fun hHead hCross => ?_, ?_⟩
  · change Host.Outcome.next (s.onHead .plain State.plainHead) = _
    rw [State.onHead_heads hHead, State.plainHead_crossing hCross, State.refuseCrossing_eq]
  · rintro k (rfl | rfl) hHead hCross hGuard
    all_goals
      rw [HeadKind.exec_row]
      dsimp only
      rw [State.onHead_heads hHead, State.plainHead_guarded hCross, State.guarded_none hGuard, State.forwardPlain_eq]

section
variable {w : QueuedWrite} {ws : List QueuedWrite} {h : Hold} {s : State}

theorem State.heldCapture_eq (hHold : s.path.hold = some h) (hWrites : s.path.writes = w :: ws) (hCapture : h.producer = false) :
    s.heldCapture = some w := by
  unfold State.heldCapture
  rw [hHold, hWrites]
  simp [hCapture]

theorem State.forwardHeldProducer_eq (hWrites : s.path.writes = w :: ws) :
    s.forwardHeldProducer = s.guarded w (State.forwardPlain w) := by
  rw [State.forwardHeldProducer, hWrites]

theorem exec_producerHoldExpiry (hHold : s.path.hold = some h) (hProducer : h.producer = true) :
    exec .producerHoldExpiry s = .next (State.forwardHeldProducer (s.count (fun c =>
      { c with producerExpiries := inc32 c.producerExpiries }))) := by
  change execProducerHoldExpiry s = _
  unfold execProducerHoldExpiry
  rw [hHold]
  exact if_pos hProducer

theorem exec_captureHoldExpiry (hHeld : s.heldCapture = some w) :
    exec .captureHoldExpiry s = .next (s.captureExpiry w) := by
  change execCaptureHoldExpiry s = _
  unfold execCaptureHoldExpiry
  rw [hHeld]

theorem exec_writeBackDone {n : Nat} {why : HeaderFor} (hHeader : s.headerInFlight = some (n, why)) :
    exec .writeBackDone s = .next (s.headerDone n why) := by
  change execWriteBackDone s = _
  unfold execWriteBackDone
  rw [hHeader]

theorem State.releaseHeld_eq (hHold : s.path.hold = some h) (hProducer : h.producer = true) :
    s.releaseHeld (some h.serial) = s.forwardHeldProducer := by
  unfold State.releaseHeld
  rw [hHold]
  exact if_pos (by simp [hProducer])

theorem State.releaseHeld_none {n : Option Nat}
    (hNone : ∀ k, s.path.hold = some k → k.producer = true → n ≠ some k.serial) : s.releaseHeld n = s := by
  unfold State.releaseHeld
  split
  next _ _ k m hHold =>
    refine if_neg fun hc => ?_
    simp only [Bool.and_eq_true, beq_iff_eq] at hc
    exact hNone k hHold hc.1 (by rw [hc.2])
  next => rfl

end

/-- A head that hits a guard is refused by every row that deals with a head of its kind. -/
theorem State.head_refused {k : HeadKind} {w : QueuedWrite} {r : Fin 4} {s : State} (hHead : s.heads k w)
    (hCross : w.cls.crossing = false) (hHit : s.hitsGuard w r) (hLowest : ∀ q, q < r → ¬ s.hitsGuard w q) :
    exec k.row s = .next (s.refuseGuarded w r) := by
  have hGuarded := State.guarded_some hCross hHit hLowest
  rw [HeadKind.exec_row]
  cases k <;> dsimp only <;> rw [State.onHead_heads hHead]
  case plain => rw [State.plainHead_guarded hCross, hGuarded]
  case consumer => rw [State.plainHead_guarded hCross, hGuarded]
  all_goals exact congrArg _ (hGuarded _)

/-- Settles O32: the guard test comes first in every row and at every end of a hold. -/
theorem guardHitIsRefused : Obligations.GuardHitIsRefused := by
  intro w r s hCross hHit hLowest refused counted
  have hRefused (p : Path) (k : State → State) : State.guarded w k { s with path := p } = refused p := by
    rw [State.guarded_some (s := { s with path := p }) hCross hHit hLowest, State.refuseGuarded_eq]
  refine ⟨fun k hHead => ?_, fun h ws hHold hWrites => ⟨fun hProducer => ?_, fun hCapture => ?_, fun n hProducer hHeader => ?_⟩⟩
  · rw [State.head_refused hHead hCross hHit hLowest, State.refuseGuarded_eq]
  · rw [exec_producerHoldExpiry hHold hProducer, State.forwardHeldProducer_eq (s := s.count _) hWrites]
    exact congrArg _ (hRefused _ _)
  · have hHeld := State.heldCapture_eq hHold hWrites hCapture
    constructor
    · rw [exec_captureHoldExpiry hHeld]
      exact congrArg (fun u => Host.Outcome.next (State.captureExpired w.cls.cam (s.slotOf w) u)) (hRefused _ _)
    · rw [State.reoffer, hHeld]
      exact hRefused _ _
  · rw [exec_writeBackDone hHeader]
    change Host.Outcome.next ((s.landed n).releaseHeld (some h.serial)) = _
    rw [State.releaseHeld_eq (s := s.landed n) hHold hProducer, State.forwardHeldProducer_eq (s := s.landed n) hWrites]
    exact congrArg _ (hRefused _ _)

/-! ## Producer writes and fault-acks (R31, R180) -/

theorem State.touchesConsumer_iff (s : State) (w : QueuedWrite) (r : Fin 4) :
    s.touchesConsumer w r = true ↔ s.writesConsumer w r := by
  simp only [State.touchesConsumer, State.writesConsumer, Bool.and_eq_true, decide_eq_true_eq, touches_iff, enables]
  constructor
  · rintro ⟨hRunning, x, y, hxy, hLow, hHigh⟩
    exact ⟨hRunning, x, hLow, hHigh, y, hxy⟩
  · rintro ⟨hRunning, x, hLow, hHigh, y, hxy⟩
    exact ⟨hRunning, x, y, hxy, hLow, hHigh⟩

theorem State.mem_consumersTouched (s : State) (w : QueuedWrite) (r : Fin 4) (a : Nat) :
    (r, a) ∈ s.consumersTouched w ↔ s.writesConsumer w r ∧ a = s.rings[r].base + 4 := by
  simp only [State.consumersTouched, List.mem_filterMap, List.mem_finRange, true_and, ← State.touchesConsumer_iff]
  constructor
  · rintro ⟨q, hq⟩
    split at hq
    next hTouches =>
      cases hq
      exact ⟨hTouches, rfl⟩
    next => cases hq
  · rintro ⟨hTouches, rfl⟩
    exact ⟨r, by rw [if_pos hTouches]⟩

theorem State.mem_consumersOf (s : State) (w : QueuedWrite) (r : Fin 4) (a : Nat) :
    (r, a) ∈ s.consumersOf w ↔ s.takesConsumer w r a := by
  unfold State.consumersOf State.takesConsumer
  split
  next h hHold => simp [hHold]
  next hHold => simp [hHold, State.mem_consumersTouched]

section
variable {w : QueuedWrite} {s : State}

/-- The producer write held, the known producer taken. -/
def State.producerHeld (w : QueuedWrite) (s : State) : State := (s.learnProducer w).holdProducer w

theorem State.producerTaken_fault (h : s.cp.stage = .fault) : s.producerTaken w = (s.learnProducer w).forwardPlain w := by
  unfold State.producerTaken
  dsimp only
  rw [h]

theorem State.producerTaken_held (h : s.cp.stage ≠ .fault) : s.producerTaken w =
    if (s.producerHeld w).cp.announced = 0 then (s.producerHeld w).forwardHeldProducer
    else if 128 < (s.producerHeld w).cp.announced then (s.producerHeld w).chainFault .producer []
    else s.producerHeld w := by
  unfold State.producerTaken
  dsimp only
  cases hCase : s.cp.stage with
  | fault => exact absurd hCase h
  | idle => rfl
  | gather => rfl

end

/-- Settles O34. -/
theorem producerWriteAnnouncesSlots : Obligations.ProducerWriteAnnouncesSlots := by
  intro w ws s hWrites hGuard known announced held
  have hAnnounced : (s.producerHeld w).cp.announced = announced := rfl
  refine ⟨fun hHead hNoAck => ?_, State.producerTaken_fault, fun hStage hZero => ?_, fun hStage hOne hMax => ?_,
    fun hStage hMany => ?_, fun hHold r a => ?_⟩
  · change Host.Outcome.next (s.onHead .producer State.producerHead) = _
    rw [State.onHead_heads hHead, State.producerHead, State.guarded_none hGuard, hNoAck]
    rfl
  · rw [State.producerTaken_held hStage, if_pos (hAnnounced.trans hZero),
      State.forwardHeldProducer_eq (s := s.producerHeld w) hWrites]
    exact State.guarded_none (s := s.producerHeld w) hGuard _
  · rw [State.producerTaken_held hStage, if_neg (by omega), if_neg (by omega)]
    rfl
  · rw [State.producerTaken_held hStage, if_neg (by omega), if_pos (by omega)]
    rfl
  · rw [State.mem_consumersOf, State.takesConsumer, hHold]
    simp

theorem State.faultAckNotice_quiet {s : State} (h : s.cp.stage ≠ .fault) (n : Nat) : s.faultAckNotice n = s := if_neg h

/-- The chain stage idle again, the state word under way (R180). -/
def State.faultCleared (n : Nat) (s : State) : State :=
  (s.modCp (fun c => { c with stage := .idle, lastResult := .ok, barrier := n })).writeStateWord

theorem State.faultAckNotice_fault {s : State} (h : s.cp.stage = .fault) (n : Nat) : s.faultAckNotice n =
    if 128 < s.cp.announced then (s.faultCleared n).chainFault .producer [] else s.faultCleared n := if_pos h

/-- Settles O35. -/
theorem faultAckLeavesFault : Obligations.FaultAckLeavesFault := by
  intro w s hGuard idle
  have hForward : (s.forwardPlain w).cp = s.cp := by
    have hObserve : ∀ (u : State) x, (u.observe w x).cp = u.cp := fun u x => by
      unfold State.observe
      dsimp only
      split <;> rfl
    change ((s.consumersOf w).foldl (State.observe w) _).cp = _
    rw [foldl_of State.cp _ hObserve]
    rfl
  have hStraps : (s.forwardPlain w).controlBase = s.controlBase := by
    have hPath := congrArg (fun o => o.path.straps) (State.forwardPlain_outer s.path s.ing.cols w s)
    exact congrArg (fun k => (WinEntry.control k).base) hPath
  have hIdle (u : State) (hCp : u.cp = s.cp) (hBase : u.controlBase = s.controlBase) :
      u.faultCleared s.path.nextAccess = idle u := by
    simp only [State.faultCleared, State.writeStateWord, State.issueWrite, State.issue, State.modPath, State.modCp, idle,
      State.controlBase, CmdProc.stateWord, List.map_cons, List.map_nil, hCp] at hBase ⊢
    rw [hBase]
    rfl
  have hFaultAck : s.heads .faultAck w →
      exec .faultAck s = .next ((s.forwardPlain w).faultAckNotice s.path.nextAccess) := fun hHead => by
    change Host.Outcome.next (s.onHead .faultAck State.faultAckHead) = _
    rw [State.onHead_heads hHead, State.faultAckHead, State.guarded_none hGuard]
  have hProducer : s.heads .producer w → s.isFaultAck w = true →
      exec .producerWrite s = .next ((s.faultAckNotice s.path.nextAccess).producerTaken w) := fun hHead hAck => by
    change Host.Outcome.next (s.onHead .producer State.producerHead) = _
    rw [State.onHead_heads hHead, State.producerHead, State.guarded_none hGuard, if_pos hAck]
  refine ⟨fun hHead => ?_, fun hHead hAck => ?_⟩
  · rw [hFaultAck hHead]
    refine ⟨fun hStage => ?_, fun hStage hFew => ?_, fun hStage hMany => ?_⟩
    · rw [State.faultAckNotice_quiet (by rwa [hForward])]
    · rw [State.faultAckNotice_fault (by rwa [hForward]), hForward, if_neg (show ¬ 128 < s.cp.announced from not_lt.2 hFew), hIdle _ hForward hStraps]
    · rw [State.faultAckNotice_fault (by rwa [hForward]), hForward, if_pos (show 128 < s.cp.announced from hMany), hIdle _ hForward hStraps]
  · rw [hProducer hHead hAck]
    refine ⟨fun hStage => ?_, fun hStage hFew => ?_, fun hStage hMany => ?_⟩
    · rw [State.faultAckNotice_quiet hStage]
    · rw [State.faultAckNotice_fault hStage, if_neg (show ¬ 128 < s.cp.announced from not_lt.2 hFew), hIdle s rfl rfl]
    · rw [State.faultAckNotice_fault hStage, if_pos (show 128 < s.cp.announced from hMany), hIdle s rfl rfl]

/-! ## Consumer words (R27) -/

section Observe

variable {w : QueuedWrite} {s : State}

/-- The consumer value that a ring takes from a write, its consumer word lying at `a`. -/
@[irreducible] def Ring.consumerAfter (w : QueuedWrite) (a : Nat) (g : Ring) : Idx :=
  BitVec.ofNat 16 (wordAfter g.consumer.toNat w.cls.down.toNat w.burst.bytes a)

/-- A ring after a forwarded write that covers its consumer word at `a`. -/
def Ring.observed (w : QueuedWrite) (a : Nat) (g : Ring) : Ring :=
  if g.adopts (g.consumerAfter w a) then { g with consumer := g.consumerAfter w a } else g

theorem State.observe_eq (x : Fin 4 × Nat) (s : State) : s.observe w x =
    if s.rings[x.1].adopts (s.rings[x.1].consumerAfter w x.2) then
      s.modRing x.1 (fun g => { g with consumer := s.rings[x.1].consumerAfter w x.2 })
    else s.count (fun c => { c with consumerRejects := inc32 c.consumerRejects }) := by
  rw [Ring.consumerAfter]
  rfl

theorem State.observe_adopts {x : Fin 4 × Nat} (h : s.rings[x.1].adopts (s.rings[x.1].consumerAfter w x.2) = true) :
    s.observe w x = s.modRing x.1 (fun g => { g with consumer := s.rings[x.1].consumerAfter w x.2 }) := by
  rw [State.observe_eq, if_pos h]

theorem State.observe_rejects {x : Fin 4 × Nat}
    (h : ¬ s.rings[x.1].adopts (s.rings[x.1].consumerAfter w x.2) = true) :
    s.observe w x = s.count (fun c => { c with consumerRejects := inc32 c.consumerRejects }) := by
  rw [State.observe_eq, if_neg h]

theorem State.observe_rings_self (r : Fin 4) (a : Nat) (s : State) :
    (s.observe w (r, a)).rings[r] = s.rings[r].observed w a := by
  unfold Ring.observed
  by_cases h : s.rings[r].adopts (s.rings[r].consumerAfter w a) = true
  · rw [State.observe_adopts (x := (r, a)) h, State.modRing_rings, if_pos h]
    exact upd_getElem_self _ _ _
  · rw [State.observe_rejects (x := (r, a)) h, if_neg h]
    rfl

theorem State.observe_rings_ne {x : Fin 4 × Nat} {r : Fin 4} (h : x.1 ≠ r) (s : State) :
    (s.observe w x).rings[r] = s.rings[r] := by
  by_cases hTakes : s.rings[x.1].adopts (s.rings[x.1].consumerAfter w x.2) = true
  · rw [State.observe_adopts hTakes, State.modRing_rings, upd_getElem_of_ne _ _ h]
  · rw [State.observe_rejects hTakes]
    rfl

theorem State.observe_frame (x : Fin 4 × Nat) (s : State) :
    s.observe w x = { s with path := { s.path with counters := (s.observe w x).path.counters },
                             rings := (s.observe w x).rings } := by
  by_cases h : s.rings[x.1].adopts (s.rings[x.1].consumerAfter w x.2) = true
  · rw [State.observe_adopts h]
    rfl
  · rw [State.observe_rejects h]
    rfl

/-- The rings of a write's list observe it in turn. -/
def State.observeAll (w : QueuedWrite) (l : List (Fin 4 × Nat)) (s : State) : State := l.foldl (State.observe w) s

theorem State.observeAll_frame (l : List (Fin 4 × Nat)) (s : State) :
    s.observeAll w l = { s with path := { s.path with counters := (s.observeAll w l).path.counters },
                                rings := (s.observeAll w l).rings } := by
  induction l generalizing s with
  | nil => rfl
  | cons x xs ih =>
    change (s.observe w x).observeAll w xs = _
    have hFirst := congrArg (fun u : State =>
      ({ u with path := { u.path with counters := ((s.observe w x).observeAll w xs).path.counters },
                rings := ((s.observe w x).observeAll w xs).rings } : State)) (State.observe_frame (w := w) x s)
    exact (ih _).trans hFirst

theorem State.observeAll_rings_other {l : List (Fin 4 × Nat)} {r : Fin 4} (h : r ∉ l.map Prod.fst) (s : State) :
    (s.observeAll w l).rings[r] = s.rings[r] := by
  induction l generalizing s with
  | nil => rfl
  | cons x xs ih =>
    rw [List.map_cons, List.mem_cons, not_or] at h
    exact (ih h.2 _).trans (State.observe_rings_ne (Ne.symm h.1) s)

theorem State.observeAll_rings {l : List (Fin 4 × Nat)} (hOnce : (l.map Prod.fst).Nodup) {r : Fin 4} {a : Nat}
    (h : (r, a) ∈ l) (s : State) : (s.observeAll w l).rings[r] = s.rings[r].observed w a := by
  induction l generalizing s with
  | nil => cases h
  | cons x xs ih =>
    rw [List.map_cons, List.nodup_cons] at hOnce
    change ((s.observe w x).observeAll w xs).rings[r] = _
    rcases List.mem_cons.1 h with rfl | hRest
    · rw [State.observeAll_rings_other hOnce.1, State.observe_rings_self]
    · have hNe : x.1 ≠ r := by
        rintro rfl
        exact hOnce.1 (List.mem_map.2 ⟨(x.1, a), hRest, rfl⟩)
      rw [ih hOnce.2 hRest, State.observe_rings_ne hNe]

theorem State.observeAll_counters {l : List (Fin 4 × Nat)} (hOnce : (l.map Prod.fst).Nodup)
    (h : ∀ x ∈ l, s.rings[x.1].adopts (s.rings[x.1].consumerAfter w x.2) = true) :
    (s.observeAll w l).path.counters = s.path.counters := by
  induction l generalizing s with
  | nil => rfl
  | cons x xs ih =>
    rw [List.map_cons, List.nodup_cons] at hOnce
    obtain ⟨hFirst, hRest⟩ := List.forall_mem_cons.1 h
    refine (ih hOnce.2 fun y hy => ?_).trans (by rw [State.observe_adopts hFirst]; rfl)
    have hNe : x.1 ≠ y.1 := fun hxy => hOnce.1 (hxy ▸ List.mem_map_of_mem (f := Prod.fst) hy)
    rw [State.observe_rings_ne hNe]
    exact hRest y hy

end Observe

theorem State.forwardHead_eq (w : QueuedWrite) (what : AccessFor) (s : State) :
    s.forwardHead w what = ({ s with path := s.path.sent w what } : State).observeAll w (s.consumersOf w) := rfl

/-- Settles O30. -/
theorem forwardedWriteIsObserved : Obligations.ForwardedWriteIsObserved := by
  intro w what s hSound t value adopts
  have hOnce := State.consumersOf_nodup hSound w
  have ht : t = ({ s with path := s.path.sent w what } : State).observeAll w (s.consumersOf w) := rfl
  have hFrame := State.observeAll_frame (w := w) (s.consumersOf w) { s with path := s.path.sent w what }
  rw [← ht] at hFrame
  have hAdopts (r : Fin 4) (a : Nat) : adopts r a ↔ s.rings[r].adopts (s.rings[r].consumerAfter w a) = true := by
    rw [Ring.consumerAfter, Ring.adopts, decide_eq_true_eq]
    rfl
  refine ⟨?_, ?_, fun r a hTakes hAdopt => ?_, fun r hNone => ?_, fun hAll => ?_, fun r a hTakes hReject hOnly => ?_⟩
  · have hPath : t.path = { s.path.sent w what with counters := t.path.counters } := congrArg State.path hFrame
    rw [hPath]
    exact hFrame
  · exact congrArg State.path hFrame
  · rw [ht, State.observeAll_rings hOnce ((State.mem_consumersOf s w r a).2 hTakes), Ring.observed,
      if_pos ((hAdopts r a).1 hAdopt), Ring.consumerAfter]
  · by_cases hMem : r ∈ (s.consumersOf w).map Prod.fst
    · obtain ⟨⟨q, a⟩, hx, rfl⟩ := List.mem_map.1 hMem
      have hTakes := (State.mem_consumersOf s w q a).1 hx
      rw [ht, State.observeAll_rings hOnce hx, Ring.observed]
      exact if_neg fun hAdopt => hNone a ⟨hTakes, (hAdopts q a).2 hAdopt⟩
    · exact State.observeAll_rings_other hMem _
  · refine State.observeAll_counters (s := { s with path := s.path.sent w what }) hOnce fun x hx => ?_
    exact (hAdopts x.1 x.2).1 (hAll x.1 x.2 ((State.mem_consumersOf s w x.1 x.2).1 hx))
  · have hOne : s.consumersOf w = [(r, a)] := by
      have hMem := (State.mem_consumersOf s w r a).2 hTakes
      have hSame : ∀ x ∈ s.consumersOf w, x.1 = r := fun x hx => by
        by_contra hNe
        exact hOnly x.1 x.2 hNe ((State.mem_consumersOf s w x.1 x.2).1 hx)
      cases hList : s.consumersOf w with
      | nil => rw [hList] at hMem; cases hMem
      | cons x xs =>
        rw [hList] at hMem hSame hOnce
        rw [List.map_cons, List.nodup_cons] at hOnce
        cases xs with
        | nil => rw [List.mem_singleton.1 hMem]
        | cons y ys =>
          have hEq : x.1 = y.1 := (hSame x (by simp)).trans (hSame y (by simp)).symm
          exact absurd (by simp [hEq]) hOnce.1
    rw [ht, hOne]
    exact congrArg (fun u : State => u.path.counters)
      (State.observe_rejects (s := { s with path := s.path.sent w what }) (x := (r, a)) (mt (hAdopts r a).2 hReject))

/-! ## Reads (R28, R29, R32) and the answers of memory -/

theorem State.overlapsWrite_iff (s : State) (r : QueuedRead) : s.overlapsWrite r = true ↔
    ∃ w ∈ s.path.writes, ∃ x, enables w.cls.down w.burst.bytes x
      ∧ r.cls.down.toNat ≤ x ∧ x < r.cls.down.toNat + r.burst.len := by
  simp only [State.overlapsWrite, List.any_eq_true, touches_iff, enables]
  constructor
  · rintro ⟨w, hw, x, y, hxy, hLow, hHigh⟩
    exact ⟨w, hw, x, ⟨y, hxy⟩, hLow, hHigh⟩
  · rintro ⟨w, hw, x, ⟨y, hxy⟩, hLow, hHigh⟩
    exact ⟨w, hw, x, y, hxy, hLow, hHigh⟩

theorem State.earlierSameId_iff (s : State) (n : Nat) (r : QueuedRead) :
    s.earlierSameId n r = true ↔ ∃ q ∈ s.path.reads.take n, q.burst.id = r.burst.id := by
  simp [State.earlierSameId]

theorem exec_readRelease {n : Nat} {r : QueuedRead} {s : State} (h : s.path.reads[n]? = some r) :
    exec (.readRelease n) s = if s.earlierSameId n r then .next s else .next (s.releaseRead n r) := by
  change execReadRelease n s = _
  unfold execReadRelease
  rw [h]

theorem exec_forwardedResponse {n : Nat} {a : InFlight} {s : State} (h : s.inFlight n = some a) (data : List Byte) :
    exec (.forwardedResponse n data) s =
      match a.what with
      | .fwdRead axi => .next ((s.landed n).answer { axi := axi, read := true, okay := true, data := data })
      | .fwdWrite axi => .next ((s.landed n).answer { axi := axi, read := false, okay := true, data := [] })
      | .posted _ => .next (s.landed n)
      | .result first => .next (s.resultAnswered n first)
      | .record _ _ _ | .prodWord _ _ _ | .ringHeader _ | .header _ => .next s := by
  change execForwardedResponse n data s = _
  unfold execForwardedResponse
  rw [h] <;> rfl

/-- Settles O38. -/
theorem readsAreReleasedAndAnswered : Obligations.ReadsAreReleasedAndAnswered := by
  refine ⟨fun n r s h => ?reads, fun n data a s h => ?answers⟩
  case reads =>
    rw [exec_readRelease h]
    refine ⟨fun hEarlier => if_pos ((s.earlierSameId_iff n r).2 hEarlier), fun hFirst => ?_⟩
    have hNone : ¬ s.earlierSameId n r = true := fun hEarlier => by
      obtain ⟨q, hq, hId⟩ := (s.earlierSameId_iff n r).1 hEarlier
      exact hFirst q hq hId
    rw [if_neg hNone]
    refine ⟨fun hCross => ?_, fun hCross hLive => ?_, fun hCross hLive => ⟨fun hOver => ?_, fun hClear => ?_⟩⟩
    · exact congrArg _ (if_pos hCross)
    all_goals have hc : ¬ r.cls.crossing = true := by simp [hCross]
    · exact congrArg _ ((if_neg hc).trans (if_pos hLive))
    · exact congrArg _ ((if_neg hc).trans ((if_neg hLive).trans (if_pos ((s.overlapsWrite_iff r).2 hOver))))
    · exact congrArg _ ((if_neg hc).trans ((if_neg hLive).trans (if_neg (mt (s.overlapsWrite_iff r).1 hClear))))
  case answers =>
    have hExec := exec_forwardedResponse h data
    refine ⟨fun id hWhat => ?_, fun id hWhat => ?_, fun id hWhat => ?_, fun first hWhat => ?_⟩
    all_goals
      rw [hWhat] at hExec
      exact hExec

/-! ## CMD_DONE (R176) and the release at a write-back (R177) -/

theorem EventKind.num_lt (k : EventKind) : k.num < 32 := by cases k <;> decide

/-- An occurrence sets its own pending flag. -/
theorem State.raise_sets (k : EventKind) (a b : Nat) (s : State) : (s.raise k a b).ev.pending.getLsbD k.num = true := by
  rw [State.raise_ev]
  have hSelf : (1#32 <<< k.num).getLsbD k.num = true := by simp [EventKind.num_lt k]
  rw [Events.setPending_pending, BitVec.getLsbD_or, hSelf, Bool.or_true]

theorem State.raiseDone_eq {first : Idx} {s : State} (h : ∀ a ∈ s.path.down, a.what ≠ .result first) :
    s.raiseDone first =
      ((s.cp.notify.filter (fun n => n.first = first)).foldl (fun s n => s.raise .cmdDone n.first.toNat n.code.code) s).modCp
        (fun c => { c with notify := c.notify.filter (fun n => n.first ≠ first) }) := by
  unfold State.raiseDone
  refine if_neg fun hAny => ?_
  obtain ⟨a, ha, hWhat⟩ := List.any_eq_true.1 hAny
  exact h a ha (by simpa using hWhat)

theorem State.raises_frame {α : Type} (k : α → EventKind) (x y : α → Nat) (l : List α) (s : State) :
    l.foldl (fun s n => s.raise (k n) (x n) (y n)) s =
      { s with ev := (l.foldl (fun s n => s.raise (k n) (x n) (y n)) s).ev,
               rings := (l.foldl (fun s n => s.raise (k n) (x n) (y n)) s).rings } := by
  induction l generalizing s with
  | nil => rfl
  | cons n ns ih =>
    rw [List.foldl_cons, ih, State.raise_frame]

/-- Settles O46. -/
theorem writeBackReleasesProducer : Obligations.WriteBackReleasesProducer := by
  refine ⟨fun n why s hHeader => ?header, fun first s => ?done⟩
  case header =>
    dsimp only
    rw [exec_writeBackDone hHeader]
    refine ⟨?_, ?_⟩
    · rintro (rfl | rfl) <;> rfl
    · rintro h rfl
      refine ⟨?_, fun hNone => congrArg _ (State.releaseHeld_none (s := s.landed n) hNone)⟩
      rintro w ws k hHold hProducer rfl hWrites
      have hRelease : (s.headerDone n (.writeBack (some k.serial))) = (s.landed n).guarded w (State.forwardPlain w) := by
        change (s.landed n).releaseHeld (some k.serial) = _
        rw [State.releaseHeld_eq (s := s.landed n) hHold hProducer, State.forwardHeldProducer_eq (s := s.landed n) hWrites]
      rw [hRelease]
      refine ⟨fun hGuard => ?_, fun r hCross hHit hLowest => ?_⟩
      · rw [State.guarded_none (s := s.landed n) hGuard]
        rfl
      · rw [State.guarded_some (s := s.landed n) hCross hHit hLowest, State.refuseGuarded_eq]
        rfl
  case done =>
    refine ⟨State.raiseDone_waits, fun hOver => ?_⟩
    rw [State.raiseDone_eq hOver]
    have hFrame := State.raises_frame (fun _ : Notify => EventKind.cmdDone) (fun n => n.first.toNat) (fun n => n.code.code)
      (s.cp.notify.filter (fun n => n.first = first)) s
    refine ⟨?_, fun hNone => ?_, fun hSome => ?_, fun x hOne => ?_⟩
    · rw [hFrame]
      rfl
    · have hKept : s.cp.notify.filter (fun n => n.first ≠ first) = s.cp.notify := by
        rw [List.filter_eq_self]
        intro n hn
        have hNot := List.filter_eq_nil_iff.1 hNone n hn
        simpa using hNot
      rw [hNone]
      simp only [List.foldl_nil, State.modCp, hKept]
    · obtain ⟨x, xs, hList⟩ := List.exists_cons_of_ne_nil hSome
      rw [hList, List.foldl_cons]
      exact ((Works.refl _).foldl (fun _ _ k => k.raise) xs).flags 0 (State.raise_sets .cmdDone _ _ s)
    · rw [hOne, List.foldl_cons, List.foldl_nil, State.raise_frame]
      rfl

end Sys2Proof.Machine
end
section
/-! PROOFS. The chain stage (R175, R176, R178), UNBIND (R182), BIND (R24, R181), and the parameter commands. -/

set_option Elab.async false

namespace Sys2Proof.Machine

/-! ## The chain stage -/

section
variable {s : State} {bytes : List Byte}

theorem exec_slotTake (hLen : bytes.length = 64) (hDue : s.slotDue = true) :
    exec (.slotTake bytes) s = .next (s.takeSlot bytes) := by
  change execSlotTake bytes s = _
  unfold execSlotTake
  rw [if_pos (show bytes.length = Config.slotSize from hLen), if_pos hDue]

theorem State.chainStage_idle {slot : ChainSlot} {chained : Bool} (h : s.cp.stage = .idle) : s.chainStage slot chained =
    if slot.kind = contCode then s.chainFault .contInIdle [slot.index]
    else if chained then s.bufferSlot slot
    else s.applyChain [slot] := by
  unfold State.chainStage
  rw [h]

theorem State.chainStage_gather {slot : ChainSlot} {chained : Bool} (h : s.cp.stage = .gather) : s.chainStage slot chained =
    if slot.kind ≠ contCode then s.chainFault .newInGather [slot.index]
    else if 8 ≤ s.cp.chain.length then s.chainFault .tooLong [slot.index]
    else if chained then s.bufferSlot slot
    else (s.modCp (fun c => { c with stage := .idle, chain := [] })).applyChain (s.cp.chain ++ [slot]) := by
  unfold State.chainStage
  rw [h]
  rfl

/-- A slot of a chain whose last slot is still to come joins the buffer. -/
theorem State.chainStage_buffers {slot : ChainSlot}
    (h : s.cp.stage = .idle ∧ slot.kind ≠ 0x80 ∨ s.cp.stage = .gather ∧ slot.kind = 0x80 ∧ s.cp.chain.length < 8) :
    s.chainStage slot true = s.bufferSlot slot := by
  rcases h with ⟨hStage, hKind⟩ | ⟨hStage, hKind, hShort⟩
  · rw [State.chainStage_idle hStage, if_neg (show ¬ slot.kind = contCode from hKind), if_pos rfl]
  · rw [State.chainStage_gather hStage, if_neg (not_not.2 (show slot.kind = contCode from hKind)),
      if_neg (not_le.2 hShort), if_pos rfl]

theorem State.bufferSlot_eq (slot : ChainSlot) : s.bufferSlot slot =
    (s.modCp (fun c => { c with stage := .gather, chain := c.chain ++ [slot] })).writeBackIfDone := rfl

theorem State.writeBackIfDone_waits (h : s.cp.consumer ≠ s.cp.known) : s.writeBackIfDone = s :=
  if_neg (by simpa [CmdProc.allTaken] using h)

theorem State.writeBackIfDone_goes (h : s.cp.consumer = s.cp.known) : s.writeBackIfDone = s.writeBack :=
  if_pos (by simpa [CmdProc.allTaken] using h)

/-- The rest of a dispatched command, its kind and its slots checked. -/
theorem State.applyChain_cons (first : ChainSlot) (rest : List ChainSlot) : s.applyChain (first :: rest) =
    let s1 := s.tallied (fun t => { t with commands := tallyAdd t.commands 1 })
    match CmdKind.ofCode first.kind.toNat with
    | none => s1.answerCommand first.index first.tag (rest.length + 1) first.notify .unknown false
    | some k =>
      if k.slots = rest.length + 1 then
        s1.modCp (fun c =>
          { c with dispatched := some { kind := k, first := first.index, tag := first.tag, slots := rest.length + 1,
                                        notify := first.notify, payload := (first :: rest).flatMap (·.payload) } })
      else s1.answerCommand first.index first.tag (rest.length + 1) first.notify .range false := rfl

end

/-- Settles O44. -/
theorem slotIsTakenByChainStage : Obligations.SlotIsTakenByChainStage := by
  refine ⟨fun bytes s hLen hDue => ?takes, fun first rest s => ?applies⟩
  case takes =>
    intro kind chained slot s1 buffered run
    have hRun : run = .next (s1.chainStage slot chained) := exec_slotTake hLen hDue
    rw [hRun]
    refine ⟨fun hStage hCont => ?_, fun hStage hNew hLast => ?_, fun hStage hNew => ?_, fun hStage hCont hLong => ?_,
      fun hStage hCont hShort hLast => ?_, fun hJoins hChained => ?_⟩
    · rw [State.chainStage_idle (s := s1) hStage, if_pos (show slot.kind = contCode from hCont)]
    · rw [State.chainStage_idle (s := s1) hStage, if_neg (show ¬ slot.kind = contCode from hNew), hLast]
      rfl
    · rw [State.chainStage_gather (s := s1) hStage, if_pos (show slot.kind ≠ contCode from hNew)]
    · rw [State.chainStage_gather (s := s1) hStage, if_neg (not_not.2 (show slot.kind = contCode from hCont)),
        if_pos (show 8 ≤ s1.cp.chain.length from hLong)]
    · rw [State.chainStage_gather (s := s1) hStage, if_neg (not_not.2 (show slot.kind = contCode from hCont)),
        if_neg (show ¬ 8 ≤ s1.cp.chain.length from not_le.2 hShort), hLast]
      rfl
    · rw [hChained, State.chainStage_buffers (s := s1) (slot := slot) hJoins, State.bufferSlot_eq]
      exact ⟨fun hMore => congrArg _ (State.writeBackIfDone_waits (s := buffered) hMore),
        fun hTaken => congrArg _ (State.writeBackIfDone_goes (s := buffered) hTaken)⟩
  case applies =>
    rw [State.applyChain_cons]
    refine ⟨fun hKind => ?_, fun k hKind hSlots => ?_, fun k hKind hSlots => ?_⟩
    all_goals rw [hKind]
    · exact if_neg hSlots
    · exact if_pos hSlots

/-! ## Answered commands -/

theorem State.writeBack_path (s : State) :
    s.writeBack.path = { s.path with down := s.writeBack.path.down, nextAccess := s.writeBack.path.nextAccess } := by
  rcases State.writeBack_cases s with h | h
  · rw [h]
    rfl
  · rw [h, State.issueHeader_eq]
    rfl

/-- What an answer leaves of the Path Unit. -/
theorem State.finish_path (code : ResultCode) (force : Bool) (s : State) :
    (s.finish code force).path = { s.path with
      down := (s.finish code force).path.down, nextAccess := (s.finish code force).path.nextAccess } := by
  cases h : s.cp.dispatched with
  | none => simp [State.finish, h]
  | some c =>
    rw [State.finish_eq h]
    split
    · exact State.writeBack_path (s.answeredState c code)
    · rfl

theorem State.finish_answered {s : State} {c : Command} (h : s.cp.dispatched = some c) (code : ResultCode) (force : Bool) :
    s.answeredWith code (s.finish code force) := by
  rw [State.answeredWith, State.finish_cp h]
  exact ⟨rfl, rfl, rfl, rfl⟩

/-- What follows a payload's taking is answered where the command is still dispatched. -/
theorem State.given_dispatched {k : CmdKind} {p : List Byte} {s : State} (h : s.given k p) :
    ∃ c, s.cp.dispatched = some c :=
  h.2.imp fun _ hc => hc.1

/-! ## UNBIND -/

/-- No guard stands while no ring is set up. -/
theorem State.not_hitsGuard_of_initial {s : State} (h : s.rings = Vector.replicate 4 Ring.initial) (w : QueuedWrite) (r : Fin 4) :
    ¬ s.hitsGuard w r := by
  rintro ⟨x, hGuards, -⟩
  rw [h] at hGuards
  simp [Ring.guards, Ring.initial] at hGuards

/-- The Path Unit of UNBIND once the held capture write is forwarded untapped. -/
theorem State.forwardHeldCapture_reset (s : State) :
    ∃ p : Path, s.blocksReset.forwardHeldCapture = { s.blocksReset with path := p }
      ∧ p.straps = s.path.straps ∧ p.window = s.path.unbound.window ∧ p.reads = s.path.reads := by
  unfold State.forwardHeldCapture
  split
  next w hHeld =>
    obtain ⟨h, hHold⟩ : ∃ h, s.path.hold = some h := by
      cases hHold : s.path.hold with
      | none => simp [State.heldCapture, State.blocksReset, Path.unbound, hHold] at hHeld
      | some h => exact ⟨h, rfl⟩
    have hNone : s.blocksReset.consumersOf w = [] := by
      simp [State.consumersOf, State.blocksReset, Path.unbound, hHold]
    rw [State.guarded_none (State.not_hitsGuard_of_initial rfl w), State.forwardPlain_eq, State.forwardHead_eq, hNone]
    exact ⟨_, rfl, rfl, rfl, rfl⟩
  next => exact ⟨_, rfl, rfl, rfl, rfl⟩

/-- Settles O13. -/
theorem unbindReturnsBlocksToReset : Obligations.UnbindReturnsBlocksToReset := by
  intro p s hGiven
  obtain ⟨c, hDispatched⟩ := State.given_dispatched hGiven
  obtain ⟨q, hHeld, hStraps, hWindow, hReads⟩ := State.forwardHeldCapture_reset s
  let u : State := { s.blocksReset with path := { q with counters := PathCounters.zero } }
  have hUnbind : s.unbind = u.finish .ok true := by
    rw [State.unbind, hHeld]
    rfl
  have hFrame := State.finish_frame .ok true u
  have hCp := State.finish_cp (s := u) hDispatched .ok true
  have hPath := State.finish_path .ok true u
  refine ⟨_, State.command_acts hGiven hUnbind, ?_⟩
  rw [hCp, hPath, hFrame]
  refine ⟨rfl, rfl, rfl, rfl, rfl, rfl, rfl, rfl, rfl, hStraps, ?_, fun i hi => ?_, rfl, hReads, rfl, rfl, rfl, rfl, rfl, rfl, rfl,
    rfl, rfl, rfl, rfl, fun i => ?_, rfl, rfl, rfl, rfl, rfl, rfl, rfl, fun r => ?_, rfl, rfl, rfl, ?_, rfl, rfl, rfl, rfl, rfl⟩
  · change q.window[0] = _
    rw [hWindow]
    simp [Path.unbound]
  · change q.window[i].enable = false
    have hNe : 0 ≠ i.val := fun h0 => hi (Fin.ext h0.symm)
    rw [hWindow]
    simp [Path.unbound, hNe, WinEntry.disabled]
  · change (Vector.ofFn (fun i => (s.pos.terms[i]).unbound))[i].filtered = _
      ∧ (Vector.ofFn (fun i => (s.pos.terms[i]).unbound))[i].fn = _
      ∧ (Vector.ofFn (fun i => (s.pos.terms[i]).unbound))[i].activeLow = _
    simp [Terminal.unbound, Terminal.initial]
  · change (Vector.replicate 4 Ring.initial)[r] = _
    simp
  · change s.tally.slot.unbound = _
    cases s.tally.slot <;> rfl

end Sys2Proof.Machine
end
section
/-! PROOFS. BIND and GEOMETRY (R5, R24, R38, R39, R181): the checks, and what the taking leaves. -/

set_option Elab.async false

namespace Sys2Proof.Machine

/-! ## Checks in two phases -/

theorem firstFailure_iff {l : List (Bool × ResultCode)} : firstFailure l = none ↔ ∀ x ∈ l, x.1 = true := by
  induction l with
  | nil => simp [firstFailure]
  | cons x xs ih =>
    obtain ⟨ok, code⟩ := x
    cases ok <;> simp [firstFailure, ih]

/-- Where every check of a list answers the same code, the code of the first that fails is that code. -/
theorem firstFailure_same {c : ResultCode} {l : List (Bool × ResultCode)} (hCode : ∀ x ∈ l, x.2 = c)
    (hFails : ¬ ∀ x ∈ l, x.1 = true) : firstFailure l = some c := by
  induction l with
  | nil => simp at hFails
  | cons x xs ih =>
    obtain ⟨ok, code⟩ := x
    obtain ⟨rfl, hRest⟩ := List.forall_mem_cons.1 hCode
    cases ok with
    | false => rfl
    | true => exact ih hRest (by simpa using hFails)

theorem firstFailure_append (l m : List (Bool × ResultCode)) :
    firstFailure (l ++ m) = (firstFailure l).or (firstFailure m) := by
  induction l with
  | nil => rfl
  | cons x xs ih =>
    obtain ⟨ok, code⟩ := x
    cases ok <;> simp [firstFailure, ih]

/-- Checks that come in two phases, with a code each. -/
theorem firstFailure_phases {l m : List (Bool × ResultCode)} {c d : ResultCode} {A B : Prop} (hl : ∀ x ∈ l, x.2 = c)
    (hm : ∀ x ∈ m, x.2 = d) (hA : (∀ x ∈ l, x.1 = true) ↔ A) (hB : (∀ x ∈ m, x.1 = true) ↔ B) :
    (¬ A → firstFailure (l ++ m) = some c) ∧ (A → ¬ B → firstFailure (l ++ m) = some d)
      ∧ (A → B → firstFailure (l ++ m) = none) := by
  rw [firstFailure_append]
  refine ⟨fun hNot => ?_, fun hOk hNot => ?_, fun hOk hAlso => ?_⟩
  · rw [firstFailure_same hl (mt hA.1 hNot)]
    rfl
  · rw [firstFailure_iff.2 (hA.2 hOk), firstFailure_same hm (mt hB.1 hNot)]
    rfl
  · rw [firstFailure_iff.2 (hA.2 hOk), firstFailure_iff.2 (hB.2 hAlso)]
    rfl

theorem within_iff {lo hi x : Nat} : within lo hi x = true ↔ lo ≤ x ∧ x ≤ hi := by
  simp [within]

theorem State.unlessFails_some {s : State} {check : Option ResultCode} {code : ResultCode} (h : check = some code)
    (take : State → State) : s.unlessFails check take = s.finish code false := by
  subst h
  rfl

theorem State.unlessFails_none {s : State} {check : Option ResultCode} (h : check = none) (take : State → State) :
    s.unlessFails check take = (take s).finish .ok false := by
  subst h
  rfl

/-! ## The table of BIND -/

theorem bindTable_zero (zero : WinEntry) (p : List Byte) : (bindTable zero p)[0] = zero := by
  simp [bindTable]

theorem bindTable_entry (zero : WinEntry) (p : List Byte) {i : Fin 16} (h : i ≠ 0) :
    (bindTable zero p)[i] = bindEntry p i.val := by
  simp [bindTable, h]

/-- Every entry but the first of a table. -/
theorem forall_mem_tail {t : Vector WinEntry 16} {P : WinEntry → Prop} :
    (∀ e ∈ t.toList.tail, P e) ↔ ∀ i : Fin 16, i ≠ 0 → P t[i] := by
  constructor
  · intro h i hi
    have hPos : 0 < i.val := Nat.pos_of_ne_zero fun h0 => hi (Fin.ext h0)
    refine h _ (List.mem_iff_getElem.2 ⟨i.val - 1, by simp; omega, ?_⟩)
    rw [List.getElem_tail]
    simp [Nat.sub_add_cancel hPos]
  · intro h e he
    obtain ⟨n, hn, rfl⟩ := List.mem_iff_getElem.1 he
    rw [List.getElem_tail]
    have hn' : n + 1 < 16 := by simp at hn; omega
    simpa using h ⟨n + 1, hn'⟩ (by simp [Fin.ext_iff])

theorem mem_entryPairs {i j : Fin 16} : (i, j) ∈ entryPairs ↔ i < j := by
  simp [entryPairs]

theorem forall_entryPairs {P : Fin 16 × Fin 16 → Bool} :
    entryPairs.all P = true ↔ ∀ i j : Fin 16, i < j → P (i, j) = true := by
  simp only [List.all_eq_true, Prod.forall, mem_entryPairs]

theorem bindKind_named {p : List Byte} {e : Nat} :
    (match bindKind p e with
      | some .capture | some .live | some .pass => true
      | some .control | none => false) = true ↔ 1 ≤ byteAt p (18 * (e - 1) + 1) ∧ byteAt p (18 * (e - 1) + 1) ≤ 3 := by
  rw [bindKind, Nat.mul_comm (e - 1) 18]
  generalize byteAt p (18 * (e - 1) + 1) = n
  match n with
  | 0 | 1 | 2 | 3 => decide
  | n + 4 => simp [WinKind.ofCode]

/-- Entry `i` as BIND gives it. -/
theorem bindEntry_eq (p : List Byte) (i : Nat) : bindEntry p i =
    { enable := (byteAt p (18 * (i - 1))).testBit 0, translate := (byteAt p (18 * (i - 1))).testBit 1,
      kind := (WinKind.ofCode (byteAt p (18 * (i - 1) + 1))).getD .pass, camera := byteAt p (18 * (i - 1) + 2),
      base := BitVec.ofNat 40 (field p (18 * (i - 1) + 3) 5),
      mask := BitVec.ofNat 40 (field p (18 * (i - 1) + 8) 5),
      target := BitVec.ofNat 40 (field p (18 * (i - 1) + 13) 5) } := by
  simp only [bindEntry, bindKind, bit, Nat.mul_comm (i - 1) 18]

/-! ## The checks of BIND -/

section
variable (zero : WinEntry) (p : List Byte)

/-- The checks of BIND that answer RANGE. -/
def bindRangeChecks : List (Bool × ResultCode) :=
  [(1 ≤ bindHold p, .range),
   ((List.range 15).all (fun i => match bindKind p (i + 1) with
      | some .capture | some .live | some .pass => true
      | some .control | none => false), .range),
   ((bindTable zero p).toList.tail.all (fun e => e.kind != .capture || e.camera ≤ 7), .range),
   ((bindTable zero p).toList.tail.all (fun e => lowPage e.mask = 0), .range),
   ((bindTable zero p).toList.tail.all (fun e =>
      (e.base &&& ~~~e.mask) == 0 && (!e.translate || (e.target &&& ~~~e.mask) == 0)), .range)]

/-- The checks of BIND that answer CONFLICT. -/
def bindConflictChecks : List (Bool × ResultCode) :=
  let t := bindTable zero p
  [(entryPairs.all (fun (i, j) => !(t[i].isCapture && t[j].isCapture && t[i].camera == t[j].camera)), .conflict),
   (entryPairs.all (fun (i, j) =>
      !((t[j].isCapture || t[j].isLive) && t[i].enable && t[i].overlaps t[j])), .conflict)]

theorem bindKinds_named : (List.range 15).all (fun i => match bindKind p (i + 1) with
    | some .capture | some .live | some .pass => true
    | some .control | none => false) = true ↔
      ∀ i : Fin 16, i ≠ 0 → 1 ≤ byteAt p (18 * (i - 1) + 1) ∧ byteAt p (18 * (i - 1) + 1) ≤ 3 := by
  simp only [List.all_eq_true, List.mem_range]
  constructor
  · intro h i hi
    have hPos : 0 < i.val := Nat.pos_of_ne_zero fun h0 => hi (Fin.ext h0)
    have hNamed := bindKind_named.1 (h (i.val - 1) (by omega))
    rwa [Nat.sub_add_cancel hPos] at hNamed
  · intro h n hn
    exact bindKind_named.2 (h ⟨n + 1, by omega⟩ (by simp [Fin.ext_iff]))

section
variable {t : Vector WinEntry 16}

theorem bindCameras_ok : t.toList.tail.all (fun e => e.kind != .capture || e.camera ≤ 7) = true ↔
    ∀ i : Fin 16, i ≠ 0 → t[i].kind = .capture → t[i].camera ≤ 7 := by
  rw [List.all_eq_true, forall_mem_tail]
  refine forall₂_congr fun i _ => ?_
  rw [Bool.or_eq_true, bne_iff_ne, decide_eq_true_eq, imp_iff_not_or]

theorem bindMasks_ok : t.toList.tail.all (fun e => lowPage e.mask = 0) = true ↔
    ∀ i : Fin 16, i ≠ 0 → t[i].mask.toNat % 4096 = 0 := by
  rw [List.all_eq_true, forall_mem_tail]
  exact forall₂_congr fun i _ => decide_eq_true_iff

theorem bindBases_ok : t.toList.tail.all (fun e =>
    (e.base &&& ~~~e.mask) == 0 && (!e.translate || (e.target &&& ~~~e.mask) == 0)) = true ↔
    ∀ i : Fin 16, i ≠ 0 → t[i].base &&& ~~~ t[i].mask = 0 ∧ (t[i].translate = true → t[i].target &&& ~~~ t[i].mask = 0) := by
  rw [List.all_eq_true, forall_mem_tail]
  refine forall₂_congr fun i _ => ?_
  rw [Bool.and_eq_true, beq_iff_eq, Bool.or_eq_true, beq_iff_eq, Bool.not_eq_true', imp_iff_not_or, Bool.not_eq_true]

end

theorem bindCheck_eq : bindCheck zero p = firstFailure (bindRangeChecks zero p ++ bindConflictChecks zero p) := rfl

theorem bindRangeChecks_iff : (∀ x ∈ bindRangeChecks zero p, x.1 = true) ↔
    1 ≤ field p 0x10E 2
      ∧ ∀ i : Fin 16, i ≠ 0 →
          1 ≤ byteAt p (18 * (i - 1) + 1) ∧ byteAt p (18 * (i - 1) + 1) ≤ 3
          ∧ ((bindTable zero p)[i].kind = .capture → (bindTable zero p)[i].camera ≤ 7)
          ∧ (bindTable zero p)[i].mask.toNat % 4096 = 0
          ∧ (bindTable zero p)[i].base &&& ~~~ (bindTable zero p)[i].mask = 0
          ∧ ((bindTable zero p)[i].translate = true → (bindTable zero p)[i].target &&& ~~~ (bindTable zero p)[i].mask = 0) := by
  simp only [bindRangeChecks, List.forall_mem_cons, bindKinds_named, bindCameras_ok, bindMasks_ok, bindBases_ok, bindHold,
    List.not_mem_nil, false_imp_iff, implies_true, and_true]
  refine and_congr decide_eq_true_iff ?_
  exact ⟨fun ⟨hKind, hCam, hMask, hBase⟩ i hi =>
      ⟨(hKind i hi).1, (hKind i hi).2, hCam i hi, hMask i hi, (hBase i hi).1, (hBase i hi).2⟩,
    fun hAll => ⟨fun i hi => ⟨(hAll i hi).1, (hAll i hi).2.1⟩, fun i hi => (hAll i hi).2.2.1,
      fun i hi => (hAll i hi).2.2.2.1, fun i hi => (hAll i hi).2.2.2.2⟩⟩

/-- Two CAPTURE entries of one camera. -/
def bindTwice : Prop := ∃ i j : Fin 16, i < j ∧ (bindTable zero p)[i].enable = true ∧ (bindTable zero p)[j].enable = true
  ∧ (bindTable zero p)[i].kind = .capture ∧ (bindTable zero p)[j].kind = .capture
  ∧ (bindTable zero p)[i].camera = (bindTable zero p)[j].camera

/-- A CAPTURE or LIVE entry overlaps an entry of lower number. -/
def bindOverlap : Prop := ∃ i j : Fin 16, i < j ∧ (bindTable zero p)[i].enable = true ∧ (bindTable zero p)[j].enable = true
  ∧ ((bindTable zero p)[j].kind = .capture ∨ (bindTable zero p)[j].kind = .live)
  ∧ ((bindTable zero p)[i].base ^^^ (bindTable zero p)[j].base) &&& (bindTable zero p)[i].mask &&& (bindTable zero p)[j].mask = 0

theorem bindConflictChecks_iff :
    (∀ x ∈ bindConflictChecks zero p, x.1 = true) ↔ ¬ bindTwice zero p ∧ ¬ bindOverlap zero p := by
  simp only [bindConflictChecks, List.forall_mem_cons, forall_entryPairs, List.not_mem_nil, false_imp_iff, implies_true,
    and_true, WinEntry.isCapture, WinEntry.isLive, WinEntry.overlaps, bindTwice, bindOverlap, not_exists, not_and,
    Bool.not_eq_true', Bool.and_eq_false_iff, Bool.or_eq_false_iff, beq_eq_false_iff_ne, ne_eq]
  refine and_congr (forall₃_congr fun i j hij => ?_) (forall₃_congr fun i j hij => ?_)
  · grind
  · grind

end

/-- Settles O23. -/
theorem bindLoadsWindowTable : Obligations.BindLoadsWindowTable := by
  refine ⟨fun p s hGiven hUnbound => ⟨fun code hFails => ?_, fun hOk => ?_⟩, fun zero p => ?_⟩
  · exact State.command_acts hGiven ((if_pos hUnbound).trans (State.unlessFails_some hFails _))
  · refine ⟨s.loadTable p, State.command_acts hGiven ((if_pos hUnbound).trans (State.unlessFails_none hOk _)), rfl,
      bindTable_zero _ _, fun i hi => (bindTable_entry _ _ hi).trans (bindEntry_eq p i.val)⟩
  · have hPhases := firstFailure_phases (l := bindRangeChecks zero p) (m := bindConflictChecks zero p) (c := .range)
      (d := .conflict) (by simp [bindRangeChecks]) (by simp [bindConflictChecks]) (bindRangeChecks_iff zero p)
      (bindConflictChecks_iff zero p)
    obtain ⟨hRange, hConflict, hNone⟩ := hPhases
    rw [bindCheck_eq]
    exact ⟨hRange, fun hOk hBad => hConflict hOk fun ⟨hTwice, hOverlap⟩ => hBad.elim hTwice hOverlap,
      fun hOk hTwice hOverlap => hNone hOk ⟨hTwice, hOverlap⟩⟩

end Sys2Proof.Machine
end
section
/-! PROOFS. What the blocks in front of the Command Processor leave of it: the Position Unit, the Ingest Unit and the Tally
Unit act without the Path Unit and the Command Processor, and take no pending flag away. -/

set_option Elab.async false

namespace Sys2Proof.Machine

/-- The Command Processor and the Path Unit stand, and no pending flag is lost. -/
structure Steady (s t : State) : Prop where
  cp : t.cp = s.cp
  path : t.path = s.path
  flags : ∀ k, s.ev.pending.getLsbD k = true → t.ev.pending.getLsbD k = true

theorem Works.steady {s t : State} (w : Works s t) : Steady s t := ⟨w.cp, w.path, w.flags⟩

namespace Steady

variable {s t u : State}

theorem refl (s : State) : Steady s s := (Works.refl s).steady

theorem trans (h : Steady s t) (k : Steady t u) : Steady s u :=
  ⟨k.cp.trans h.cp, k.path.trans h.path, fun i hi => k.flags i (h.flags i hi)⟩

theorem works (h : Steady s t) (w : Works t u) : Steady s u := h.trans w.steady

theorem ite {c : Prop} [Decidable c] (h : c → Steady s t) (k : ¬ c → Steady s u) : Steady s (if c then t else u) := by
  split
  next hc => exact h hc
  next hc => exact k hc

theorem foldl {α : Type} {f : State → α → State} (hf : ∀ u x, Steady s u → Steady s (f u x)) (l : List α) (h : Steady s t) :
    Steady s (l.foldl f t) := by
  induction l generalizing t with
  | nil => exact h
  | cons x xs ih => exact ih (hf t x h)

/-! ## Parts of the state -/

theorem modPos (h : Steady s t) {f : Position → Position} : Steady s (t.modPos f) := { h with }
theorem modTerm (h : Steady s t) {i : Fin 6} {f : Terminal → Terminal} : Steady s (t.modTerm i f) := h.modPos
theorem modIng (h : Steady s t) {f : Ingest → Ingest} : Steady s (t.modIng f) := { h with }
theorem modCam (h : Steady s t) {c : Fin 8} {f : Camera → Camera} : Steady s (t.modCam c f) := h.modIng
theorem modBlobs (h : Steady s t) {f : Blobs → Blobs} : Steady s (t.modBlobs f) := { h with }
theorem modMap (h : Steady s t) {f : FlawMap → FlawMap} : Steady s (t.modMap f) := { h with }
theorem modTally (h : Steady s t) {f : Tally → Tally} : Steady s (t.modTally f) := { h with }
theorem tallied (h : Steady s t) {f : Tallies → Tallies} : Steady s (t.tallied f) := { h with }
theorem raise (h : Steady s t) {k : EventKind} {a b : Nat} : Steady s (t.raise k a b) := h.works (Works.refl _).raise
theorem raiseIf (h : Steady s t) {c : Bool} {k : EventKind} {a b : Nat} : Steady s (t.raiseIf c k a b) :=
  h.works (Works.refl _).raiseIf

/-! ## The hand-over of lines -/

theorem requestSpan (h : Steady s t) {k : SpanKind} {a b : Nat} : Steady s (t.requestSpan k a b) := { h with }

theorem judgeLine (h : Steady s t) {m : Nat} {k : Option SpanKind} : Steady s (t.judgeLine m k) := by
  cases k with
  | none =>
    dsimp only [State.judgeLine]
    exact h.tallied
  | some k => exact h.requestSpan

theorem updateEdges (h : Steady s t) {m : Nat} {status : Vector CamStatus 8} : Steady s (t.updateEdges m status) := by
  unfold State.updateEdges
  exact h.modIng.raiseIf.raiseIf

theorem handOver (h : Steady s t) {m : Nat} {entry : Option Pulse} : Steady s (t.handOver m entry) := by
  have hAdopt : Steady s (t.modIng Ingest.adoptDetect) := h.modIng
  cases entry with
  | none => exact hAdopt.works (Works.refl _).trackAndReport
  | some p =>
    cases hCapture : p.capture with
    | none =>
      rw [State.handOver_overrun hCapture]
      exact hAdopt.judgeLine.works (Works.refl _).trackAndReport
    | some q =>
      rw [State.handOver_pulsed hCapture]
      exact hAdopt.judgeLine.updateEdges.works (Works.refl _).recordEdges.trackAndReport

theorem assembleLoop {top : Nat} (fuel : Nat) (h : Steady s t) : Steady s (State.assembleLoop top fuel t) := by
  induction fuel generalizing t with
  | zero => exact h
  | succ fuel ih =>
    unfold State.assembleLoop
    refine ite (fun _ => h) (fun _ => ?_)
    dsimp only
    split
    · exact ih (handOver h.modIng)
    · exact ite (fun _ => ih (handOver h.modIng)) (fun _ => h)

theorem assembleUpTo (h : Steady s t) {top : Nat} : Steady s (t.assembleUpTo top) := assembleLoop _ h
theorem assemble (h : Steady s t) : Steady s t.assemble := h.assembleUpTo

theorem declareLost (h : Steady s t) {cam : Fin 8} {cause : LostCause} {declared : Nat → Bool} :
    Steady s (t.declareLost cam cause declared) := by
  unfold State.declareLost
  dsimp only
  split
  · exact h
  · exact (modCam h.modIng).raise

theorem forceOut (h : Steady s t) : Steady s t.forceOut := by
  unfold State.forceOut
  refine ite (fun _ => h) (fun _ => ?_)
  split
  · exact assembleUpTo (h.foldl (fun _ _ k => k.declareLost) _)
  · exact h

theorem camCount (h : Steady s t) {cam : Fin 8} {f : CamCounters → CamCounters} : Steady s (t.camCount cam f) := h.modCam

theorem captureOrder (h : Steady s t) {cam : Fin 8} {off : Nat} {cause : OrderCause} :
    Steady s (t.captureOrder cam off cause) := h.raise

theorem ingestTrigger (h : Steady s t) {n : Nat} {o : Trigger} : Steady s (t.ingestTrigger n o) := by
  cases o with
  | notCaptured => exact h.assemble
  | pulsed => exact assemble h.forceOut.modIng
  | overrun => exact assemble (foldl (fun _ _ k => k.camCount.raise) _ h.forceOut.modIng)

theorem startLearning (h : Steady s t) : Steady s t.startLearning := h.modIng

theorem flushLines (fuel : Nat) (h : Steady s t) : Steady s (State.flushLines fuel t) := by
  induction fuel generalizing t with
  | zero => exact h
  | succ fuel ih =>
    unfold State.flushLines
    refine ite (fun _ => h) (fun _ => ih ?_)
    exact (ite (fun _ => h.modIng.requestSpan) (fun _ => h.modIng)).works (Works.refl _).trackAndReport

theorem flushIngest (h : Steady s t) : Steady s t.flushIngest := by
  unfold State.flushIngest
  exact (flushLines _ h).works (Works.refl _).closeByGap.lineDone

theorem newGeometry (h : Steady s t) {cfgs : Vector CamSettings 8} {pp holdLimit : Nat} :
    Steady s (t.newGeometry cfgs pp holdLimit) := h.modIng

/-! ## Shifts -/

theorem placeReport (h : Steady s t) {r : Report} : Steady s (t.placeReport r) := by
  unfold State.placeReport
  split
  · exact h.modTally
  · exact h.modTally.raise
  · exact h

theorem performClose (h : Steady s t) {cause : CloseCause} : Steady s (t.performClose cause) := by
  unfold State.performClose
  exact h.placeReport.modTally.raise

theorem closeShift (h : Steady s t) {cause : CloseCause} : Steady s (t.closeShift cause) :=
  ite (fun _ => h.modTally) (fun _ => h.performClose)

theorem boundaryTest (h : Steady s t) : Steady s t.boundaryTest := ite (fun _ => h.closeShift) (fun _ => h)

/-! ## The Position Unit -/

theorem followBreak (h : Steady s t) : Steady s t.followBreak := by
  unfold State.followBreak
  refine ite (fun _ => h) (fun _ => ?_)
  have hBreak : Steady s ((t.modPos (fun p => { p with broken := t.pos.inputOf .inRibbonBreak })).raise .ribbonBreak
      t.pos.line (mark (t.pos.inputOf .inRibbonBreak))) := h.modPos.raise
  refine ite (fun _ => hBreak.works (Works.refl _).planBreak) (fun _ => ?_)
  exact ite (fun _ => hBreak.works (Works.refl _).planClear) (fun _ => (hBreak.works (Works.refl _).planClear).startLearning)

theorem followPark (h : Steady s t) {cause : Nat} : Steady s (t.followPark cause) := by
  unfold State.followPark
  exact ite (fun _ => h) fun _ => ite (fun _ => h.modPos.raise) fun _ => h.modPos.raise.startLearning

theorem judgeReadiness (h : Steady s t) {old : Bool} : Steady s (t.judgeReadiness old) :=
  h.works (Works.refl _).judgeReadiness

theorem follow (h : Steady s t) {oldReady oldShift : Bool} : Steady s (t.follow oldReady oldShift) := by
  unfold State.follow
  exact ite (fun _ => h.followBreak.followPark.judgeReadiness.closeShift) (fun _ => h.followBreak.followPark.judgeReadiness)

theorem changeTerm (h : Steady s t) {i : Fin 6} {f : Terminal → Terminal} {event : State → State}
    (he : ∀ u, Steady s u → Steady s (event u)) : Steady s (t.changeTerm i f event) := (he _ h.modTerm).follow

theorem sampleTerm (h : Steady s t) {pins : BitVec 6} {i : Fin 6} : Steady s (t.sampleTerm pins i) := by
  unfold State.sampleTerm
  exact ite (fun _ => h.changeTerm fun _ k => k.raiseIf) (fun _ => h.modTerm)

theorem sampleAll (h : Steady s t) {pins : BitVec 6} : Steady s (t.sampleAll pins) := h.foldl (fun _ _ k => k.sampleTerm) _

theorem stallRestart (h : Steady s t) : Steady s t.stallRestart := by
  unfold State.stallRestart
  exact h.modPos.raiseIf

theorem lineSpan (h : Steady s t) {n : Nat} {k : Option SpanKind} : Steady s (t.lineSpan n k) := by
  cases k with
  | none => exact h
  | some k => exact h.requestSpan

theorem setClock (h : Steady s t) {day tod : Nat} : Steady s (t.setClock day tod) := by
  unfold State.setClock
  exact modTally (ite (fun _ => h.modPos.closeShift) (fun _ => h.modPos))

/-- A command that a steady change follows is answered. -/
theorem answered {c : Command} (h : Steady s t) (hDispatched : s.cp.dispatched = some c) (code : ResultCode) :
    s.answeredWith code (t.finish code false) := by
  have hSame : t.cp.dispatched = some c := h.cp ▸ hDispatched
  have hAnswer := State.finish_answered hSame code false
  rwa [State.answeredWith, h.cp] at hAnswer

end Steady

end Sys2Proof.Machine
end
section
/-! PROOFS. GEOMETRY (R5, R38, R39, R181). -/

set_option Elab.async false

namespace Sys2Proof.Machine

/-! ## The checks of GEOMETRY -/

/-- The used ranges ascend where each ends before the next begins, and then each ends before every later one. -/
theorem ascending_iff_pairwise {l : List (Nat × Nat)} (h : ∀ x ∈ l, x.1 ≤ x.2) :
    ascending l = true ↔ l.Pairwise (fun x y => x.2 < y.1) := by
  induction l with
  | nil => simp [ascending]
  | cons a rest ih =>
    cases rest with
    | nil => simp [ascending]
    | cons b rest =>
      obtain ⟨-, hRest⟩ := List.forall_mem_cons.1 h
      rw [ascending, Bool.and_eq_true, decide_eq_true_eq, ih hRest, List.pairwise_cons (a := a), List.forall_mem_cons]
      refine ⟨fun ⟨hab, hPairs⟩ => ⟨⟨hab, fun c hc => ?_⟩, hPairs⟩, fun ⟨⟨hab, _⟩, hPairs⟩ => ⟨hab, hPairs⟩⟩
      have hbc : b.2 < c.1 := (List.pairwise_cons.1 hPairs).1 c hc
      have hb : b.1 ≤ b.2 := hRest b (List.mem_cons_self ..)
      omega

theorem geoRanges_ascend {p : List Byte} :
    ascending ((geoEnabled p).map (fun i => ((geoCam p i).offset, (geoCam p i).lastCol))) = true ↔
      ∀ i j : Fin 8, i < j → (geoCam p i).enable = true → (geoCam p j).enable = true →
        (geoCam p i).offset + ((geoCam p i).last - (geoCam p i).first) < (geoCam p j).offset := by
  rw [ascending_iff_pairwise (by simp [CamSettings.lastCol]), List.pairwise_map, geoEnabled, List.pairwise_filter,
    List.finRange, List.pairwise_ofFn]
  rfl

theorem camWindowOk_iff {t : Vector WinEntry 16} {i : Fin 8} {c : CamSettings} : camWindowOk t i c = true ↔
    ∃ j : Fin 16, (t[j].enable = true ∧ t[j].kind = .capture ∧ t[j].camera = i.val)
      ∧ (∀ k : Fin 16, k < j → ¬ (t[k].enable = true ∧ t[k].kind = .capture ∧ t[k].camera = i.val))
      ∧ c.slots * c.stride ≤ (~~~ t[j].mask).toNat + 1 := by
  have hWindow (e : WinEntry) : (e.isCapture && e.camera == i.val) = true ↔
      e.enable = true ∧ e.kind = .capture ∧ e.camera = i.val := by
    simp [WinEntry.isCapture, and_assoc]
  have hFind (e : WinEntry) : t.toList.find? (fun e => e.isCapture && e.camera == i.val) = some e ↔
      ∃ j : Fin 16, t[j] = e ∧ (e.enable = true ∧ e.kind = .capture ∧ e.camera = i.val)
        ∧ ∀ k : Fin 16, k < j → ¬ (t[k].enable = true ∧ t[k].kind = .capture ∧ t[k].camera = i.val) := by
    rw [List.find?_eq_some_iff_getElem, hWindow]
    constructor
    · rintro ⟨hWin, n, hn, hAt, hBefore⟩
      refine ⟨⟨n, by simpa using hn⟩, by simpa using hAt, hWin, fun k hk hSame => ?_⟩
      have hNot := hBefore k.val hk
      rw [(hWindow _).2 (by simpa using hSame)] at hNot
      exact absurd hNot (by decide)
    · rintro ⟨j, hAt, hWin, hBefore⟩
      refine ⟨hWin, j.val, by simp, by simpa using hAt, fun k hk => ?_⟩
      rw [Bool.not_eq_true', ← Bool.not_eq_true]
      exact mt (hWindow _).1 (hBefore ⟨k, hk.trans j.isLt⟩ hk)
  unfold camWindowOk
  split
  next e hSome =>
    obtain ⟨j, rfl, hWin, hBefore⟩ := (hFind e).1 hSome
    refine decide_eq_true_iff.trans ⟨fun hFits => ⟨j, hWin, hBefore, hFits⟩, fun ⟨k, hWin', hBefore', hFits⟩ => ?_⟩
    have hSame : j = k := by
      by_contra hNe
      rcases lt_or_gt_of_ne hNe with hlt | hgt
      · exact hBefore' j hlt hWin
      · exact hBefore k hgt hWin'
    exact hSame ▸ hFits
  next hNone =>
    refine ⟨nofun, fun ⟨j, hWin, _⟩ => ?_⟩
    have hNot := List.find?_eq_none.1 hNone t[j] (by simp)
    exact absurd ((hWindow _).2 hWin) hNot

theorem CamSettings.ok_iff {c : CamSettings} : c.ok = true ↔
    512 ≤ c.width ∧ c.width ≤ 4096 ∧ c.width % 64 = 0 ∧ c.first ≤ c.last ∧ c.last < c.width
      ∧ c.offset + (c.last - c.first) ≤ 32767 ∧ 4 ≤ c.slots ∧ c.slots ≤ 256 ∧ c.stride % 64 = 0 ∧ c.width ≤ c.stride := by
  simp only [CamSettings.ok, Bool.and_eq_true, within_iff, decide_eq_true_eq, and_assoc, Nat.succ_le_iff]

theorem geoCam_eq (p : List Byte) (i : Fin 8) :
    geoCam p i = { enable := decide (byteAt p (0x08 + 16 * i.val) = 1), width := field p (0x08 + 16 * i.val + 2) 2,
                   first := field p (0x08 + 16 * i.val + 4) 2, last := field p (0x08 + 16 * i.val + 6) 2,
                   offset := field p (0x08 + 16 * i.val + 8) 2, slots := field p (0x08 + 16 * i.val + 10) 2,
                   stride := field p (0x08 + 16 * i.val + 12) 4 } := by
  simp only [geoCam, Nat.mul_comm i.val 16]

section
variable (t : Vector WinEntry 16) (p : List Byte)

/-- The checks of GEOMETRY that answer RANGE. -/
def geoRangeChecks : List (Bool × ResultCode) :=
  let on := geoEnabled p
  [(within 1 100 (geoE p) && geoDirection p ≤ 1 && within 1 1024 (geoDv p) && 1 ≤ geoStallTens p
      && within 20 2000 (geoE p * geoDv p), .range),
   (within 20 400 (geoPp p), .range),
   ((List.finRange 8).all (fun i => byteAt p (0x08 + i.val * 16) ≤ 1 && (geoCam p i).ok), .range),
   (!on.isEmpty, .range),
   (on.all (fun i => camWindowOk t i (geoCam p i)), .range)]

theorem geoCheck_eq : geoCheck t p = firstFailure (geoRangeChecks t p ++
    [(ascending ((geoEnabled p).map (fun i => ((geoCam p i).offset, (geoCam p i).lastCol))), .conflict)]) := rfl

theorem geoNumbers_ok : (within 1 100 (geoE p) && geoDirection p ≤ 1 && within 1 1024 (geoDv p) && 1 ≤ geoStallTens p
      && within 20 2000 (geoE p * geoDv p)) = true ↔
    1 ≤ byteAt p 0 ∧ byteAt p 0 ≤ 100 ∧ byteAt p 1 ≤ 1 ∧ 1 ≤ field p 2 2 ∧ field p 2 2 ≤ 1024 ∧ 1 ≤ byteAt p 4
      ∧ 20 ≤ byteAt p 0 * field p 2 2 ∧ byteAt p 0 * field p 2 2 ≤ 2000 := by
  simp only [Bool.and_eq_true, within_iff, decide_eq_true_eq, and_assoc]
  rfl

theorem geoCams_ok : (List.finRange 8).all (fun i => byteAt p (0x08 + i.val * 16) ≤ 1 && (geoCam p i).ok) = true ↔
    ∀ i : Fin 8, byteAt p (8 + 16 * i) ≤ 1 ∧ 512 ≤ (geoCam p i).width ∧ (geoCam p i).width ≤ 4096
      ∧ (geoCam p i).width % 64 = 0 ∧ (geoCam p i).first ≤ (geoCam p i).last ∧ (geoCam p i).last < (geoCam p i).width
      ∧ (geoCam p i).offset + ((geoCam p i).last - (geoCam p i).first) ≤ 32767
      ∧ 4 ≤ (geoCam p i).slots ∧ (geoCam p i).slots ≤ 256 ∧ (geoCam p i).stride % 64 = 0
      ∧ (geoCam p i).width ≤ (geoCam p i).stride := by
  simp only [List.all_eq_true, List.mem_finRange, forall_const, Bool.and_eq_true, decide_eq_true_eq, CamSettings.ok_iff,
    Nat.mul_comm _ 16]

theorem mem_geoEnabled {i : Fin 8} : i ∈ geoEnabled p ↔ (geoCam p i).enable = true := by
  simp [geoEnabled]

theorem geoEnabled_some : (!(geoEnabled p).isEmpty) = true ↔ ∃ i : Fin 8, (geoCam p i).enable = true := by
  rw [Bool.not_eq_true', List.isEmpty_eq_false_iff_exists_mem]
  exact exists_congr fun i => mem_geoEnabled p

theorem geoWindows_ok : (geoEnabled p).all (fun i => camWindowOk t i (geoCam p i)) = true ↔
    ∀ i : Fin 8, (geoCam p i).enable = true →
      ∃ j : Fin 16, (t[j].enable = true ∧ t[j].kind = .capture ∧ t[j].camera = i.val)
        ∧ (∀ k : Fin 16, k < j → ¬ (t[k].enable = true ∧ t[k].kind = .capture ∧ t[k].camera = i.val))
        ∧ (geoCam p i).slots * (geoCam p i).stride ≤ (~~~ t[j].mask).toNat + 1 := by
  simp only [List.all_eq_true, mem_geoEnabled, camWindowOk_iff]

end

theorem geoRangeChecks_iff (t : Vector WinEntry 16) (p : List Byte) : (∀ x ∈ geoRangeChecks t p, x.1 = true) ↔
    1 ≤ byteAt p 0 ∧ byteAt p 0 ≤ 100 ∧ byteAt p 1 ≤ 1 ∧ 1 ≤ field p 2 2 ∧ field p 2 2 ≤ 1024 ∧ 1 ≤ byteAt p 4
      ∧ 20 ≤ byteAt p 0 * field p 2 2 ∧ byteAt p 0 * field p 2 2 ≤ 2000 ∧ 20 ≤ field p 6 2 ∧ field p 6 2 ≤ 400
      ∧ (∀ i : Fin 8, byteAt p (8 + 16 * i) ≤ 1 ∧ 512 ≤ (geoCam p i).width ∧ (geoCam p i).width ≤ 4096
          ∧ (geoCam p i).width % 64 = 0 ∧ (geoCam p i).first ≤ (geoCam p i).last ∧ (geoCam p i).last < (geoCam p i).width
          ∧ (geoCam p i).offset + ((geoCam p i).last - (geoCam p i).first) ≤ 32767
          ∧ 4 ≤ (geoCam p i).slots ∧ (geoCam p i).slots ≤ 256 ∧ (geoCam p i).stride % 64 = 0
          ∧ (geoCam p i).width ≤ (geoCam p i).stride)
      ∧ (∃ i : Fin 8, (geoCam p i).enable = true)
      ∧ ∀ i : Fin 8, (geoCam p i).enable = true →
          ∃ j : Fin 16, (t[j].enable = true ∧ t[j].kind = .capture ∧ t[j].camera = i.val)
            ∧ (∀ k : Fin 16, k < j → ¬ (t[k].enable = true ∧ t[k].kind = .capture ∧ t[k].camera = i.val))
            ∧ (geoCam p i).slots * (geoCam p i).stride ≤ (~~~ t[j].mask).toNat + 1 := by
  have hPp : within 20 400 (geoPp p) = true ↔ 20 ≤ field p 6 2 ∧ field p 6 2 ≤ 400 := within_iff
  simp only [geoRangeChecks, List.forall_mem_cons, geoNumbers_ok, hPp, geoCams_ok, geoEnabled_some, geoWindows_ok,
    List.not_mem_nil, false_imp_iff, implies_true, and_true, and_assoc]

/-! ## GEOMETRY taken -/

section
variable (p : List Byte)

/-- The Ingest Unit starts a new capture geometry: nothing is captured, and no line is open. -/
def Ingest.anew (cols : Cols) (g : Ingest) : Prop :=
  (g.captures = 0 ∧ g.pulses = [] ∧ g.pp = field p 6 2 ∧ g.holdLimit = (if byteAt p 5 = 0 then 20 else byteAt p 5)
    ∧ g.cols = cols)
  ∧ ∀ i : Fin 8, g.cams[i].cfg = geoCam p i ∧ g.cams[i].expected = 0 ∧ g.cams[i].bufA = .free
      ∧ g.cams[i].bufB = .free ∧ g.cams[i].openLine = none
      ∧ g.cams[i].floodMark = false ∧ g.cams[i].startCapture = 0
      ∧ g.cams[i].learn = (if (geoCam p i).enable then .start else .none)

variable {p} {cols : Cols} {s : State}

theorem Ingest.anew_newGeometry (s : State) :
    (s.newGeometry (geoCams p) (geoPp p) (geoHold p)).ing.anew p s.ing.cols := by
  refine ⟨⟨rfl, rfl, rfl, rfl, rfl⟩, fun i => ?_⟩
  simp [State.newGeometry, State.modIng, geoCams]

theorem Ingest.anew.camCount {c : Fin 8} {f : CamCounters → CamCounters} (h : s.ing.anew p cols) :
    (s.camCount c f).ing.anew p cols := by
  refine ⟨h.1, fun i => ?_⟩
  by_cases hi : c = i
  · subst hi
    have hCam : (s.camCount c f).ing.cams[c] = { s.ing.cams[c] with counters := f s.ing.cams[c].counters } :=
      upd_getElem_self _ _ _
    rw [hCam]
    exact h.2 c
  · have hCam : (s.camCount c f).ing.cams[i] = s.ing.cams[i] := upd_getElem_of_ne _ _ hi
    rw [hCam]
    exact h.2 i

theorem Ingest.anew.captureOrder (h : s.ing.anew p cols) {cam : Fin 8} {off : Nat} {cause : OrderCause} :
    (s.captureOrder cam off cause).ing.anew p cols :=
  ((Works.refl s).raise (k := .captureOrder)).ing.symm ▸ h

variable (p cols) in
/-- An offered write is passed on untapped, under a geometry that is new. -/
def State.passesOn (s : State) (x : State × OfferAnswer) : Prop :=
  x.2 = .pass ∧ Steady s x.1 ∧ x.1.ing.anew p cols

theorem State.offerNew_anew (h : s.ing.anew p cols) (cam : Fin 8) (off slot : Nat) (px : List (Nat × Byte)) :
    s.passesOn p cols (s.offerNew cam off slot px) := by
  unfold State.offerNew
  dsimp only
  split
  · exact ⟨rfl, (Steady.refl s).camCount.captureOrder, h.camCount.captureOrder⟩
  · rw [if_pos (by rw [h.1.1]; exact Nat.zero_le _)]
    exact ⟨rfl, (Steady.refl s).camCount.captureOrder, h.camCount.captureOrder⟩

/-- Where nothing is captured, an offered write is passed on: it starts no line and is not held. -/
theorem State.offer_anew (h : s.ing.anew p cols) (cam : Fin 8) (off : Nat) (bytes : List (Option Byte)) :
    s.passesOn p cols (s.offer cam off bytes) := by
  obtain ⟨-, -, -, -, hOpen, -⟩ := h.2 cam
  have hStands : s.passesOn p cols (s, .pass) := ⟨rfl, Steady.refl s, h⟩
  have hCounts (f : CamCounters → CamCounters) : s.passesOn p cols (s.camCount cam f, .pass) :=
    ⟨rfl, (Steady.refl s).camCount, h.camCount⟩
  unfold State.offer
  dsimp only
  rw [hOpen]
  split
  · exact hCounts _
  · split
    · split
      · exact hCounts _
      · split
        · exact ⟨rfl, (Steady.refl s).camCount.captureOrder, h.camCount.captureOrder⟩
        · split
          · exact hStands
          · rw [if_neg (by simp)]
            split
            · exact hStands
            · exact State.offerNew_anew h ..
    · exact hStands

/-- Forwarding a write changes neither the Ingest Unit nor the Command Processor. -/
theorem State.forwardPosted_blocks (w : QueuedWrite) (s : State) :
    (s.forwardPosted w).ing = s.ing ∧ (s.forwardPosted w).cp = s.cp := by
  unfold State.forwardPosted
  rw [State.forwardHead_eq, State.observeAll_frame]
  exact ⟨rfl, rfl⟩

theorem State.reoffer_anew (h : s.ing.anew p cols) : s.reoffer.ing.anew p cols ∧ s.reoffer.cp = s.cp := by
  unfold State.reoffer
  split
  next w _ =>
    unfold State.guarded
    split
    next r _ =>
      rw [State.refuseGuarded_eq]
      exact ⟨(Works.refl _).raise.ing.symm ▸ h, (Works.refl _).raise.cp⟩
    next =>
      obtain ⟨hPass, hSteady, hAnew⟩ := State.offer_anew h w.cls.cam w.cls.offset w.burst.bytes
      have hWrite : s.offerWrite w = ((s.offer w.cls.cam w.cls.offset w.burst.bytes).1.forwardPosted w).count (fun c =>
          { c with untapped := inc32 c.untapped }) := by
        unfold State.offerWrite
        rw [show s.offer w.cls.cam w.cls.offset w.burst.bytes = (_, .pass) from Prod.ext rfl hPass]
      obtain ⟨hIng, hCp⟩ := State.forwardPosted_blocks w (s.offer w.cls.cam w.cls.offset w.burst.bytes).1
      rw [hWrite]
      exact ⟨hIng.symm ▸ hAnew, hCp.trans hSteady.cp⟩
  next => exact ⟨h, rfl⟩

variable (p s) in
theorem State.takeGeometry_blocks :
    (s.takeGeometry p).ing.anew p s.ing.cols ∧ (s.takeGeometry p).cp = { s.cp with binding := .ready } := by
  unfold State.takeGeometry
  dsimp only
  have hCols : ((s.flushIngest).modPos (Position.geometry p (decide (s.cp.binding = .bound)))).ing.cols = s.ing.cols :=
    congrArg Outer.cols (State.flushIngest_outer s)
  have hCp := (Steady.refl s).flushIngest.modPos (f := Position.geometry p (decide (s.cp.binding = .bound)))
    |>.newGeometry (cfgs := geoCams p) (pp := geoPp p) (holdLimit := geoHold p) |>.cp
  have hAnew := Ingest.anew_newGeometry (p := p) ((s.flushIngest).modPos (Position.geometry p (decide (s.cp.binding = .bound))))
  rw [hCols] at hAnew
  obtain ⟨hIng, hSame⟩ := State.reoffer_anew
    (s := (((s.flushIngest).modPos (Position.geometry p (decide (s.cp.binding = .bound)))).newGeometry (geoCams p)
      (geoPp p) (geoHold p)).modCp (fun c => { c with binding := .ready })) hAnew
  refine ⟨hIng, hSame.trans ?_⟩
  rw [State.modCp_cp, hCp]

end

theorem State.geometryAccepted_iff {s : State} : s.geometryAccepted = true ↔ s.cp.binding = .bound ∨
    s.cp.binding = .ready ∧ (∀ i : Fin 2, s.plan.slots[i] = .none) ∧ s.plan.orders = [] := by
  have hNone (x : CampSlot) : x.isNone = true ↔ x = .none := by cases x <;> simp [CampSlot.isNone]
  have hSlots : s.plan.slots.toList.all CampSlot.isNone = true ↔ ∀ i : Fin 2, s.plan.slots[i] = .none := by
    simp [hNone, Fin.forall_iff]
  unfold State.geometryAccepted
  cases s.cp.binding with
  | unbound => simp
  | bound => simp
  | ready =>
    rw [Bool.and_eq_true, hSlots, List.isEmpty_iff]
    simp

/-- Settles O24. -/
theorem geometryStartsCounting : Obligations.GeometryStartsCounting := by
  refine ⟨fun p s hGiven => ⟨fun hReady hBusy => ?_, fun hAccepted => ⟨fun code hFails => ?_, fun hOk => ?_⟩⟩, fun t p => ?_⟩
  · refine State.command_acts hGiven (if_neg fun hAccepted => ?_)
    rcases State.geometryAccepted_iff.1 hAccepted with hBound | ⟨-, hFree, hEmpty⟩
    · rw [hReady] at hBound
      cases hBound
    · rcases hBusy with ⟨i, hSlot⟩ | hOrders
      · exact hSlot (hFree i)
      · exact hOrders hEmpty
  · exact State.command_acts hGiven
      ((if_pos (State.geometryAccepted_iff.2 hAccepted)).trans (State.unlessFails_some hFails _))
  · obtain ⟨c, hDispatched⟩ := State.given_dispatched hGiven
    obtain ⟨⟨hUnit, hCams⟩, hCp⟩ := State.takeGeometry_blocks p s
    have hFrame := State.finish_frame .ok false (s.takeGeometry p)
    have hAnswer := State.finish_answered (s := s.takeGeometry p) (c := c) (by rw [hCp]; exact hDispatched) .ok false
    have hBinding : ((s.takeGeometry p).finish .ok false).cp.binding = .ready := by
      rw [State.finish_cp (s := s.takeGeometry p) (c := c) (by rw [hCp]; exact hDispatched), hCp]
      rfl
    have hPos : ((s.takeGeometry p).finish .ok false).pos = s.pos.geometry p (s.cp.binding = .bound) := by
      rw [hFrame]
      exact State.takeGeometry_pos p s
    have hIng : ((s.takeGeometry p).finish .ok false).ing = (s.takeGeometry p).ing := by
      rw [hFrame]
    obtain ⟨hCaptures, hPulses, hPp, hHold, hCols⟩ := hUnit
    refine ⟨_, State.command_acts hGiven
      ((if_pos (State.geometryAccepted_iff.2 hAccepted)).trans (State.unlessFails_none hOk _)), ?_, hBinding, ?_, ?_⟩
    · rwa [State.answeredWith, hCp] at hAnswer
    · rw [hPos]
      simp only [Position.geometry, decide_eq_true_eq]
      rfl
    · rw [hIng]
      exact ⟨hCaptures, hPulses, hPp, hHold, hCols, hCams⟩
  · rw [geoCheck_eq]
    obtain ⟨hRange, hConflict, hNone⟩ := firstFailure_phases (c := .range) (d := .conflict)
      (m := [(ascending ((geoEnabled p).map (fun i => ((geoCam p i).offset, (geoCam p i).lastCol))), .conflict)])
      (by simp [geoRangeChecks]) (by simp) (geoRangeChecks_iff t p) (List.forall_mem_singleton.trans geoRanges_ascend)
    exact ⟨hRange, hConflict, hNone, geoCam_eq p⟩

end Sys2Proof.Machine
end
section
/-! PROOFS. The parameter commands (R60, R74, R141, R162, R188, R189). -/

set_option Elab.async false

namespace Sys2Proof.Machine

/-! ## Fields of a payload -/

theorem leNat_lt (l : List Byte) : leNat l < 256 ^ l.length := by
  induction l with
  | nil => simp [leNat]
  | cons b bs ih =>
    have hb := b.isLt
    rw [leNat, List.length_cons, Nat.pow_succ]
    omega

theorem field_lt (p : List Byte) (off size : Nat) : field p off size < 256 ^ size :=
  (leNat_lt _).trans_le (Nat.pow_le_pow_right (by decide) (List.length_take_le ..))

theorem byteAt_lt (p : List Byte) (off : Nat) : byteAt p off < 256 := field_lt p off 1

/-! ## Commands with one check -/

theorem State.unlessFails_orRange {s : State} {ok : Bool} (take : State → State) :
    s.unlessFails (orRange ok) take = if ok then (take s).finish .ok false else s.finish .range false := by
  cases ok <;> rfl

/-- Distinct payload numbers ascend. -/
theorem rising_iff_pairwise {l : List Nat} : rising l = true ↔ l.Pairwise (· < ·) := by
  induction l with
  | nil => simp [rising]
  | cons a rest ih =>
    cases rest with
    | nil => simp [rising]
    | cons b rest =>
      rw [rising, Bool.and_eq_true, decide_eq_true_eq, ih, List.pairwise_cons (a := a), List.forall_mem_cons]
      refine ⟨fun ⟨hab, hPairs⟩ => ⟨⟨hab, fun c hc => ?_⟩, hPairs⟩, fun ⟨⟨hab, _⟩, hPairs⟩ => ⟨hab, hPairs⟩⟩
      exact hab.trans ((List.pairwise_cons.1 hPairs).1 c hc)

/-! ## DETECT -/

theorem Ingest.rangeOk_iff {g : Ingest} {r : Option (Nat × Nat)} : g.rangeOk r = true ↔
    ∀ x, r = some x → x.1 ≤ x.2 ∧ ∃ i : Fin 8, g.cams[i].cfg.enable = true ∧ g.cams[i].cfg.offset ≤ x.1
      ∧ x.2 ≤ g.cams[i].cfg.offset + (g.cams[i].cfg.last - g.cams[i].cfg.first) := by
  cases r with
  | none => simp [Ingest.rangeOk]
  | some x =>
    simp only [Ingest.rangeOk, Ingest.sideCamera, Bool.and_eq_true, decide_eq_true_eq, List.find?_isSome, Option.some.injEq,
      forall_eq', Ingest.enabled, List.mem_filter, List.mem_finRange, true_and, CamSettings.holds]
    refine and_congr_right fun _ => exists_congr fun i => ?_
    rw [and_assoc, ← and_assoc, and_self]
    rfl

theorem Detect.apart_iff {d : Detect} : (match d.left, d.right with
      | some l, some r => decide (l.2 < r.1)
      | _, _ => true) = true ↔ ∀ x y, d.left = some x → d.right = some y → x.2 < y.1 := by
  cases d.left <;> cases d.right <;> simp

theorem Detect.ok_iff {d : Detect} {g : Ingest} : d.ok g = true ↔
    16 ≤ d.learnLines ∧ d.learnLines ≤ 1024 ∧ 1 ≤ d.alpha ∧ d.alpha ≤ 10 ∧ 1 ≤ d.beta ∧ d.beta ≤ 10 ∧ 16 ≤ d.k
      ∧ 1 ≤ d.tmin ∧ d.tmin ≤ 64 ∧ d.initNoise ≤ 65280 ∧ 1 ≤ d.floodFraction ∧ d.gc ≤ 7 ∧ 1 ≤ d.lg ∧ d.lg ≤ 15
      ∧ 64 ≤ d.lmax ∧ d.lmax ≤ 4096 ∧ g.rangeOk d.left = true ∧ g.rangeOk d.right = true
      ∧ ∀ x y, d.left = some x → d.right = some y → x.2 < y.1 := by
  rw [← Detect.apart_iff]
  unfold Detect.ok
  simp only [Bool.and_eq_true, within_iff, decide_eq_true_eq, and_assoc] <;> rfl

/-! ## CLASSIFY, GRADE_TABLE and SHIFT_PLAN -/

theorem ClassParams.ok_iff {c : ClassParams} : c.ok = true ↔
    100 ≤ c.large ∧ c.large ≤ 1000000 ∧ 17 ≤ c.scratch ∧ 1 ≤ c.stone ∧ 1 ≤ c.bounds[0]
      ∧ ∀ i j : Fin 7, i < j → c.bounds[i] < c.bounds[j] := by
  have hRising : rising c.bounds.toList = true ↔ ∀ i j : Fin 7, i < j → c.bounds[i] < c.bounds[j] := by
    rw [rising_iff_pairwise, List.pairwise_iff_getElem]
    exact ⟨fun h i j hij => by simpa using h i.val j.val (by simp) (by simp) hij,
      fun h i j hi hj hij => by simpa using h ⟨i, by simpa using hi⟩ ⟨j, by simpa using hj⟩ hij⟩
  simp only [ClassParams.ok, Bool.and_eq_true, within_iff, decide_eq_true_eq, and_assoc, hRising]

theorem GradeTable.check_eq (t : GradeTable) : t.check =
    if t.edgeFactor ≤ 4 ∧ t.ta ≤ t.tb ∧ t.tb ≤ t.tc then none else some .range := by
  split
  next h => exact firstFailure_iff.2 (by simpa using h)
  next h => exact firstFailure_same (by simp) (by simpa using h)

theorem planOf_getElem? {p : List Byte} {j : Nat} (h : j < 4) (hCount : j < byteAt p 0) :
    (planOf p)[j]? = some (field p (4 + 4 * j) 4) := by
  rw [planOf, List.getElem?_map, List.getElem?_range (by omega)]
  rfl

theorem planOk_iff {p : List Byte} : planOk p = true ↔ byteAt p 0 ≤ 4
    ∧ (∀ j, j < byteAt p 0 → field p (4 + 4 * j) 4 ≤ 86399)
    ∧ ∀ j k, j < k → k < byteAt p 0 → field p (4 + 4 * j) 4 < field p (4 + 4 * k) 4 := by
  unfold planOk
  rw [Bool.and_eq_true, Bool.and_eq_true, decide_eq_true_eq, and_assoc, rising_iff_pairwise]
  refine and_congr_right fun hFew => ?_
  have hCount : min 4 (byteAt p 0) = byteAt p 0 := min_eq_right hFew
  rw [planOf, hCount]
  refine and_congr ?_ ?_
  · simp [List.all_eq_true]
  · rw [List.pairwise_map, List.pairwise_iff_getElem]
    simp only [List.length_range, List.getElem_range]
    exact ⟨fun h j k hjk hk => h j k (hjk.trans hk) hk hjk, fun h j k _ hk hjk => h j k hjk hk⟩

/-! ## EVENT_SETUP -/

theorem getLsbD_kindMask (p : List Byte) (i : Nat) (k : Fin 32) : (kindMask p i).getLsbD k = (byteAt p k).testBit i := by
  have hFold (l : List (Fin 32)) (m : BitVec 32) :
      (l.foldl (fun m k => if bit (byteAt p k.val) i then m ||| (1#32 <<< k.val) else m) m).getLsbD k =
        (m.getLsbD k || (decide (k ∈ l) && (byteAt p k).testBit i)) := by
    induction l generalizing m with
    | nil => simp
    | cons j js ih =>
      have hOne : (1#32 <<< j.val).getLsbD k.val = decide (k = j) := by
        rw [BitVec.getLsbD_shiftLeft, BitVec.getLsbD_one]
        have hk := k.isLt
        by_cases hkj : k = j
        · simp [hkj]
        · have hNe : k.val ≠ j.val := fun h => hkj (Fin.ext h)
          simp only [hk, decide_true, Bool.true_and, hkj, decide_false, Bool.and_eq_false_iff,
            decide_eq_false_iff_not, Bool.not_eq_false', decide_eq_true_eq]
          omega
      rw [List.foldl_cons, ih]
      by_cases hkj : k = j
      · subst hkj
        cases hBit : (byteAt p k).testBit i <;> simp [bit, hBit]
      · have hOther : (m ||| 1#32 <<< j.val).getLsbD k.val = m.getLsbD k.val := by
          rw [BitVec.getLsbD_or, hOne, decide_eq_false hkj, Bool.or_false]
        split
        · simp only [hOther, List.mem_cons, or_iff_right hkj]
        · simp only [List.mem_cons, or_iff_right hkj]
  rw [kindMask, hFold]
  simp

theorem modesOk_iff {p : List Byte} : modesOk p = true ↔ ∀ i : Fin 4, byteAt p (0x20 + i) ≤ 1 := by
  rw [modesOk, List.all_eq_true]
  exact ⟨fun h i => of_decide_eq_true (h i (List.mem_finRange i)), fun h i _ => decide_eq_true (h i)⟩

/-- The Event Unit as EVENT_SETUP gives it, before the gaps follow. -/
def Events.given (p : List Byte) (e : Events) : Events :=
  { e with enable := kindMask p 0, log := kindMask p 1, routes := Vector.ofFn (kindRoute p),
           pulsed := Vector.ofFn (fun i => lineMode p i = 1) }

theorem Events.given_bits (p : List Byte) (e : Events) (k : Fin 32) :
    (e.given p).enable.getLsbD k = (byteAt p k).testBit 0 ∧ (e.given p).log.getLsbD k = (byteAt p k).testBit 1
      ∧ ((e.given p).routes[k]).val = byteAt p k / 4 % 4 :=
  ⟨getLsbD_kindMask p 0 k, getLsbD_kindMask p 1 k, by simp [Events.given, kindRoute]⟩

/-- Settles O25. -/
theorem parameterCommandsTakeEffect : Obligations.ParameterCommandsTakeEffect := by
  refine ⟨fun p s hReady => ⟨fun hGiven => ?detect, fun hGiven => ?classify, fun hGiven => ?grade⟩,
    fun p s hBound => ⟨fun hGiven => ?plan, fun hGiven => ?ack, fun hGiven => ⟨fun hBad => ?bad, fun hGood => ?setup⟩⟩,
    fun d g => ?detectOk, fun c => ClassParams.ok_iff, fun p => planOk_iff, fun p => ?payloads⟩
  case detect =>
    exact State.command_acts hGiven ((State.readyOnly_takes hReady _).trans (State.unlessFails_orRange _))
  case classify =>
    exact State.command_acts hGiven ((State.readyOnly_takes hReady _).trans (State.unlessFails_orRange _))
  case grade =>
    refine State.command_acts hGiven ((State.readyOnly_takes hReady _).trans ?_)
    rw [GradeTable.check_eq]
    split <;> rfl
  case plan =>
    exact State.command_acts hGiven ((State.boundOrReady_takes hBound _).trans (State.unlessFails_orRange _))
  case ack => exact State.command_acts hGiven (State.boundOrReady_takes hBound _)
  case bad =>
    refine State.command_acts hGiven ((State.boundOrReady_takes hBound _).trans ((State.unlessFails_orRange _).trans ?_))
    obtain ⟨i, hi⟩ := hBad
    exact if_neg fun hOk => absurd (modesOk_iff.1 hOk i) (not_le.2 hi)
  case setup =>
    refine ⟨s.ev.given p, State.command_acts hGiven ((State.boundOrReady_takes hBound _).trans
      ((State.unlessFails_orRange _).trans (if_pos (modesOk_iff.2 hGood)))), rfl, rfl, rfl, rfl,
      Events.given_bits p s.ev, fun i => ?_⟩
    simp only [Events.given, Fin.getElem_fin, Vector.getElem_ofFn]
    rfl
  case detectOk =>
    intro within
    rw [Detect.ok_iff, Ingest.rangeOk_iff, Ingest.rangeOk_iff]
  case payloads =>
    intro c g range
    refine ⟨rfl, rfl, rfl, rfl, fun i => ?_, fun i => ?_, ?_, rfl, rfl, rfl, rfl, ?_, fun j hj hCount => planOf_getElem? hj hCount⟩
    · simp [c, classifyOf]
    · simp [g, gradeTableOf]
    · exact Nat.mod_eq_of_lt (field_lt p 0x28 5)
    · simp [planOf]

end Sys2Proof.Machine
end
section
/-! PROOFS. Clock, shifts, gantry, link and terminals (R8, R15, R16, R18, R121, R163 to R170). -/

set_option Elab.async false

namespace Sys2Proof.Machine

/-! ## Shift closes -/

/-- A report placed: into an empty slot, or merged into the one that waits (R169). -/
def Tally.placed (r : Report) (t : Tally) : Tally :=
  match t.slot with
  | .empty => { t with slot := .waiting r }
  | .waiting w => { t with slot := .waiting (w.merge r), merged := inc32 t.merged }
  | .inFlight _ _ => t

/-- The tallies start again after a close (R166). -/
def Tally.restarted (p : Position) (t : Tally) : Tally :=
  { t with
    live := .zero, shift := nextNumber t.shift,
    start := { day := p.day, tod := p.tod, line := p.line, clockSet := false, saturated := false }, closed := inc32 t.closed }

section
variable {s : State} {cause : CloseCause}

theorem Tally.placed_empty {t : Tally} (h : t.slot = .empty) (r : Report) : t.placed r = { t with slot := .waiting r } := by
  unfold Tally.placed
  rw [h]

theorem Tally.placed_waiting {t : Tally} {w : Report} (h : t.slot = .waiting w) (r : Report) :
    t.placed r = { t with slot := .waiting (w.merge r), merged := inc32 t.merged } := by
  unfold Tally.placed
  rw [h]

theorem Tally.placed_inFlight {t : Tally} {p : Report} {x : ReportFate} (h : t.slot = .inFlight p x) (r : Report) :
    t.placed r = t := by
  unfold Tally.placed
  rw [h]

theorem State.placeReport_tally (r : Report) (s : State) : (s.placeReport r).tally = s.tally.placed r := by
  cases h : s.tally.slot with
  | empty =>
    rw [Tally.placed_empty h, State.placeReport, h]
    rfl
  | waiting w =>
    rw [Tally.placed_waiting h, State.placeReport, h]
    dsimp only
    rw [State.raise_frame]
    rfl
  | inFlight p x => rw [Tally.placed_inFlight h, State.placeReport, h]

theorem State.performClose_tally (cause : CloseCause) (s : State) :
    (s.performClose cause).tally = (s.tally.placed (s.buildReport cause)).restarted s.pos := by
  unfold State.performClose
  rw [State.raise_frame]
  change Tally.restarted s.pos (s.placeReport (s.buildReport cause)).tally = _
  rw [State.placeReport_tally]

theorem State.performClose_raises (cause : CloseCause) (s : State) :
    (s.performClose cause).ev.pending.getLsbD 27 = true := State.raise_sets .shiftClosed _ _ _

theorem State.closeShift_deferred (h : s.tally.reportInFlight = true) (cause : CloseCause) : s.closeShift cause =
    { s with tally := { s.tally with deferred := some (s.tally.deferred.getD cause) } } := if_pos h

theorem State.closeShift_performed (h : s.tally.reportInFlight = false) (cause : CloseCause) :
    s.closeShift cause = s.performClose cause := if_neg (by simp [h])

theorem Tally.placed_shift (r : Report) (t : Tally) :
    (t.placed r).shift = t.shift ∧ (t.placed r).closed = t.closed ∧ (t.placed r).plan = t.plan := by
  unfold Tally.placed
  split <;> exact ⟨rfl, rfl, rfl⟩

theorem State.closeShift_plan (cause : CloseCause) (s : State) : (s.closeShift cause).tally.plan = s.tally.plan := by
  cases h : s.tally.reportInFlight with
  | true => rw [State.closeShift_deferred h]
  | false =>
    rw [State.closeShift_performed h, State.performClose_tally]
    exact (Tally.placed_shift _ _).2.2

theorem State.closeShift_shift (h : s.tally.reportInFlight = false) (cause : CloseCause) :
    (s.closeShift cause).tally.shift = nextNumber s.tally.shift := by
  rw [State.closeShift_performed h, State.performClose_tally]
  exact congrArg nextNumber (Tally.placed_shift _ _).1

theorem State.boundaryTest_none (h : ∀ b ∈ s.tally.plan, b * 1000 ≠ s.pos.tod) : s.boundaryTest = s :=
  if_neg (by simpa using h)

theorem State.boundaryTest_some (h : ∃ b ∈ s.tally.plan, b * 1000 = s.pos.tod) : s.boundaryTest = s.closeShift .boundary :=
  if_pos (by simpa using h)

/-- A report merged into the one that waits raises REPORT_MERGED. -/
theorem State.performClose_merged {w : Report} (h : s.tally.slot = .waiting w) (cause : CloseCause) :
    (s.performClose cause).ev.pending.getLsbD 28 = true := by
  have hPlaced : (s.placeReport (s.buildReport cause)).ev.pending.getLsbD 28 = true := by
    unfold State.placeReport
    rw [h]
    exact State.raise_sets .reportMerged _ _ _
  exact (((Steady.refl _).modTally).raise).flags 28 hPlaced

end

theorem mergeCounts_get {n : Nat} (a b : Vector Nat n) (i : Fin n) : (mergeCounts a b)[i] = tallyAdd a[i] b[i] := by
  simp [mergeCounts]

/-- The clock set (R18). -/
def State.clockMoved (day tod : Nat) (s : State) : State :=
  s.modPos (fun p => { p with day := BitVec.ofNat 16 day, tod := tod, ticks := 0 })

theorem State.setClock_eq (day tod : Nat) (s : State) : s.setClock day tod =
    (if later s.pos.day.toNat s.pos.tod day tod && boundaryBetween s.tally.plan s.pos.day.toNat s.pos.tod day tod then
      (s.clockMoved day tod).closeShift .clock
    else s.clockMoved day tod).modTally (fun t => { t with start := { t.start with clockSet := true } }) := rfl

/-- SET_TIME taken: the tally after it. -/
theorem State.setClock_tally (day tod : Nat) (s : State) :
    (s.setClock day tod).tally.start.clockSet = true ∧ (s.setClock day tod).tally.plan = s.tally.plan
      ∧ (s.tally.reportInFlight = false → (s.setClock day tod).tally.shift =
          if later s.pos.day.toNat s.pos.tod day tod ∧ boundaryBetween s.tally.plan s.pos.day.toNat s.pos.tod day tod
          then nextNumber s.tally.shift else s.tally.shift) := by
  rw [State.setClock_eq]
  refine ⟨rfl, ?_, fun hFree => ?_⟩
  · split
    · exact State.closeShift_plan _ _
    · rfl
  · simp only [← Bool.and_eq_true]
    split
    · exact State.closeShift_shift (s := s.clockMoved day tod) hFree _
    · rfl

/-- Settles O26. -/
theorem clockAndShiftCommandsTakeEffect : Obligations.ClockAndShiftCommandsTakeEffect := by
  refine ⟨fun p s hBound hGiven => ⟨fun hLate => ?late, fun hTod => ?clock⟩,
    fun p s hBound hGiven => ⟨fun hBusy => ?deferred, fun hFree => ?shift⟩, fun cause s => ?closes⟩
  case late =>
    refine State.command_acts hGiven ((State.boundOrReady_takes hBound _).trans ((State.unlessFails_orRange _).trans ?_))
    exact if_neg fun hOk => absurd (of_decide_eq_true hOk) (not_lt.2 hLate)
  case clock =>
    obtain ⟨c, hDispatched⟩ := State.given_dispatched hGiven
    obtain ⟨hSet, hPlan, hShift⟩ := State.setClock_tally (field p 0 2) (field p 4 4) s
    have hFrame := State.finish_frame .ok false (s.setClock (field p 0 2) (field p 4 4))
    refine ⟨_, State.command_acts hGiven ((State.boundOrReady_takes hBound _).trans
      ((State.unlessFails_orRange _).trans (if_pos (decide_eq_true hTod)))),
      (Steady.refl s).setClock.answered hDispatched .ok, ?_, ?_⟩
    · rw [hFrame]
      exact State.setClock_pos _ _ s
    · rw [hFrame]
      exact ⟨hSet, hPlan, hShift⟩
  case deferred =>
    refine State.command_acts hGiven ((State.boundOrReady_takes hBound _).trans ((if_pos hBusy).trans ?_))
    rw [State.closeShift_deferred hBusy]
    rfl
  case shift =>
    obtain ⟨c, hDispatched⟩ := State.given_dispatched hGiven
    have hFrame := State.finish_frame .ok false (s.closeShift .command)
    refine ⟨_, State.command_acts hGiven ((State.boundOrReady_takes hBound _).trans (if_neg (by simp [hFree]))),
      (Steady.refl s).closeShift.answered hDispatched .ok, ?_⟩
    rw [State.answerWith, hFrame]
    dsimp only
    rw [State.closeShift_pos, State.closeShift_performed hFree, State.performClose_tally]
    obtain ⟨hShift, hClosed, -⟩ := Tally.placed_shift (s.buildReport .command) s.tally
    refine ⟨rfl, congrArg nextNumber hShift, congrArg inc32 hClosed, rfl, fun hEmpty => ?_, rfl⟩
    rw [Tally.placed_empty hEmpty]
    rfl
  case closes =>
    intro t old
    refine ⟨?_, State.boundaryTest_none, fun hBusy => State.closeShift_deferred hBusy cause, fun hFree => ?_⟩
    · by_cases hBoundary : ∃ b ∈ s.tally.plan, b * 1000 = s.pos.tod
      · exact .inl (State.boundaryTest_some hBoundary)
      · exact .inr fun b hb hTod => hBoundary ⟨b, hb, hTod⟩
    · have ht : t = s.performClose cause := State.closeShift_performed hFree cause
      obtain ⟨hShift, hClosed, -⟩ := Tally.placed_shift (s.buildReport cause) s.tally
      rw [ht, State.performClose_tally]
      refine ⟨rfl, congrArg nextNumber hShift, congrArg inc32 hClosed, State.performClose_raises cause s, rfl,
        fun hEmpty => ?_, fun w hWaiting => ?_⟩
      · rw [Tally.placed_empty hEmpty]
        exact ⟨rfl, s.buildReport cause, rfl, rfl, rfl, rfl, rfl, rfl⟩
      · rw [Tally.placed_waiting hWaiting]
        exact ⟨rfl, State.performClose_merged hWaiting cause, w.merge (s.buildReport cause), rfl, rfl, rfl, rfl, rfl, rfl, rfl, rfl,
          rfl, rfl, rfl, rfl, rfl, rfl, rfl, mergeCounts_get _ _, rfl, fun i => ⟨mergeCounts_get _ _ i, mergeCounts_get _ _ i⟩,
          rfl, rfl, rfl, rfl, rfl, rfl, rfl, rfl, mergeCounts_get _ _, rfl, rfl, rfl, mergeCounts_get _ _, rfl⟩

end Sys2Proof.Machine
end
section
/-! PROOFS. The gantry, the link's settings and the terminals (R7, R8, R15, R16, R121). -/

set_option Elab.async false

namespace Sys2Proof.Machine

/-! ## The transmit queue filled (R127, R130) -/

theorem Link.queueCuts_step (cs : List Cut) (l : Link) :
    let m := cs.foldl (fun l c =>
      if c.status = .unsent ∧ l.txq.length < Config.txMax then
        { l with txq := l.txq ++ [c.frame], cuts := modCut c.num (fun c => { c with status := .queued }) l.cuts }
      else l) l
    m = { l with txq := m.txq, cuts := m.cuts } ∧ m.cuts.map (·.num) = l.cuts.map (·.num) := by
  induction cs generalizing l with
  | nil => exact ⟨rfl, rfl⟩
  | cons c cs ih =>
    rw [List.foldl_cons]
    split
    · obtain ⟨hFrame, hNums⟩ := ih { l with
        txq := l.txq ++ [c.frame], cuts := modCut c.num (fun c => { c with status := .queued }) l.cuts }
      refine ⟨hFrame, hNums.trans ?_⟩
      rw [modCut, List.map_map]
      refine List.map_congr_left fun x _ => ?_
      by_cases hx : x.num = c.num <;> simp [hx]
    · exact ih l

theorem Link.queueLanes_frame (l : Link) :
    l.queueLanes = { l with txq := l.queueLanes.txq, lanesPending := l.queueLanes.lanesPending } := by
  unfold Link.queueLanes
  split
  · split <;> rfl
  · rfl

/-- What filling the transmit queue changes of the Cut Link. -/
theorem State.fillQueue_link (s : State) :
    s.fillQueue.link = { s.link with
      txq := s.fillQueue.link.txq, cuts := s.fillQueue.link.cuts, lanesPending := s.fillQueue.link.lanesPending }
    ∧ s.fillQueue.link.cuts.map (·.num) = s.link.cuts.map (·.num) := by
  rw [State.fillQueue_eq]
  split
  · exact ⟨rfl, rfl⟩
  · rw [State.modLink_link]
    split
    · obtain ⟨hFrame, hNums⟩ := Link.queueCuts_step s.link.queueLanes.cuts s.link.queueLanes
      change s.link.queueLanes.queueCuts = { s.link.queueLanes with
        txq := s.link.queueLanes.queueCuts.txq, cuts := s.link.queueLanes.queueCuts.cuts } at hFrame
      refine ⟨?_, hNums.trans (by rw [Link.cuts_queueLanes])⟩
      rw [hFrame, Link.queueLanes_frame]
    · rw [Link.cuts_queueLanes]
      refine ⟨?_, rfl⟩
      conv_lhs => rw [Link.queueLanes_frame]

/-! ## The settings of LINK_SETUP -/

theorem linkOf_ok_iff (p : List Byte) : (linkOf p).ok = true ↔ 9600 ≤ field p 0 4 ∧ field p 0 4 ≤ 1000000 ∧ 13 ≤ byteAt p 4
    ∧ byteAt p 4 ≤ 16 ∧ (byteAt p 6 ≤ 3 ∨ byteAt p 6 = 255) := by
  have hTimeout : within 1 255 (if byteAt p 0x05 = 0 then 20 else byteAt p 0x05) = true := by
    have hByte := byteAt_lt p 5
    rw [within_iff]
    split <;> omega
  have hRepeats : (if byteAt p 0x06 = 0xFF then 1 else byteAt p 0x06) ≤ 3 ↔ byteAt p 6 ≤ 3 ∨ byteAt p 6 = 255 := by
    split <;> omega
  have hOk : (linkOf p).ok = (within 9600 1000000 (field p 0 4) && within 13 16 (byteAt p 4)
      && within 1 255 (if byteAt p 0x05 = 0 then 20 else byteAt p 0x05)
      && decide ((if byteAt p 0x06 = 0xFF then 1 else byteAt p 0x06) ≤ 3)) := rfl
  rw [hOk, hTimeout]
  simp only [Bool.and_true, Bool.and_eq_true, within_iff, decide_eq_true_eq, hRepeats, and_assoc]

/-! ## GANTRY and LINK_SETUP -/

section
variable {s : State} {cause : Nat}

theorem State.followPark_same (h : s.pos.parkInput = s.pos.parked) : s.followPark cause = s := by
  rw [State.followPark_eq, if_pos h]

theorem State.followPark_parks (hNew : s.pos.parkInput = true) (hOld : s.pos.parked = false) :
    (s.followPark cause).ev.pending.getLsbD 14 = true := by
  rw [State.followPark_eq, if_neg (by rw [hNew, hOld]; decide), if_pos hNew]
  exact State.raise_sets .gantryParked _ _ _

theorem State.followPark_onGlass (hNew : s.pos.parkInput = false) (hOld : s.pos.parked = true) :
    (s.followPark cause).ev.pending.getLsbD 15 = true := by
  rw [State.followPark_eq, if_neg (by rw [hNew, hOld]; decide), if_neg (by rw [hNew]; decide)]
  exact State.raise_sets .gantryOnGlass _ _ _

end

/-- Settles O27. -/
theorem gantryAndLinkSetupTakeEffect : Obligations.GantryAndLinkSetupTakeEffect := by
  refine ⟨fun p s hReady => ⟨fun hGiven => ⟨fun hBad => ?badGantry, fun hGood => ?gantry⟩,
    fun hGiven => ⟨fun hBad => ?badLink, fun hGood => ?link⟩⟩, linkOf_ok_iff, fun p => rfl⟩
  case badGantry =>
    refine State.command_acts hGiven ((State.readyOnly_takes hReady _).trans ((State.unlessFails_orRange _).trans ?_))
    exact if_neg fun hOk => absurd (of_decide_eq_true hOk) (not_le.2 hBad)
  case gantry =>
    obtain ⟨c, hDispatched⟩ := State.given_dispatched hGiven
    let u : State := s.modPos (fun x => { x with parkCmd := byteAt p 0x00 = 1 })
    have hFrame := State.finish_frame .ok false (u.followPark 0)
    have hPark : (u.followPark 0).pos.parked = (decide (byteAt p 0 = 1) || s.pos.inputOf .inGantryParked) := by
      rw [State.followPark_pos]
      rfl
    refine ⟨_, State.command_acts hGiven ((State.readyOnly_takes hReady _).trans ((State.unlessFails_orRange _).trans
      (if_pos (decide_eq_true hGood)))), (Steady.refl s).modPos.followPark.answered hDispatched .ok, ?_⟩
    rw [hFrame]
    dsimp only
    refine ⟨by rw [State.followPark_pos]; rfl, hPark, fun hSame => ?_, fun hOld hNew => ?_, fun hOld hNew => ?_⟩
    · rw [State.followPark_same (s := u) (hPark.symm.trans hSame)]
      exact ⟨rfl, rfl⟩
    · refine ⟨?_, State.followPark_parks (s := u) (hPark.symm.trans hNew) hOld⟩
      rw [State.followPark_pos]
      exact if_pos ⟨hPark.symm.trans hNew, by rw [show u.pos.parked = false from hOld]; decide⟩
    · exact State.followPark_onGlass (s := u) (hPark.symm.trans hNew) hOld
  case badLink =>
    refine State.command_acts hGiven ((State.readyOnly_takes hReady _).trans ((State.unlessFails_orRange _).trans ?_))
    exact if_neg (by simp [hBad])
  case link =>
    obtain ⟨c, hDispatched⟩ := State.given_dispatched hGiven
    let u : State := s.modLink (fun l => { l.dropReceived with on := true, settings := linkOf p })
    obtain ⟨hLink, hNums⟩ := State.fillQueue_link u
    have hFrame := State.finish_frame .ok false u.fillQueue
    have hWorks : u.fillQueue.cp = s.cp := (Works.refl u).fillQueue.cp
    have hAnswer := State.finish_answered (s := u.fillQueue) (hWorks ▸ hDispatched) .ok false
    refine ⟨u.fillQueue.finish .ok false, State.command_acts hGiven ((State.readyOnly_takes hReady _).trans
      ((State.unlessFails_orRange _).trans (if_pos hGood))), by rwa [State.answeredWith, hWorks] at hAnswer, ?_⟩
    rw [hFrame]
    dsimp only
    rw [hLink]
    exact ⟨rfl, rfl, rfl, rfl, rfl, rfl, rfl, rfl, rfl, rfl, rfl, hNums⟩

/-! ## TERMINAL_SETUP and TERMINAL_SET -/

theorem termOfNat_val (i : Fin 6) : termOfNat i.val = some i := dif_pos i.isLt

theorem termOfNat_none {n : Nat} (h : 6 ≤ n) : termOfNat n = none := dif_neg (not_lt.2 h)

theorem TermFn.ofCode_code (f : TermFn) : TermFn.ofCode f.code = some f := by cases f <;> rfl

theorem TermFn.ofCode_none {n : Nat} (h : 8 ≤ n) : TermFn.ofCode n = none := by
  match n, h with
  | n + 8, _ => rfl

theorem State.terminalSetup_refuses {p : List Byte} {s : State} (hBound : s.cp.binding ≠ .unbound)
    (h : termOfNat (byteAt p 0) = none ∨ TermFn.ofCode (byteAt p 1) = none) :
    s.terminalSetup p = s.finish .range false := by
  refine (State.boundOrReady_takes hBound _).trans ?_
  split
  next t f hTerm hFn =>
    rcases h with h | h
    · rw [h] at hTerm
      cases hTerm
    · rw [h] at hFn
      cases hFn
  next => rfl

/-- Settles O28. -/
theorem terminalCommandsTakeEffect : Obligations.TerminalCommandsTakeEffect := by
  intro p s hBound
  refine ⟨fun hGiven i f hTerm hFn => ?setup, fun hGiven hBad => ?unnamed, fun hGiven hBad => ?noTerminal,
    fun hGiven i hTerm => ?set⟩
  case setup =>
    have hSetup : s.terminalSetup p =
        if byteAt p 2 ≤ 1 ∧ s.pos.fnFree i f = true then (s.changeTerm i (Terminal.setup f p) id).finish .ok false
        else s.finish .range false := by
      refine (State.boundOrReady_takes hBound _).trans ?_
      rw [hTerm, hFn, termOfNat_val, TermFn.ofCode_code]
      refine (State.unlessFails_orRange _).trans ?_
      simp only [Bool.and_eq_true, decide_eq_true_eq]
    refine ⟨fun hBad => State.command_acts hGiven (hSetup.trans (if_neg ?_)), fun hLevel hFree => ?_⟩
    · rintro ⟨hLevel, hFree⟩
      rcases hBad with hBad | hBad
      · exact absurd hLevel (not_le.2 hBad)
      · rw [hFree] at hBad
        cases hBad
    · obtain ⟨c, hDispatched⟩ := State.given_dispatched hGiven
      have hFrame := State.finish_frame .ok false (s.changeTerm i (Terminal.setup f p) id)
      refine ⟨_, State.command_acts hGiven (hSetup.trans (if_pos ⟨hLevel, hFree⟩)),
        ((Steady.refl s).changeTerm fun _ k => k).answered hDispatched .ok, ?_⟩
      rw [hFrame]
      dsimp only
      rw [State.changeTerm_pos i (event := id) _ (fun _ => rfl)]
      refine ⟨?_, fun j hj => upd_getElem_of_ne _ _ (Ne.symm hj)⟩
      refine (upd_getElem_self _ _ _).trans ?_
      simp [Terminal.setup]
  case unnamed =>
    refine State.command_acts hGiven (State.terminalSetup_refuses hBound ?_)
    exact hBad.imp termOfNat_none TermFn.ofCode_none
  case noTerminal =>
    refine State.command_acts hGiven ((State.boundOrReady_takes hBound _).trans ?_)
    rw [termOfNat_none hBad]
    rfl
  case set =>
    have hSet : s.terminalSet p = if s.pos.terms[i].fn = .outGeneral then
        (s.modTerm i (fun x => { x with genActive := byteAt p 0x01 = 1 })).finish .ok false else s.finish .range false := by
      refine (State.boundOrReady_takes hBound _).trans ?_
      rw [hTerm, termOfNat_val]
      refine (State.unlessFails_orRange _).trans ?_
      simp only [decide_eq_true_eq]
    refine ⟨fun hOther => State.command_acts hGiven (hSet.trans (if_neg hOther)),
      fun hOut => State.command_acts hGiven (hSet.trans (if_pos hOut))⟩

end Sys2Proof.Machine
end
section
/-! PROOFS. Reports and the rings (R34, R35, R169, R170, R173, R184, R185). -/

set_option Elab.async false

namespace Sys2Proof.Machine

/-! ## A deferred close (R170) -/

theorem State.performDeferred_none {s : State} (h : s.tally.deferred = none) : s.performDeferred = s := by
  unfold State.performDeferred
  rw [h]

theorem State.performClose_steady (cause : CloseCause) (s : State) : Steady s (s.performClose cause) :=
  (Steady.refl s).performClose

theorem State.performClose_pos (cause : CloseCause) (s : State) : (s.performClose cause).pos = s.pos := by
  unfold State.performClose State.placeReport
  rw [State.raise_frame]
  split
  · rfl
  · exact State.raise_pos _ _ _ _
  · rfl

theorem State.performClose_ing (cause : CloseCause) (s : State) : (s.performClose cause).ing = s.ing := by
  unfold State.performClose State.placeReport
  rw [State.raise_frame]
  split
  · rfl
  · exact (Works.refl _).raise.ing
  · rfl

/-- A deferred close performed: the tally, and what it leaves. -/
structure State.Closed (cause : CloseCause) (s t : State) : Prop where
  tally : t.tally = (Tally.placed (s.buildReport cause) { s.tally with deferred := none }).restarted s.pos
  pos : t.pos = s.pos
  ing : t.ing = s.ing
  told : t.ev.pending.getLsbD 27 = true
  merges : ∀ w, s.tally.slot = .waiting w → t.ev.pending.getLsbD 28 = true
  quiet : s.cp.wait ≠ some .close → t.cp = s.cp
  answers : ∀ c, s.cp.wait = some .close → s.cp.dispatched = some c → s.answeredWith .ok t

theorem State.performDeferred_some {s : State} {cause : CloseCause} (h : s.tally.deferred = some cause) :
    s.Closed cause s.performDeferred := by
  let u : State := s.modTally (fun t => { t with deferred := none })
  have hCp : (u.performClose cause).cp = s.cp := (State.performClose_steady cause u).cp
  have hRun : s.performDeferred =
      if s.cp.wait = some .close then (u.performClose cause).finish .ok false else u.performClose cause := by
    unfold State.performDeferred
    rw [h]
    dsimp only
    rw [hCp]
  by_cases hWait : s.cp.wait = some .close
  · rw [hRun, if_pos hWait]
    have hFrame := State.finish_frame .ok false (u.performClose cause)
    refine ⟨?_, ?_, ?_, ?_, fun w hw => ?_, fun hNot => absurd hWait hNot, fun c _ hDispatched => ?_⟩
    · rw [hFrame]
      exact State.performClose_tally cause u
    · rw [hFrame]
      exact State.performClose_pos cause u
    · rw [hFrame]
      exact State.performClose_ing cause u
    · rw [hFrame]
      exact State.performClose_raises cause u
    · rw [hFrame]
      exact State.performClose_merged (s := u) hw cause
    · exact (State.performClose_steady cause u).answered (s := u) hDispatched .ok
  · rw [hRun, if_neg hWait]
    exact ⟨State.performClose_tally cause u, State.performClose_pos cause u, State.performClose_ing cause u,
      State.performClose_raises cause u, fun w hw => State.performClose_merged (s := u) hw cause, fun _ => hCp,
      fun c hNot => absurd hNot hWait⟩

/-! ## REPORT_ACCEPTED and IN_FLIGHT_BURSTS_COMPLETE -/

theorem InFlight.liveIndex_eq_some_iff {r : Fin 4} {i : Idx} {a : InFlight} :
    a.liveIndex r = some i ↔ a.what = .record r i .live := by
  unfold InFlight.liveIndex
  split
  next q j hWhat => simp [hWhat]
  next hOther => simpa using hOther r i

theorem findSome?_liveIndex {r : Fin 4} {i : Idx} {down : List InFlight} (hIn : ∃ a ∈ down, a.what = .record r i .live)
    (hOnly : ∀ a ∈ down, ∀ j, a.what = .record r j .live → j = i) : down.findSome? (InFlight.liveIndex r) = some i := by
  obtain ⟨a, ha, hWhat⟩ := hIn
  have hSome : (down.findSome? (InFlight.liveIndex r)).isSome :=
    List.findSome?_isSome_iff.2 ⟨a, ha, Option.isSome_of_mem (InFlight.liveIndex_eq_some_iff.2 hWhat)⟩
  obtain ⟨u, hu⟩ := Option.isSome_iff_exists.1 hSome
  obtain ⟨b, hb, hbu⟩ := List.exists_of_findSome?_eq_some hu
  rw [hu, hOnly b hb u (InFlight.liveIndex_eq_some_iff.1 hbu)]

/-- The part when memory has accepted a report at index `i`, before a deferred close. -/
def State.reportFreed (i : Idx) (s : State) : State :=
  ((s.landAll (InFlight.isLiveRecord reportRing i)).modRing reportRing (Ring.accept i)).modTally (fun t =>
    { t with slot := .empty, written := inc32 t.written })

theorem exec_reportAccepted {p : Report} {i : Idx} {s : State} (hSlot : s.tally.slot = .inFlight p .accept)
    (hIn : ∃ a ∈ s.path.down, a.what = .record reportRing i .live)
    (hOnly : ∀ a ∈ s.path.down, ∀ j, a.what = .record reportRing j .live → j = i) :
    exec .reportAccepted s = .next (s.reportFreed i).performDeferred := by
  change execReportAccepted s = _
  unfold execReportAccepted
  rw [hSlot, findSome?_liveIndex hIn hOnly]
  rfl

theorem InFlight.ringOver_iff (r : Fin 4) (a : InFlight) : (match a.ringLife r with
      | some .stopped => true
      | some .discarded => true
      | some .live => false
      | none => false) = (a.ringLife r == some .stopped || a.ringLife r == some .discarded) := by
  cases a.ringLife r with
  | none => rfl
  | some l => cases l <;> rfl

/-- The discarded and stopped writes of a ring are over. -/
def State.ringLanded (r : Fin 4) (s : State) : State :=
  { s with path := { s.path with down := s.path.down.filter (fun a =>
      !(a.ringLife r == some .stopped || a.ringLife r == some .discarded)) } }

theorem exec_inFlightBurstsComplete (r : Fin 4) (s : State) : exec (.inFlightBurstsComplete r) s =
    .next (if r = reportRing then (s.ringLanded r).reportBurstsOver else s.ringLanded r) := by
  have hLand : s.ringLanded r = s.landAll (fun a => match a.ringLife r with
      | some .stopped => true
      | some .discarded => true
      | some .live => false
      | none => false) := by
    simp only [InFlight.ringOver_iff]
    rfl
  rw [hLand]
  rfl

theorem State.reportBurstsOver_wait {p : Report} {s : State} (h : s.tally.slot = .inFlight p .wait) :
    s.reportBurstsOver = (s.modTally (fun t => { t with slot := .waiting p })).performDeferred := by
  unfold State.reportBurstsOver
  rw [h]

theorem State.reportBurstsOver_drop {p : Report} {s : State} (h : s.tally.slot = .inFlight p .drop) :
    s.reportBurstsOver = (s.modTally (fun t => { t with slot := .empty })).performDeferred := by
  unfold State.reportBurstsOver
  rw [h]

/-- Settles O42. -/
theorem reportBurstsComplete : Obligations.ReportBurstsComplete := by
  intro p s closed alone joined
  let u (q : Path) (g : Vector Ring 4) (x : ReportSlot) (n : Nat) : State :=
    { s with path := q, rings := g, tally := { s.tally with slot := x, written := n } }
  have hAlone (q : Path) (g : Vector Ring 4) (n : Nat) {cause : CloseCause} (hCause : s.tally.deferred = some cause) :
      closed cause (s.buildReport cause) (u q g .empty n).performDeferred ∧ alone (s.buildReport cause)
        ∧ (u q g .empty n).performDeferred.tally.merged = s.tally.merged
        ∧ (u q g .empty n).performDeferred.tally.written = n := by
    obtain ⟨hTally, hPos, hIng, hTold, -, hQuiet, hAnswers⟩ := State.performDeferred_some (s := u q g .empty n) hCause
    rw [Tally.placed_empty (t := { (u q g .empty n).tally with deferred := none }) rfl] at hTally
    rw [hTally]
    exact ⟨⟨by rw [hTally]; rfl, rfl, by rw [hTally]; rfl, by rw [hTally]; rfl, by rw [hTally]; rfl, by rw [hTally]; rfl, hTold,
      rfl, rfl, rfl, by rw [hTally]; rfl, hQuiet, hAnswers, hPos, hIng⟩, ⟨rfl, rfl, rfl, rfl⟩, rfl, rfl⟩
  have hJoined (q : Path) (g : Vector Ring 4) (n : Nat) {cause : CloseCause} (hCause : s.tally.deferred = some cause) :
      closed cause (p.merge (s.buildReport cause)) (u q g (.waiting p) n).performDeferred
        ∧ joined (p.merge (s.buildReport cause))
        ∧ (u q g (.waiting p) n).performDeferred.tally.merged = inc32 s.tally.merged
        ∧ (u q g (.waiting p) n).performDeferred.ev.pending.getLsbD 28 = true := by
    obtain ⟨hTally, hPos, hIng, hTold, hMerges, hQuiet, hAnswers⟩ :=
      State.performDeferred_some (s := u q g (.waiting p) n) hCause
    rw [Tally.placed_waiting (t := { (u q g (.waiting p) n).tally with deferred := none }) rfl] at hTally
    refine ⟨⟨by rw [hTally]; rfl, rfl, by rw [hTally]; rfl, by rw [hTally]; rfl, by rw [hTally]; rfl, by rw [hTally]; rfl, hTold,
      rfl, rfl, rfl, by rw [hTally]; rfl, hQuiet, hAnswers, hPos, hIng⟩, ?_, by rw [hTally]; rfl, hMerges p rfl⟩
    exact ⟨rfl, rfl, rfl, rfl, rfl, rfl, rfl, rfl, rfl, rfl⟩
  refine ⟨fun i hSlot hIn hOnly => ?accepted, fun hNone => ?quiet, fun cause hCause => ?deferred, fun r hr => ?other⟩
  case accepted =>
    refine ⟨_, exec_reportAccepted hSlot hIn hOnly, ?_⟩
    cases hCause : s.tally.deferred with
    | none =>
      rw [State.performDeferred_none (s := s.reportFreed i) hCause]
      exact ⟨rfl, hCause, fun _ => ⟨rfl, rfl, rfl⟩, nofun, rfl, rfl⟩
    | some cause =>
      obtain ⟨hClosed, hAlone', hMerged, hWritten⟩ :=
        hAlone (s.reportFreed i).path (s.reportFreed i).rings (inc32 s.tally.written) hCause
      change closed cause _ (s.reportFreed i).performDeferred at hClosed
      have hParts := hClosed
      obtain ⟨-, -, -, -, -, hDeferred, -, -, -, -, -, -, -, hPos, hIng⟩ := hParts
      exact ⟨hWritten, hDeferred, nofun, fun c hc => by
        obtain rfl := Option.some.inj hc
        exact ⟨hMerged, _, hClosed, hAlone'⟩, hPos, hIng⟩
  case quiet =>
    intro landed
    constructor
    · intro hSlot
      rw [exec_inFlightBurstsComplete, if_pos rfl, State.reportBurstsOver_wait (s := s.ringLanded reportRing) hSlot,
        State.performDeferred_none (s := (s.ringLanded reportRing).modTally (fun t => { t with slot := .waiting p })) hNone]
      rfl
    · intro hSlot
      rw [exec_inFlightBurstsComplete, if_pos rfl, State.reportBurstsOver_drop (s := s.ringLanded reportRing) hSlot,
        State.performDeferred_none (s := (s.ringLanded reportRing).modTally (fun t => { t with slot := .empty })) hNone]
      rfl
  case deferred =>
    constructor
    · intro hSlot
      obtain ⟨hClosed, hJoined', hMerged, hTold⟩ := hJoined (s.ringLanded reportRing).path s.rings s.tally.written hCause
      refine ⟨_, _, ?_, hClosed, hJoined', hMerged, hTold⟩
      rw [exec_inFlightBurstsComplete, if_pos rfl, State.reportBurstsOver_wait (s := s.ringLanded reportRing) hSlot]
      rfl
    · intro hSlot
      obtain ⟨hClosed, hAlone', hMerged, -⟩ := hAlone (s.ringLanded reportRing).path s.rings s.tally.written hCause
      refine ⟨_, _, ?_, hClosed, hAlone', hMerged⟩
      rw [exec_inFlightBurstsComplete, if_pos rfl, State.reportBurstsOver_drop (s := s.ringLanded reportRing) hSlot]
      rfl
  case other =>
    rw [exec_inFlightBurstsComplete, if_neg hr]
    rfl

end Sys2Proof.Machine
end
section
/-! PROOFS. RING_SETUP and RING_RESET (R184, R185): the checks, and what the taking leaves. -/

set_option Elab.async false

namespace Sys2Proof.Machine

/-! ## The relations of RING_SETUP -/

theorem capacityOk_iff {n : Nat} : capacityOk n = true ↔ ∃ k, 4 ≤ k ∧ k ≤ 16 ∧ n = 2 ^ k := by
  constructor
  · intro h
    simp only [capacityOk, List.contains_iff_mem, List.mem_cons, List.not_mem_nil, or_false] at h
    rcases h with rfl | rfl | rfl | rfl | rfl | rfl | rfl | rfl | rfl | rfl | rfl | rfl | rfl
    exacts [⟨4, by decide⟩, ⟨5, by decide⟩, ⟨6, by decide⟩, ⟨7, by decide⟩, ⟨8, by decide⟩, ⟨9, by decide⟩, ⟨10, by decide⟩,
      ⟨11, by decide⟩, ⟨12, by decide⟩, ⟨13, by decide⟩, ⟨14, by decide⟩, ⟨15, by decide⟩, ⟨16, by decide⟩]
  · rintro ⟨k, hLow, hHigh, rfl⟩
    interval_cases k <;> decide

theorem setupRelations_iff {r : Fin 4} {p : List Byte} : setupRelations r p = true ↔
    (∃ k, 4 ≤ k ∧ k ≤ 16 ∧ field p 12 4 = 2 ^ k) ∧ 1 ≤ field p 16 2 ∧ field p 16 2 < field p 12 4
      ∧ 64 ∣ field p 4 5 ∧ (r = reportRing → 256 ∣ field p 4 5 + 64)
      ∧ field p 4 5 + 64 + field p 12 4 * recordSize r ≤ 2 ^ 40 := by
  simp only [setupRelations, Bool.and_eq_true, Bool.or_eq_true, decide_eq_true_eq, capacityOk_iff, and_assoc,
    Nat.dvd_iff_mod_eq_zero, imp_iff_not_or, ne_eq]
  rfl

/-! ## The memory a ring may take -/

/-- The bits of `x` under the mask `m`, of the lowest `k`, are those of `b`. -/
def maskMatch (m b k x : Nat) : Prop := ∀ j, j < k → m.testBit j = true → x.testBit j = b.testBit j

section
variable {m b k x : Nat}

theorem maskMatch_succ_low (hx : x < 2 ^ k) :
    maskMatch m b (k + 1) x ↔ ¬ (m.testBit k = true ∧ b.testBit k = true) ∧ maskMatch m b k x := by
  have hTop : x.testBit k = false := Nat.testBit_lt_two_pow hx
  constructor
  · intro h
    refine ⟨fun ⟨hm, hb⟩ => ?_, fun j hj => h j (hj.trans k.lt_succ_self)⟩
    have hSame := h k k.lt_succ_self hm
    rw [hTop, hb] at hSame
    cases hSame
  · rintro ⟨hTopOk, h⟩ j hj hm
    rcases Nat.lt_succ_iff_lt_or_eq.1 hj with hlt | rfl
    · exact h j hlt hm
    · rw [hTop, Eq.comm, ← Bool.not_eq_true]
      exact fun hb => hTopOk ⟨hm, hb⟩

theorem maskMatch_succ_high (hx : x < 2 ^ k) :
    maskMatch m b (k + 1) (2 ^ k + x) ↔ ¬ (m.testBit k = true ∧ b.testBit k = false) ∧ maskMatch m b k x := by
  have hTop : (2 ^ k + x).testBit k = true := by
    rw [Nat.testBit_two_pow_add_eq, Nat.testBit_lt_two_pow hx]
    rfl
  constructor
  · intro h
    refine ⟨fun ⟨hm, hb⟩ => ?_, fun j hj hm => ?_⟩
    · have hSame := h k k.lt_succ_self hm
      rw [hTop, hb] at hSame
      cases hSame
    · rw [← h j (hj.trans k.lt_succ_self) hm, Nat.testBit_two_pow_add_gt hj]
  · rintro ⟨hTopOk, h⟩ j hj hm
    rcases Nat.lt_succ_iff_lt_or_eq.1 hj with hlt | rfl
    · rw [Nat.testBit_two_pow_add_gt hlt]
      exact h j hlt hm
    · rw [hTop, Eq.comm, ← Bool.not_eq_false]
      exact fun hb => hTopOk ⟨hm, hb⟩

variable (m b) in
/-- `o` is the lowest number of [a, c) that matches over `k` bits, from `lo` on. -/
def leastMatch (k lo a c : Nat) (o : Option Nat) : Prop :=
  (∀ x, o = some x → (lo ≤ x ∧ a ≤ x ∧ x < c ∧ maskMatch m b k x)
    ∧ ∀ y, lo ≤ y → a ≤ y → y < c → maskMatch m b k y → x ≤ y)
  ∧ (o = none → ∀ y, lo ≤ y → a ≤ y → y < c → ¬ maskMatch m b k y)

theorem leastMatch.join {lo a c d : Nat} (hac : a ≤ c) (hcd : c ≤ d) (low high : Option Nat) :
    leastMatch m b k lo a c low → leastMatch m b k lo c d high → leastMatch m b k lo a d (match low with
      | some x => some x
      | none => high) := by
  intro hl hh
  cases low with
  | some x =>
    obtain ⟨⟨hLo, ha, hc, hM⟩, hLeast⟩ := hl.1 x rfl
    refine ⟨fun z hz => ?_, nofun⟩
    obtain rfl := Option.some.inj hz
    refine ⟨⟨hLo, ha, hc.trans_le hcd, hM⟩, fun y hyLo hya _ hyM => ?_⟩
    rcases Nat.lt_or_ge y c with hyc | hyc
    · exact hLeast y hyLo hya hyc hyM
    · exact hc.le.trans hyc
  | none =>
    have hBelow := hl.2 rfl
    constructor
    · intro z hz
      obtain ⟨⟨hLo, hc, hd, hM⟩, hLeast⟩ := hh.1 z hz
      refine ⟨⟨hLo, hac.trans hc, hd, hM⟩, fun y hyLo hya hyd hyM => ?_⟩
      rcases Nat.lt_or_ge y c with hyc | hyc
      · exact absurd hyM (hBelow y hyLo hya hyc)
      · exact hLeast y hyLo hyc hyd hyM
    · intro hNone y hyLo hya hyd hyM
      rcases Nat.lt_or_ge y c with hyc | hyc
      · exact hBelow y hyLo hya hyc hyM
      · exact hh.2 hNone y hyLo hyc hyd hyM

/-- The numbers whose bit `k` is clear. -/
theorem leastMatch.low {lo : Nat} {o : Option Nat} (h : leastMatch m b k lo 0 (2 ^ k) o) :
    leastMatch m b (k + 1) lo 0 (2 ^ k) (if (bit m k && bit b k) || 2 ^ k ≤ lo then none else o) := by
  split
  next hNo =>
    refine ⟨nofun, fun _ y hyLo _ hy hM => ?_⟩
    obtain ⟨hTop, -⟩ := (maskMatch_succ_low hy).1 hM
    simp only [Bool.or_eq_true, Bool.and_eq_true, decide_eq_true_eq] at hNo
    rcases hNo with hBits | hLow
    · exact hTop hBits
    · omega
  next hYes =>
    simp only [Bool.or_eq_true, Bool.and_eq_true, decide_eq_true_eq, not_or] at hYes
    refine ⟨fun x hx => ?_, fun hNone y hyLo hy0 hy hM => h.2 hNone y hyLo hy0 hy ((maskMatch_succ_low hy).1 hM).2⟩
    obtain ⟨⟨hLo, h0, hLt, hM⟩, hLeast⟩ := h.1 x hx
    exact ⟨⟨hLo, h0, hLt, (maskMatch_succ_low hLt).2 ⟨hYes.1, hM⟩⟩,
      fun y hyLo hy0 hy hyM => hLeast y hyLo hy0 hy ((maskMatch_succ_low hy).1 hyM).2⟩

/-- The numbers whose bit `k` is set. -/
theorem leastMatch.high {lo : Nat} {o : Option Nat} (h : leastMatch m b k (lo - 2 ^ k) 0 (2 ^ k) o) :
    leastMatch m b (k + 1) lo (2 ^ k) (2 ^ (k + 1))
      (if bit m k && !bit b k then none else o.map (· + 2 ^ k)) := by
  have hPow : 2 ^ (k + 1) = 2 ^ k + 2 ^ k := by rw [Nat.pow_succ]; omega
  have hForm (y : Nat) (hy : 2 ^ k ≤ y) (hy' : y < 2 ^ (k + 1)) : ∃ z, y = 2 ^ k + z ∧ z < 2 ^ k :=
    ⟨y - 2 ^ k, by omega, by omega⟩
  split
  next hNo =>
    refine ⟨nofun, fun _ y _ hya hy hM => ?_⟩
    obtain ⟨z, rfl, hz⟩ := hForm y hya hy
    simp only [Bool.and_eq_true, Bool.not_eq_true'] at hNo
    exact ((maskMatch_succ_high hz).1 hM).1 hNo
  next hYes =>
    simp only [Bool.and_eq_true, Bool.not_eq_true'] at hYes
    constructor
    · intro x hx
      obtain ⟨z, hz, rfl⟩ := Option.map_eq_some_iff.1 hx
      obtain ⟨⟨hLo, -, hLt, hM⟩, hLeast⟩ := h.1 z hz
      rw [Nat.add_comm]
      refine ⟨⟨by omega, by omega, by omega, (maskMatch_succ_high hLt).2 ⟨hYes, hM⟩⟩, fun y hyLo hya hy hyM => ?_⟩
      obtain ⟨w, rfl, hw⟩ := hForm y hya hy
      have hzw := hLeast w (by omega) (Nat.zero_le w) hw ((maskMatch_succ_high hw).1 hyM).2
      omega
    · intro hNone y hyLo hya hy hyM
      obtain ⟨w, rfl, hw⟩ := hForm y hya hy
      exact h.2 (Option.map_eq_none_iff.1 hNone) w (by omega) (Nat.zero_le w) hw ((maskMatch_succ_high hw).1 hyM).2

/-- `lowestMatch` gives the lowest number below `2 ^ k`, from `lo` on, that matches, and none where there is none. -/
theorem lowestMatch_least (m b k lo : Nat) : leastMatch m b k lo 0 (2 ^ k) (lowestMatch m b k lo) := by
  induction k generalizing lo with
  | zero =>
    unfold lowestMatch
    split
    next h =>
      subst h
      refine ⟨fun x hx => ?_, nofun⟩
      obtain rfl := Option.some.inj hx
      exact ⟨⟨le_rfl, le_rfl, by decide, nofun⟩, fun y _ _ _ _ => Nat.zero_le y⟩
    next h => exact ⟨nofun, fun _ y hyLo _ hy => by omega⟩
  | succ k ih =>
    unfold lowestMatch
    exact leastMatch.join (Nat.zero_le _) (Nat.pow_le_pow_right (by decide) k.le_succ) _ _ (ih lo).low (ih (lo - 2 ^ k)).high

end

theorem WinEntry.meets_iff {e : WinEntry} {lo hi : Nat} (hHi : hi ≤ 2 ^ 40) : e.meets lo hi = true ↔
    ∃ x, lo ≤ x ∧ x < hi ∧ BitVec.ofNat 40 x &&& e.mask = e.base &&& e.mask := by
  have hMatch (x : Nat) (hx : x < 2 ^ 40) :
      maskMatch e.mask.toNat e.base.toNat 40 x ↔ BitVec.ofNat 40 x &&& e.mask = e.base &&& e.mask := by
    constructor
    · intro h
      refine BitVec.eq_of_getLsbD_eq fun j hj => ?_
      have hBit := h j hj
      simp only [BitVec.getLsbD_and, BitVec.getLsbD_ofNat, hj, decide_true, Bool.true_and]
      cases hm : e.mask.getLsbD j with
      | false => simp
      | true =>
        simp only [Bool.and_true]
        exact hBit hm
    · intro h j hj hm
      have hBit := congrArg (fun v => v.getLsbD j) h
      simp only [BitVec.getLsbD_and, BitVec.getLsbD_ofNat, hj, decide_true, Bool.true_and] at hBit
      have hm' : e.mask.getLsbD j = true := hm
      rw [hm', Bool.and_true, Bool.and_true] at hBit
      exact hBit
  obtain ⟨hSome, hNone⟩ := lowestMatch_least e.mask.toNat e.base.toNat 40 lo
  unfold WinEntry.meets
  split
  next x hx =>
    obtain ⟨⟨hLo, -, hLt, hM⟩, hLeast⟩ := hSome x hx
    refine decide_eq_true_iff.trans ⟨fun h => ⟨x, hLo, h, (hMatch x hLt).1 hM⟩, fun ⟨y, hyLo, hyHi, hy⟩ => ?_⟩
    have hyLt := hyHi.trans_le hHi
    exact (hLeast y hyLo (Nat.zero_le y) hyLt ((hMatch y hyLt).2 hy)).trans_lt hyHi
  next hx =>
    refine ⟨nofun, fun ⟨y, hyLo, hyHi, hy⟩ => ?_⟩
    have hyLt := hyHi.trans_le hHi
    exact absurd ((hMatch y hyLt).2 hy) (hNone hx y hyLo (Nat.zero_le y) hyLt)

theorem rangesMeet_iff {a b c d : Nat} (hab : a < b) (hcd : c < d) :
    rangesMeet a b c d = true ↔ ∃ x, a ≤ x ∧ x < b ∧ c ≤ x ∧ x < d := by
  simp only [rangesMeet, Bool.and_eq_true, decide_eq_true_eq]
  exact ⟨fun h => ⟨max a c, by omega, by omega, by omega, by omega⟩, fun ⟨x, h⟩ => by omega⟩

theorem State.setupFree_iff {s : State} {r : Fin 4} {lo hi : Nat} (hLo : lo < hi) (hHi : hi ≤ 2 ^ 40) :
    s.setupFree r lo hi = true ↔ ∀ x, lo ≤ x → x < hi →
      ¬ (s.controlBase.toNat ≤ x ∧ x < s.controlBase.toNat + 0x4000)
      ∧ (∀ i : Fin 16, s.path.window[i].enable = true → s.path.window[i].kind = .live →
          BitVec.ofNat 40 x &&& s.path.window[i].mask ≠ s.path.window[i].base &&& s.path.window[i].mask)
      ∧ ∀ q : Fin 4, q ≠ r → s.rings[q].state ≠ .unset →
          ¬ (s.rings[q].base ≤ x ∧ x < s.rings[q].base + 64 + s.rings[q].capacity * recordSize q) := by
  have hControl : rangesMeet lo hi s.controlBase.toNat (s.controlBase.toNat + Config.controlSize) = true ↔
      ∃ x, lo ≤ x ∧ x < hi ∧ s.controlBase.toNat ≤ x ∧ x < s.controlBase.toNat + 0x4000 :=
    rangesMeet_iff hLo (Nat.lt_add_of_pos_right (by decide))
  have hWindows : s.path.window.toList.any (fun e => e.isLive && e.meets lo hi) = true ↔
      ∃ i : Fin 16, s.path.window[i].enable = true ∧ s.path.window[i].kind = .live
        ∧ ∃ x, lo ≤ x ∧ x < hi
          ∧ BitVec.ofNat 40 x &&& s.path.window[i].mask = s.path.window[i].base &&& s.path.window[i].mask := by
    simp only [List.any_eq_true, Bool.and_eq_true, WinEntry.meets_iff hHi, WinEntry.isLive, beq_iff_eq, and_assoc]
    constructor
    · rintro ⟨e, he, hRest⟩
      obtain ⟨i, hi, rfl⟩ := List.mem_iff_getElem.1 he
      exact ⟨⟨i, by simpa using hi⟩, by simpa using hRest⟩
    · rintro ⟨i, hRest⟩
      exact ⟨s.path.window[i], by simp, hRest⟩
  have hRings : (List.finRange 4).any (fun q =>
      q ≠ r && s.rings[q].state ≠ .unset && rangesMeet lo hi s.rings[q].base (s.rings[q].areaEnd q)) = true ↔
      ∃ q : Fin 4, q ≠ r ∧ s.rings[q].state ≠ .unset
        ∧ ∃ x, lo ≤ x ∧ x < hi ∧ s.rings[q].base ≤ x ∧ x < s.rings[q].base + 64 + s.rings[q].capacity * recordSize q := by
    have hMeet (q : Fin 4) : rangesMeet lo hi s.rings[q].base (s.rings[q].areaEnd q) = true ↔
        ∃ x, lo ≤ x ∧ x < hi ∧ s.rings[q].base ≤ x ∧ x < s.rings[q].base + 64 + s.rings[q].capacity * recordSize q :=
      rangesMeet_iff hLo (by unfold Ring.areaEnd; omega)
    simp only [List.any_eq_true, List.mem_finRange, true_and, Bool.and_eq_true, decide_eq_true_eq, hMeet, and_assoc]
  simp only [State.setupFree, Bool.and_eq_true, Bool.not_eq_true', ← Bool.not_eq_true, hControl, hWindows, hRings]
  constructor
  · rintro ⟨⟨hNoControl, hNoWindow⟩, hNoRing⟩ x hxLo hxHi
    exact ⟨fun h => hNoControl ⟨x, hxLo, hxHi, h⟩, fun i hOn hLive hSame => hNoWindow ⟨i, hOn, hLive, x, hxLo, hxHi, hSame⟩,
      fun q hq hSet h => hNoRing ⟨q, hq, hSet, x, hxLo, hxHi, h⟩⟩
  · intro h
    refine ⟨⟨?_, ?_⟩, ?_⟩
    · rintro ⟨x, hxLo, hxHi, hIn⟩
      exact (h x hxLo hxHi).1 hIn
    · rintro ⟨i, hOn, hLive, x, hxLo, hxHi, hSame⟩
      exact (h x hxLo hxHi).2.1 i hOn hLive hSame
    · rintro ⟨q, hq, hSet, x, hxLo, hxHi, hIn⟩
      exact (h x hxLo hxHi).2.2 q hq hSet hIn

/-! ## RING_SETUP -/

theorem ringOfNat_val (r : Fin 4) : ringOfNat r.val = some r := dif_pos r.isLt

theorem ringOfNat_none {n : Nat} (h : 4 ≤ n) : ringOfNat n = none := dif_neg (not_lt.2 h)

section
variable {p : List Byte} {s : State} {r : Fin 4}

theorem State.ringSetup_named (hBound : s.cp.binding ≠ .unbound) (hRing : byteAt p 0 = r.val) : s.ringSetup p =
    match s.setupCheck r p with
    | some code => s.finish code false
    | none => (s.setupRing r (setupBase p) (setupCapacity p) (setupNotify p)).modCp (fun c =>
        { c with wait := some (.header r) }) := by
  refine (State.boundOrReady_takes hBound _).trans ?_
  rw [hRing, ringOfNat_val] <;> rfl

theorem State.setupCheck_running (h : s.rings[r].state = .running) : s.setupCheck r p = some .state := by
  unfold State.setupCheck
  rw [h]
  rfl

theorem State.setupCheck_stands (h : s.rings[r].state ≠ .running) : s.setupCheck r p =
    firstFailure [(setupRelations r p, .range), (s.setupFree r (setupBase p) (setupEnd r p), .conflict)] :=
  if_pos (decide_eq_true h)

theorem State.ringReset_named (hBound : s.cp.binding ≠ .unbound) (hRing : byteAt p 0 = r.val) :
    s.ringReset p = (s.resetRing r).finish .ok false := by
  refine (State.boundOrReady_takes hBound _).trans ?_
  rw [hRing, ringOfNat_val]
  rfl

end

/-! ## RING_RESET -/

theorem State.ringChanged_frame (r : Fin 4) (s : State) : s.ringChanged r = { s with grader := (s.ringChanged r).grader } := by
  unfold State.ringChanged State.testWaiting
  split
  · split
    · rfl
    · split <;> rfl
  · rfl

/-- What an answer adds to the accesses in flight. -/
theorem State.mem_finish_down {s : State} {code : ResultCode} {force : Bool} {a : InFlight}
    (h : a ∈ (s.finish code force).path.down) :
    a ∈ s.path.down ∨ (∃ i, a.what = .result i) ∨ ∃ why, a.what = .header why := by
  cases hDispatched : s.cp.dispatched with
  | none => exact .inl (by simpa [State.finish, hDispatched] using h)
  | some c =>
    have hAnswered (u : InFlight) (hu : u ∈ (s.answeredState c code).path.down) :
        u ∈ s.path.down ∨ (∃ i, u.what = .result i) ∨ ∃ why, u.what = .header why := by
      rcases List.mem_append.1 hu with hOld | hNew
      · exact .inl hOld
      · rw [resultWrites_slotsFrom] at hNew
        exact .inr (.inl ⟨_, isResult_of_mem_resultAccesses hNew⟩)
    rw [State.finish_eq hDispatched] at h
    split at h
    · rcases State.writeBack_cases (s.answeredState c code) with hBack | hBack
      · rw [hBack] at h
        exact hAnswered a h
      · rw [hBack, State.issueHeader_eq] at h
        rcases List.mem_append.1 h with hOld | hNew
        · exact hAnswered a hOld
        · rw [List.mem_singleton] at hNew
          exact .inr (.inr ⟨_, by rw [hNew]; rfl⟩)
    · exact hAnswered a h

/-- The part once a ring is reset, before the Grader looks at it again. -/
def State.ringCleared (r : Fin 4) (s : State) : State :=
  let s1 := (s.relive (AccessFor.isRing r) .discarded).modRing r (Ring.reset r)
  if r = reportRing then s1.modTally (fun t => { t with slot := t.slot.waitAgain }) else s1

theorem State.resetRing_set {r : Fin 4} {s : State} (h : s.rings[r].state ≠ .unset) :
    s.resetRing r = (s.ringCleared r).ringChanged r := if_neg h

theorem State.ringCleared_frame (r : Fin 4) (s : State) : s.ringCleared r =
    { s with path := (s.relive (AccessFor.isRing r) .discarded).path, rings := upd s.rings r (Ring.reset r),
             tally := { s.tally with slot := if r = reportRing then s.tally.slot.waitAgain else s.tally.slot } } := by
  unfold State.ringCleared
  dsimp only
  split <;> rfl

theorem State.relive_discarded {r : Fin 4} {s : State} {a : InFlight} {i : Idx} {l : Life}
    (ha : a ∈ (s.relive (AccessFor.isRing r) .discarded).path.down)
    (hWhat : a.what = .record r i l ∨ a.what = .prodWord r i l) : l = .discarded := by
  obtain ⟨b, -, rfl⟩ := List.mem_map.1 ha
  split at hWhat
  next hRing =>
    cases hb : b.what <;> rw [hb] at hRing hWhat <;> simp_all [AccessFor.isRing, AccessFor.withLife]
  next hRing =>
    rcases hWhat with h | h <;> exact absurd (by rw [h]; simp [AccessFor.isRing]) hRing

theorem exec_ringHeaderWritten {r : Fin 4} {s : State} (h : s.cp.wait = some (.header r)) :
    exec .ringHeaderWritten s = .next (s.headerAnswered r) := by
  change execRingHeaderWritten s = _
  unfold execRingHeaderWritten
  rw [h]

/-- Settles O43. -/
theorem ringCommandsTakeEffect : Obligations.RingCommandsTakeEffect := by
  refine ⟨fun r p => setupRelations_iff, fun r lo hi s hLo hHi => State.setupFree_iff hLo hHi, fun p s =>
    ⟨fun hBound hNone => ⟨fun hGiven => ?noSetup, fun hGiven => ?noReset⟩,
     fun r hBound hRing => ⟨fun hGiven => ⟨fun hState => ?state, fun hState hBad => ?range, fun hState hOk hTaken => ?conflict,
        fun hState hOk hFree => ?setup⟩, fun hGiven => ⟨fun hUnset => ?unset, fun hSet => ?reset⟩⟩,
     fun r c hWait hDispatched => ?written⟩⟩
  case noSetup =>
    refine State.command_acts hGiven ((State.boundOrReady_takes hBound _).trans ?_)
    rw [ringOfNat_none hNone]
    rfl
  case noReset =>
    refine State.command_acts hGiven ((State.boundOrReady_takes hBound _).trans ?_)
    rw [ringOfNat_none hNone]
    rfl
  case state =>
    refine State.command_acts hGiven ((State.ringSetup_named hBound hRing).trans ?_)
    rw [State.setupCheck_running hState]
  case range =>
    refine State.command_acts hGiven ((State.ringSetup_named hBound hRing).trans ?_)
    rw [State.setupCheck_stands hState, hBad]
    rfl
  case conflict =>
    refine State.command_acts hGiven ((State.ringSetup_named hBound hRing).trans ?_)
    rw [State.setupCheck_stands hState, hOk, show s.setupFree r (setupBase p) (setupEnd r p) = false from hTaken]
    rfl
  case setup =>
    refine State.command_acts hGiven ((State.ringSetup_named hBound hRing).trans ?_)
    rw [State.setupCheck_stands hState, hOk, show s.setupFree r (setupBase p) (setupEnd r p) = true from hFree]
    rfl
  case unset =>
    refine State.command_acts hGiven ((State.ringReset_named hBound hRing).trans ?_)
    rw [show s.resetRing r = s from if_pos hUnset]
  case reset =>
    obtain ⟨c, hDispatched⟩ := State.given_dispatched hGiven
    have hReset : s.resetRing r = { s.ringCleared r with grader := (s.resetRing r).grader } := by
      rw [State.resetRing_set hSet]
      exact State.ringChanged_frame r (s.ringCleared r)
    rw [State.ringCleared_frame] at hReset
    have hFrame := State.finish_frame .ok false (s.resetRing r)
    have hCp : (s.resetRing r).cp = s.cp := by rw [hReset]
    have hAnswer := State.finish_answered (s := s.resetRing r) (c := c) (by rw [hCp]; exact hDispatched) .ok false
    have hBinding := State.finish_cp (s := s.resetRing r) (c := c) (by rw [hCp]; exact hDispatched) .ok false
    rw [State.answeredWith, hCp] at hAnswer
    refine ⟨_, State.command_acts hGiven (State.ringReset_named hBound hRing), hAnswer, ?_⟩
    have hRings : ((s.resetRing r).finish .ok false).rings = upd s.rings r (Ring.reset r) := by rw [hFrame, hReset]
    have hTally : ((s.resetRing r).finish .ok false).tally =
        { s.tally with slot := if r = reportRing then s.tally.slot.waitAgain else s.tally.slot } := by rw [hFrame, hReset]
    have hPos : ((s.resetRing r).finish .ok false).pos = s.pos := by rw [hFrame, hReset]
    rw [hRings, hTally, hPos, upd_getElem_self]
    refine ⟨rfl, rfl, fun a ha i l hWhat => ?_, fun q hq => upd_getElem_of_ne _ _ (Ne.symm hq), fun hOther => ?_,
      fun x hReport hSlot => ?_, fun x hReport hSlot => ?_, rfl, ?_⟩
    · rcases State.mem_finish_down ha with hOld | ⟨j, hResult⟩ | ⟨why, hHeader⟩
      · rw [hReset] at hOld
        exact State.relive_discarded hOld hWhat
      · rw [hResult] at hWhat
        rcases hWhat with h | h <;> cases h
      · rw [hHeader] at hWhat
        rcases hWhat with h | h <;> cases h
    · rw [if_neg hOther]
    · simp only [if_pos hReport, hSlot]
      rfl
    · simp only [if_pos hReport, hSlot]
      rfl
    · rw [hBinding, hCp]
      rfl
  case written =>
    let u : State := ((s.landAll (fun a => a.what == .ringHeader r)).modRing r (fun g => { g with state := .running })
      ).ringChanged r
    have hFrameU := State.ringChanged_frame r
      ((s.landAll (fun a => a.what == .ringHeader r)).modRing r (fun g => { g with state := .running }))
    change u = _ at hFrameU
    have hFrame := State.finish_frame .ok false u
    have hCp : u.cp = s.cp := by rw [hFrameU]; rfl
    have hAnswer := State.finish_answered (s := u) (c := c) (by rw [hCp]; exact hDispatched) .ok false
    have hBinding := State.finish_cp (s := u) (c := c) (by rw [hCp]; exact hDispatched) .ok false
    rw [State.answeredWith, hCp] at hAnswer
    have hRings : (u.finish .ok false).rings = upd s.rings r (fun g => { g with state := .running }) := by
      rw [hFrame, hFrameU]
      rfl
    refine ⟨u.finish .ok false, exec_ringHeaderWritten hWait, hAnswer, ?_⟩
    rw [hRings]
    refine ⟨upd_getElem_self _ _ _, fun q hq => upd_getElem_of_ne _ _ (Ne.symm hq), ?_, ?_⟩
    · rw [hFrame, hFrameU]
      rfl
    · rw [hBinding, hCp]
      rfl

end Sys2Proof.Machine
end
section
/-! PROOFS. Memory errors (R35, R177): the access that is answered with an error, and a ring that stops. -/

set_option Elab.async false

namespace Sys2Proof.Machine

/-! ## The access answered with an error -/

theorem exec_memError_access {a : InFlight} {s : State} (h : s.inFlight a.serial = some a) :
    exec (.memError (.access a.serial)) s = .next (s.accessError a) := by
  change execMemError (.access a.serial) s = _
  unfold execMemError
  dsimp only
  rw [h]

section
variable {s : State} {a : InFlight} {r : Fin 4} {source : Nat}

theorem State.ringError_running (h : s.rings[r].state = .running) :
    s.ringError r .live a source = s.stopRing r a.addr source := if_pos h

theorem State.ringError_stands (h : s.rings[r].state ≠ .running) :
    s.ringError r .live a source = s.memError a.addr source := if_neg h

/-- The part with the access landed and the error counted. -/
def State.errorCounted (a : InFlight) (s : State) : State := (s.landed a.serial).countError

theorem State.accessError_eq (a : InFlight) (s : State) : s.accessError a =
    match a.what with
    | .fwdRead axi => (s.errorCounted a).answer { axi := axi, read := true, okay := false, data := [] }
    | .fwdWrite axi => (s.errorCounted a).answer { axi := axi, read := false, okay := false, data := [] }
    | .posted _ => (s.errorCounted a).memError a.addr 0
    | .record r _ life => (s.errorCounted a).ringError r life a 1
    | .prodWord r _ life => (s.errorCounted a).ringError r life a 2
    | .ringHeader r => ((s.errorCounted a).stopRing r a.addr 2).finish .ok false
    | .result first =>
      (((s.errorCounted a).memError a.addr 4).modCp (fun c =>
        { c with notify := c.notify.filter (fun n => n.first ≠ first) })).writeBackIfDue
    | .header why => ((s.errorCounted a).memError a.addr 4).headerDone a.serial why := rfl

end

/-! ## A ring that stops -/

/-- The event ring after an occurrence differs in its staging alone. -/
theorem State.raise_rings_frame (k : EventKind) (a b : Nat) (s : State) (q : Fin 4) :
    (s.raise k a b).rings[q] = { s.rings[q] with staging := (s.raise k a b).rings[q].staging } := by
  by_cases hq : q = eventRing
  · subst hq
    cases hLog : s.ev.log.getLsbD k.num with
    | false =>
      rw [State.raise_of_not_logged hLog]
      rfl
    | true =>
      by_cases hRoom : s.rings[eventRing].state = .unset ∨ 8 ≤ s.rings[eventRing].staging.length
      · rw [State.raise_of_refused hLog hRoom]
        rfl
      · obtain ⟨hSet, hLess⟩ := not_or.1 hRoom
        rw [State.raise_of_room hLog hSet (not_le.1 hLess), State.modRing_rings, upd_getElem_self]
        rfl
  · rw [State.raise_rings_of_ne hq]

section Stopping

variable (r : Fin 4) (addr : Addr) (source : Nat) (s : State)

/-- The ring STOPPED, its answers no longer counted, before the events. -/
def State.ringStopped (s : State) : State := (s.relive (AccessFor.isRecordOf r) .stopped).modRing r Ring.stop

/-- The ring STOPPED and the two events raised. -/
def State.ringHalted (s : State) : State :=
  ((s.ringStopped r).raise .memError addr.toNat source).raise .ringStopped r.val s.rings[r].written.toNat

theorem State.stopRing_eq : s.stopRing r addr source =
    (if r = reportRing then (s.ringHalted r addr source).dropReport else s.ringHalted r addr source).ringChanged r := rfl

theorem State.ringHalted_frame : s.ringHalted r addr source =
    { s with path := (s.relive (AccessFor.isRecordOf r) .stopped).path, ev := (s.ringHalted r addr source).ev,
             rings := (s.ringHalted r addr source).rings } := by
  unfold State.ringHalted
  rw [State.raise_frame, State.raise_frame]
  rfl

theorem State.ringHalted_flags :
    (s.ringHalted r addr source).ev.pending.getLsbD 31 = true ∧ (s.ringHalted r addr source).ev.pending.getLsbD 3 = true :=
  ⟨(Works.refl _).raise.flags 31 (State.raise_sets .memError _ _ _), State.raise_sets .ringStopped _ _ _⟩

/-- The ring that stops, but for the staging of the EVENT ring. -/
theorem State.ringHalted_ring : (s.ringHalted r addr source).rings[r] =
    { s.rings[r].stop with staging := (s.ringHalted r addr source).rings[r].staging } := by
  have hStop : (s.ringStopped r).rings[r] = s.rings[r].stop := upd_getElem_self _ _ _
  unfold State.ringHalted
  rw [State.raise_rings_frame .ringStopped, State.raise_rings_frame .memError, hStop]

theorem State.ringHalted_staging (h : r ≠ eventRing) :
    (s.ringHalted r addr source).rings[r].staging = s.rings[r].staging.filter (fun e => e.issued.isNone) := by
  unfold State.ringHalted
  rw [State.raise_rings_of_ne h, State.raise_rings_of_ne h]
  exact congrArg Ring.staging (upd_getElem_self _ _ _)

theorem State.ringHalted_other {q : Fin 4} (hq : q ≠ r) (hEvent : q ≠ eventRing) :
    (s.ringHalted r addr source).rings[q] = s.rings[q] := by
  unfold State.ringHalted
  rw [State.raise_rings_of_ne hEvent, State.raise_rings_of_ne hEvent]
  exact upd_getElem_of_ne _ _ (Ne.symm hq)

end Stopping

/-- The two records of an EVENT ring that stops join what is left of its staging. -/
theorem State.ringHalted_records (addr : Addr) (source : Nat) {s : State} (hMem : s.ev.log.getLsbD 31 = true)
    (hStop : s.ev.log.getLsbD 3 = true)
    (hRoom : (s.rings[eventRing].staging.filter (fun e => e.issued.isNone)).length + 2 ≤ 8) :
    (s.ringHalted eventRing addr source).rings[eventRing].staging =
      s.rings[eventRing].staging.filter (fun e => e.issued.isNone) ++
        [{ record := .event (s.occurrence .memError addr.toNat source), issued := none },
         { record := .event { s.occurrence .ringStopped eventRing.val s.rings[eventRing].written.toNat with
             seq := nextNumber s.ev.seq }, issued := none }] := by
  let u : State := s.ringStopped eventRing
  have hRing : u.rings[eventRing] = s.rings[eventRing].stop := upd_getElem_self _ _ _
  have hSet : u.rings[eventRing].state ≠ .unset := by
    rw [hRing]
    nofun
  have hLess : u.rings[eventRing].staging.length < 8 := by
    rw [hRing]
    exact Nat.lt_of_succ_lt hRoom
  let v : State := (u.modEv (Events.logged .memError)).modRing eventRing
    (Ring.staged (u.occurrence .memError addr.toNat source))
  have hFirst : u.raise .memError addr.toNat source = v := State.raise_of_room hMem hSet hLess
  have hRing' : v.rings[eventRing] = s.rings[eventRing].stop.staged (u.occurrence .memError addr.toNat source) := by
    rw [← hRing]
    exact upd_getElem_self _ _ _
  have hSet' : v.rings[eventRing].state ≠ .unset := by
    rw [hRing']
    nofun
  have hLess' : v.rings[eventRing].staging.length < 8 := by
    rw [hRing']
    exact List.length_append.trans_lt hRoom
  unfold State.ringHalted
  rw [hFirst, State.raise_of_room hStop hSet' hLess', State.modRing_rings, upd_getElem_self]
  change (v.rings[eventRing].staged _).staging = _
  rw [hRing']
  exact List.append_assoc _ _ _

/-! ## What follows for a report in flight (R170) -/

theorem State.performClose_rings {q : Fin 4} (hq : q ≠ eventRing) (cause : CloseCause) (s : State) :
    (s.performClose cause).rings[q] = s.rings[q] := by
  unfold State.performClose
  rw [State.raise_rings_of_ne hq]
  unfold State.placeReport
  split
  · rfl
  · exact State.raise_rings_of_ne hq
  · rfl

/-- An answer adds to the accesses in flight and takes none away. -/
theorem State.mem_finish_down_of_mem {s : State} {code : ResultCode} {force : Bool} {a : InFlight} (h : a ∈ s.path.down) :
    a ∈ (s.finish code force).path.down := by
  cases hDispatched : s.cp.dispatched with
  | none => simpa [State.finish, hDispatched] using h
  | some c =>
    have hAnswered : a ∈ (s.answeredState c code).path.down := List.mem_append_left _ h
    rw [State.finish_eq hDispatched]
    split
    · rcases State.writeBack_cases (s.answeredState c code) with hBack | hBack
      · rw [hBack]
        exact hAnswered
      · rw [hBack, State.issueHeader_eq]
        exact List.mem_append_left _ hAnswered
    · exact hAnswered

/-- The accesses in flight stand, but for a result or a write-back, and so do the rings but for EVENT staging. -/
structure State.Quits (s t : State) : Prop where
  rings : ∀ q, q ≠ eventRing → t.rings[q] = s.rings[q]
  keeps : ∀ a ∈ s.path.down, a ∈ t.path.down
  adds : ∀ a ∈ t.path.down, a ∈ s.path.down ∨ (∃ i, a.what = .result i) ∨ ∃ why, a.what = .header why
  flags : ∀ k, s.ev.pending.getLsbD k = true → t.ev.pending.getLsbD k = true
  pos : t.pos = s.pos
  ing : t.ing = s.ing

theorem State.Quits.refl (s : State) : s.Quits s := ⟨fun _ _ => rfl, fun _ h => h, fun _ h => .inl h, fun _ h => h, rfl, rfl⟩

theorem State.quits_performDeferred (s : State) : s.Quits s.performDeferred := by
  cases hCause : s.tally.deferred with
  | none =>
    rw [State.performDeferred_none hCause]
    exact .refl s
  | some cause =>
    let u : State := s.modTally (fun t => { t with deferred := none })
    have hSteady : Steady u (u.performClose cause) := State.performClose_steady cause u
    have hRings (q : Fin 4) (hq : q ≠ eventRing) : (u.performClose cause).rings[q] = s.rings[q] :=
      State.performClose_rings hq cause u
    have hPos : (u.performClose cause).pos = s.pos := State.performClose_pos cause u
    have hIng : (u.performClose cause).ing = s.ing := State.performClose_ing cause u
    have hPath : (u.performClose cause).path = s.path := hSteady.path
    have hRun : s.performDeferred = if (u.performClose cause).cp.wait = some .close then
        (u.performClose cause).finish .ok false else u.performClose cause := by
      unfold State.performDeferred
      rw [hCause]
    rw [hRun]
    split
    · have hFrame := State.finish_frame .ok false (u.performClose cause)
      refine ⟨fun q hq => ?_, fun a ha => State.mem_finish_down_of_mem (by rwa [hPath]), fun a ha => ?_, fun k hk => ?_, ?_, ?_⟩
      · rw [hFrame]
        exact hRings q hq
      · have hOld := State.mem_finish_down ha
        rwa [hPath] at hOld
      · rw [hFrame]
        exact hSteady.flags k hk
      · rw [hFrame]
        exact hPos
      · rw [hFrame]
        exact hIng
    · exact ⟨hRings, fun a ha => by rwa [hPath], fun a ha => .inl (by rwa [hPath] at ha), hSteady.flags, hPos, hIng⟩

theorem State.dropReport_accepts {s : State} {p : Report} (h : s.tally.slot = .inFlight p .accept) :
    s.dropReport = (s.modTally (fun t => { t with slot := .empty })).performDeferred := by
  unfold State.dropReport
  rw [h]

theorem State.dropReport_none {s : State} (h : ∀ p, s.tally.slot ≠ .inFlight p .accept) : s.dropReport = s := by
  unfold State.dropReport
  split
  next p hSlot => exact absurd hSlot (h p)
  next => rfl

theorem State.quits_dropReport (s : State) : s.Quits s.dropReport := by
  by_cases h : ∃ p, s.tally.slot = .inFlight p .accept
  · obtain ⟨p, hp⟩ := h
    rw [State.dropReport_accepts hp]
    obtain ⟨hRings, hKeeps, hAdds, hFlags, hPos, hIng⟩ :=
      State.quits_performDeferred (s.modTally (fun t => { t with slot := .empty }))
    exact ⟨hRings, hKeeps, hAdds, hFlags, hPos, hIng⟩
  · rw [State.dropReport_none (not_exists.1 h)]
    exact .refl s

section
variable (r : Fin 4) (addr : Addr) (source : Nat) (s : State)

/-- The part with the ring stopped, before the Grader looks at it again. -/
def State.ringQuit : State :=
  if r = reportRing then (s.ringHalted r addr source).dropReport else s.ringHalted r addr source

theorem State.stopRing_frame : s.stopRing r addr source =
    { s.ringQuit r addr source with grader := (s.stopRing r addr source).grader } :=
  State.ringChanged_frame r (s.ringQuit r addr source)

theorem State.quits_ringQuit : (s.ringHalted r addr source).Quits (s.ringQuit r addr source) := by
  unfold State.ringQuit
  split
  · exact State.quits_dropReport _
  · exact .refl _

theorem State.ringQuit_other (h : r ≠ reportRing) : s.ringQuit r addr source = s.ringHalted r addr source := if_neg h

/-- The part with the REPORT ring stopped and the report in flight discarded, before a deferred close. -/
def State.reportQuit : State :=
  { s with path := (s.relive (AccessFor.isRecordOf r) .stopped).path, ev := (s.ringHalted r addr source).ev,
           rings := (s.ringHalted r addr source).rings, tally := { s.tally with slot := .empty } }

variable {s} in
theorem State.ringQuit_accepts (hReport : r = reportRing) {p : Report} (hSlot : s.tally.slot = .inFlight p .accept) :
    s.ringQuit r addr source = (s.reportQuit r addr source).performDeferred := by
  have hHalted := State.ringHalted_frame r addr source s
  have hTally : (s.ringHalted r addr source).tally = s.tally := by rw [hHalted]
  unfold State.ringQuit
  rw [if_pos hReport, State.dropReport_accepts (by rw [hTally]; exact hSlot)]
  exact congrArg (fun u : State => (u.modTally (fun t => { t with slot := .empty })).performDeferred) hHalted

theorem State.relive_stops {a : InFlight} {i : Idx} (ha : a ∈ (s.relive (AccessFor.isRecordOf r) .stopped).path.down) :
    a.what ≠ .record r i .live := by
  obtain ⟨b, -, rfl⟩ := List.mem_map.1 ha
  intro hWhat
  split at hWhat
  next hRecord =>
    cases hb : b.what <;> rw [hb] at hRecord hWhat <;> simp_all [AccessFor.isRecordOf, AccessFor.withLife]
  next hOther => exact hOther (by rw [hWhat]; simp [AccessFor.isRecordOf])

theorem State.relive_word {a : InFlight} {v : Idx} (ha : a ∈ s.path.down) (hWord : a.what = .prodWord r v .live) :
    a ∈ (s.relive (AccessFor.isRecordOf r) .stopped).path.down :=
  List.mem_map.2 ⟨a, ha, if_neg (by rw [hWord]; simp [AccessFor.isRecordOf])⟩

end

/-- Settles O39. -/
theorem memoryErrorIsHandled : Obligations.MemoryErrorIsHandled := by
  refine ⟨⟨fun a s hIn => ?access, fun s hDue => ?slot⟩, fun r addr source s => ?stops⟩
  case access =>
    intro s1 told answered run
    have hCp : (told 4).cp = s.cp := (Works.refl s1).raise.cp
    have hRun : run = .next (s.accessError a) := exec_memError_access hIn
    have hEq := State.accessError_eq a s
    rw [hRun]
    refine ⟨fun id hWhat => ?_, fun id hWhat => ?_, fun id hWhat => ?_, fun r i hWhat hState => ?_, fun r i hWhat hState => ?_,
      fun r i hWhat => ?_, fun r i hWhat => ?_, fun r v hWhat hState => ?_, fun r v hWhat hState => ?_, fun r v hWhat => ?_,
      fun r v hWhat => ?_, fun i hWhat => ?_, fun r hWhat => ?_, fun why hWhat => ?_⟩
    all_goals rw [hWhat] at hEq
    case refine_4 => exact congrArg _ (hEq.trans (State.ringError_running (s := s1) hState))
    case refine_5 => exact congrArg _ (hEq.trans (State.ringError_stands (s := s1) hState))
    case refine_8 => exact congrArg _ (hEq.trans (State.ringError_running (s := s1) hState))
    case refine_9 => exact congrArg _ (hEq.trans (State.ringError_stands (s := s1) hState))
    case refine_12 =>
      rw [hEq, ← hCp]
      rfl
    all_goals exact congrArg _ hEq
  case slot => exact if_pos hDue
  case stops =>
    intro t g waiting record
    have hQuit := State.quits_ringQuit r addr source s
    have hFrame := State.stopRing_frame r addr source s
    have hHalted := State.ringHalted_frame r addr source s
    have hT : t.rings = (s.ringQuit r addr source).rings ∧ t.path = (s.ringQuit r addr source).path
        ∧ t.ev = (s.ringQuit r addr source).ev ∧ t.tally = (s.ringQuit r addr source).tally
        ∧ t.pos = (s.ringQuit r addr source).pos ∧ t.ing = (s.ringQuit r addr source).ing := by
      rw [show t = _ from hFrame]
      exact ⟨rfl, rfl, rfl, rfl, rfl, rfl⟩
    obtain ⟨hRings, hPath, hEv, hTally, hPos, hIng⟩ := hT
    have hDown : (s.ringHalted r addr source).path = (s.relive (AccessFor.isRecordOf r) .stopped).path := by rw [hHalted]
    have hHaltedTally : (s.ringHalted r addr source).tally = s.tally := by rw [hHalted]
    have hG : g = (s.ringHalted r addr source).rings[r] := by
      change t.rings[r] = _
      rw [hRings]
      by_cases hReport : r = reportRing
      · exact hQuit.rings r (by rw [hReport]; decide)
      · rw [State.ringQuit_other r addr source s hReport]
    obtain ⟨hMem, hStop⟩ := State.ringHalted_flags r addr source s
    have hRing := State.ringHalted_ring r addr source s
    rw [← hG] at hRing
    rw [hRing]
    refine ⟨rfl, rfl, rfl, rfl, rfl, rfl, rfl, rfl, fun hOther => ?_, fun hEvent hLogMem hLogStop hRoom => ?_, ?_, ?_,
      fun a ha i => ?_, fun a ha v hWhat => ?_, fun q hq hEvent => ?_, fun p hReport hSlot => ⟨fun hNone => ?_, fun cause hCause => ?_⟩,
      fun hOther => ?_, ?_, ?_⟩
    · rw [hG]
      exact State.ringHalted_staging r addr source s hOther
    · subst hEvent
      rw [hG]
      exact State.ringHalted_records addr source hLogMem hLogStop hRoom
    · rw [hEv]
      exact hQuit.flags 31 hMem
    · rw [hEv]
      exact hQuit.flags 3 hStop
    · rw [hPath] at ha
      rcases hQuit.adds a ha with hOld | ⟨j, hResult⟩ | ⟨why, hHeader⟩
      · rw [hDown] at hOld
        exact State.relive_stops r s hOld
      · rw [hResult]
        nofun
      · rw [hHeader]
        nofun
    · rw [hPath]
      refine hQuit.keeps a ?_
      rw [hDown]
      exact State.relive_word r s ha hWhat
    · rw [hRings, hQuit.rings q hEvent]
      exact State.ringHalted_other r addr source s hq hEvent
    · rw [hTally, State.ringQuit_accepts r addr source hReport hSlot]
      exact congrArg State.tally (State.performDeferred_none (s := s.reportQuit r addr source) hNone)
    · obtain ⟨hClosed, -, -, hTold, -, -, -⟩ := State.performDeferred_some (s := s.reportQuit r addr source) hCause
      rw [Tally.placed_empty (t := { (s.reportQuit r addr source).tally with deferred := none }) rfl] at hClosed
      rw [hTally, hEv, State.ringQuit_accepts r addr source hReport hSlot, hClosed]
      exact ⟨rfl, rfl, rfl, rfl, hTold, _, rfl, rfl, rfl, rfl, rfl⟩
    · rw [hTally, ← hHaltedTally]
      by_cases hReport : r = reportRing
      · have hNone (p : Report) : (s.ringHalted r addr source).tally.slot ≠ .inFlight p .accept := by
          rw [hHaltedTally]
          exact hOther.resolve_left (not_not.2 hReport) p
        unfold State.ringQuit
        rw [if_pos hReport, State.dropReport_none hNone]
      · rw [State.ringQuit_other r addr source s hReport]
    · rw [hPos, hQuit.pos, hHalted]
    · rw [hIng, hQuit.ing, hHalted]

end Sys2Proof.Machine
end
section
/-! PROOFS. Layouts (R194, R195): fields that ascend read back as their values, and the bytes between them read 0. -/

set_option Elab.async false

namespace Sys2Proof.Machine

/-! ## Fields in ascending order -/

/-- The fields of a list lie in [lo, hi), each after the one before it. -/
def Fits (lo hi : Nat) (fs : List Field) : Prop :=
  (∀ f ∈ fs, lo ≤ f.off ∧ f.off + f.size ≤ hi) ∧ fs.Pairwise (fun f g => f.off + f.size ≤ g.off)

/-- Whether a list of fields fits, checked in one pass. -/
def fitsCheck (hi : Nat) : Nat → List Field → Bool
  | lo, [] => lo ≤ hi
  | lo, f :: fs => lo ≤ f.off && fitsCheck hi (f.off + f.size) fs

theorem fits_of_check {hi lo : Nat} {fs : List Field} (h : fitsCheck hi lo fs = true) : Fits lo hi fs ∧ lo ≤ hi := by
  induction fs generalizing lo with
  | nil => exact ⟨⟨nofun, .nil⟩, of_decide_eq_true h⟩
  | cons f fs ih =>
    rw [fitsCheck, Bool.and_eq_true, decide_eq_true_eq] at h
    obtain ⟨⟨hIn, hPairs⟩, hEnd⟩ := ih h.2
    refine ⟨⟨fun g hg => ?_, List.pairwise_cons.2 ⟨fun g hg => (hIn g hg).1, hPairs⟩⟩, by omega⟩
    rcases List.mem_cons.1 hg with rfl | hRest
    · exact ⟨h.1, hEnd⟩
    · obtain ⟨hLo, hHi⟩ := hIn g hRest
      exact ⟨by omega, hHi⟩

theorem Fits.of_check {hi lo : Nat} {fs : List Field} (h : fitsCheck hi lo fs = true) : Fits lo hi fs := (fits_of_check h).1

theorem Fits.append {lo mid hi : Nat} {fs gs : List Field} (hf : Fits lo mid fs) (hg : Fits mid hi gs) (h1 : lo ≤ mid)
    (h2 : mid ≤ hi) : Fits lo hi (fs ++ gs) := by
  refine ⟨fun f hMem => ?_, List.pairwise_append.2 ⟨hf.2, hg.2, fun f hfs g hgs => ?_⟩⟩
  · rcases List.mem_append.1 hMem with h | h
    · exact ⟨(hf.1 f h).1, (hf.1 f h).2.trans h2⟩
    · exact ⟨h1.trans (hg.1 f h).1, (hg.1 f h).2⟩
  · exact (hf.1 f hfs).2.trans (hg.1 g hgs).1

theorem Fits.widen {lo lo' hi hi' : Nat} {fs : List Field} (h : Fits lo hi fs) (hl : lo' ≤ lo) (hh : hi ≤ hi') :
    Fits lo' hi' fs :=
  ⟨fun f hf => ⟨hl.trans (h.1 f hf).1, (h.1 f hf).2.trans hh⟩, h.2⟩

theorem Fits.covered_by {lo hi x : Nat} {fs : List Field} {f : Field} (h : Fits lo hi fs) (hf : f ∈ fs)
    (hx : Field.covers x f = true) : fs.find? (Field.covers x) = some f := by
  obtain ⟨hIn, hPairs⟩ := h
  clear hIn
  induction fs with
  | nil => cases hf
  | cons g gs ih =>
    rw [List.pairwise_cons] at hPairs
    rcases List.mem_cons.1 hf with rfl | hRest
    · exact List.find?_cons_of_pos hx
    · refine (List.find?_cons_of_neg fun hg => ?_).trans (ih hRest hPairs.2)
      have hAfter := hPairs.1 f hRest
      simp only [Field.covers, Bool.and_eq_true, decide_eq_true_eq] at hx hg
      omega

section
variable {lo hi len : Nat} {fs : List Field}

/-- A field of a layout reads back as its value. -/
theorem Fits.field (h : Fits lo hi fs) {off size val : Nat} (hf : ⟨off, size, val⟩ ∈ fs) (hl : off + size ≤ len) :
    field (layout len fs) off size = val % 256 ^ size :=
  field_layoutFrom (f := ⟨off, size, val⟩) hl (Nat.zero_add off).symm rfl fun i hi' =>
    h.covered_by hf (by simp only [Field.covers, Bool.and_eq_true, decide_eq_true_eq]; omega)

theorem Fits.byteAt (h : Fits lo hi fs) {off val : Nat} (hf : ⟨off, 1, val⟩ ∈ fs) (hl : off + 1 ≤ len) :
    byteAt (layout len fs) off = val % 2 ^ 8 := h.field hf hl

/-- A byte that no field covers reads 0. -/
theorem byteAt_layout_gap {o : Nat} (hl : o < len) (h : ∀ f ∈ fs, ¬ Field.covers o f = true) :
    Sys2Proof.Machine.byteAt (layout len fs) o = 0 :=
  byteAt_layoutFrom_gap hl (by rw [Nat.zero_add]; exact List.find?_eq_none.2 h)

/-- Bytes that no field covers read 0, the list of them checked in one pass. -/
theorem byteAt_gaps {os : List Nat} (h : os.all (fun o => o < len && (fs.find? (Field.covers o)).isNone) = true) :
    ∀ o ∈ os, Sys2Proof.Machine.byteAt (layout len fs) o = 0 := by
  intro o ho
  have hOne := List.all_eq_true.1 h o ho
  rw [Bool.and_eq_true, decide_eq_true_eq, Option.isNone_iff_eq_none] at hOne
  exact byteAt_layoutFrom_gap hOne.1 (by rw [Nat.zero_add]; exact hOne.2)

/-- A byte outside the range of the fields is covered by none. -/
theorem Fits.not_covers (h : Fits lo hi fs) {o : Nat} (ho : o < lo ∨ hi ≤ o) : ∀ f ∈ fs, ¬ Field.covers o f = true := by
  intro f hf hc
  have hIn := h.1 f hf
  simp only [Field.covers, Bool.and_eq_true, decide_eq_true_eq] at hc
  omega

end

/-! ## Tables of counts -/

theorem countFields_cons (off x : Nat) (v : List Nat) :
    countFields off (x :: v) = ⟨off, 4, x⟩ :: countFields (off + 4) v := by
  simp only [countFields, List.zipIdx_cons, List.map_cons, Nat.mul_zero, Nat.add_zero, Nat.zero_add]
  congr 1
  rw [List.zipIdx_succ, List.map_map]
  exact List.map_congr_left fun p _ => by simp [Nat.mul_add]; omega

theorem fits_countFields (off : Nat) (v : List Nat) : Fits off (off + 4 * v.length) (countFields off v) := by
  induction v generalizing off with
  | nil => exact ⟨nofun, .nil⟩
  | cons x v ih =>
    rw [countFields_cons]
    refine Fits.append (fs := [⟨off, 4, x⟩]) (mid := off + 4) (Fits.of_check (by simp [fitsCheck])) ?_ (by omega)
      (by simp)
    exact (ih (off + 4)).widen le_rfl (by simp; omega)

theorem mem_countFields {n : Nat} (off : Nat) (v : Vector Nat n) (i : Fin n) :
    ⟨off + 4 * i.val, 4, v[i]⟩ ∈ countFields off v.toList := by
  refine List.mem_map.2 ⟨(v[i], i.val), ?_, rfl⟩
  rw [List.mem_zipIdx_iff_getElem?]
  simp

/-! ## Marks -/

theorem mark_le (b : Bool) : mark b ≤ 1 := by cases b <;> decide

theorem testBit_mark_zero (b : Bool) (n : Nat) : (mark b + 2 * n).testBit 0 = b := by
  rw [Nat.testBit_zero]
  cases b <;> simp [mark]

theorem testBit_mark_succ (b : Bool) (n i : Nat) : (mark b + 2 * n).testBit (i + 1) = n.testBit i := by
  rw [Nat.testBit_succ]
  congr 1
  have := mark_le b
  omega

theorem testBit_mark (b : Bool) : (mark b).testBit 0 = b := by cases b <;> decide

end Sys2Proof.Machine
end
section
/-! PROOFS. Records (R34, R169): issued, accepted, published, and laid out (R194, 11.3 to 11.5). -/

set_option Elab.async false

namespace Sys2Proof.Machine

/-! ## RECORD_ISSUE -/

/-- The oldest record of a staging that is not issued, with what stands before and behind it. -/
def oldestUnissued (staging : List Staged) (e : Staged) (before after : List Staged) : Prop :=
  staging = before ++ e :: after ∧ e.issued = none ∧ ∀ x ∈ before, x.issued ≠ none

section
variable {staging before after : List Staged} {e : Staged}

theorem find?_oldestUnissued (h : oldestUnissued staging e before after) :
    staging.find? (fun e => e.issued.isNone) = some e := by
  obtain ⟨rfl, hFree, hBefore⟩ := h
  have hNone : before.find? (fun e => e.issued.isNone) = none := List.find?_eq_none.2 fun x hx => by simpa using hBefore x hx
  rw [List.find?_append, hNone, Option.none_or]
  exact List.find?_cons_of_pos (by simp [hFree])

theorem markIssued_oldestUnissued (h : oldestUnissued staging e before after) (i : Idx) :
    markIssued i staging = before ++ { e with issued := some i } :: after := by
  obtain ⟨rfl, hFree, hBefore⟩ := h
  induction before with
  | nil => exact if_pos (by simp [hFree])
  | cons x xs ih =>
    obtain ⟨hx, hRest⟩ := List.forall_mem_cons.1 hBefore
    exact (if_neg (by simpa using hx)).trans (congrArg (x :: ·) (ih hRest))

end

section
variable {r : Fin 4} {s : State}

theorem State.hasRoom_iff (g : Ring) : g.hasRoom = true ↔ (g.issue - g.consumer).toNat < g.capacity - 1 := decide_eq_true_iff

theorem exec_recordIssue (hRunning : s.rings[r].state = .running)
    (hRoom : (s.rings[r].issue - s.rings[r].consumer).toNat < s.rings[r].capacity - 1) :
    exec (.recordIssue r) s = if r = reportRing then .next s.issueReport else .next (s.issueRecord r) := by
  change execRecordIssue r s = _
  unfold execRecordIssue
  exact if_pos ⟨hRunning, (State.hasRoom_iff _).2 hRoom⟩

theorem exec_recordIssue_full (hFull : s.rings[r].capacity - 1 ≤ (s.rings[r].issue - s.rings[r].consumer).toNat) :
    exec (.recordIssue r) s = .next s := by
  change execRecordIssue r s = _
  unfold execRecordIssue
  exact if_neg fun h => absurd ((State.hasRoom_iff _).1 h.2) (not_lt.2 hFull)

theorem State.issueRecord_eq {e : Staged} {before after : List Staged} (h : oldestUnissued s.rings[r].staging e before after) :
    s.issueRecord r = (s.issueWrite (.record r s.rings[r].issue .live) (s.rings[r].recordAddr r s.rings[r].issue)
      e.record.bytes).modRing r (fun g => { g with issue := g.issue + 1, staging := markIssued g.issue g.staging }) := by
  unfold State.issueRecord
  dsimp only
  rw [find?_oldestUnissued h]

theorem State.issueReport_eq {p : Report} (h : s.tally.slot = .waiting p) : s.issueReport =
    let g := s.rings[reportRing]
    let a := g.recordAddr reportRing g.issue
    (((s.issueWrite (.record reportRing g.issue .live) a (p.bytes.take 256)).issueWrite (.record reportRing g.issue .live)
      (a + 256) (p.bytes.drop 256)).modRing reportRing (fun g => { g with issue := g.issue + 1 })).modTally (fun t =>
        { t with slot := .inFlight p .accept }) := by
  unfold State.issueReport
  rw [h]

end

/-! ## The published index -/

theorem coverFrom_stands {fuel : Nat} {p : Idx} {acc : List Idx} (h : p ∉ acc) : coverFrom fuel p acc = (p, acc) := by
  cases fuel with
  | zero => rfl
  | succ fuel => exact if_neg (by simpa using h)

theorem coverFrom_step {fuel : Nat} {p : Idx} {acc : List Idx} (h : p ∈ acc) :
    coverFrom (fuel + 1) p acc = coverFrom fuel (p + 1) (acc.filter (· ≠ p)) := if_pos (by simpa using h)

theorem coverFrom_two {p : Idx} {acc : List Idx} (hOne : p + 1 ∈ acc) (hTwo : p + 2 ∉ acc) :
    (coverFrom (acc.length + 1) p (acc ++ [p])).1 = p + 2 := by
  have hAdd : p + 1 + 1 = p + 2 := BitVec.add_assoc p 1 1
  have hNe : p + 1 ≠ p := fun h => absurd (show (1 : Idx) = 0 by simp at h) (by decide)
  have hNe2 : p + 1 + 1 ≠ p := fun h => absurd (show (2 : Idx) = 0 by rw [hAdd] at h; simp at h) (by decide)
  have hSome : 0 < acc.length := List.length_pos_of_mem hOne
  have hFirst : p + 1 ∈ (acc ++ [p]).filter (· ≠ p) := by
    rw [List.mem_filter, decide_eq_true_eq]
    exact ⟨List.mem_append_left _ hOne, hNe⟩
  have hLast : p + 1 + 1 ∉ ((acc ++ [p]).filter (· ≠ p)).filter (· ≠ p + 1) := fun h => by
    rcases List.mem_append.1 (List.mem_filter.1 (List.mem_filter.1 h).1).1 with hOld | hSelf
    · exact hTwo (hAdd ▸ hOld)
    · exact hNe2 (List.mem_singleton.1 hSelf)
  rw [coverFrom_step (by simp), ← Nat.sub_add_cancel hSome, coverFrom_step hFirst, coverFrom_stands hLast, hAdd]

/-- The index advances over accepted records while there is one at it, and takes them out. -/
theorem coverFrom_spec (fuel : Nat) (p : Idx) (acc : List Idx) (h : acc.length ≤ fuel) :
    ∃ k : Nat, (coverFrom fuel p acc).1 = p + BitVec.ofNat 16 k
      ∧ (∀ j, j < k → p + BitVec.ofNat 16 j ∈ acc)
      ∧ (coverFrom fuel p acc).1 ∉ (coverFrom fuel p acc).2
      ∧ ∀ x : Idx, x ∈ (coverFrom fuel p acc).2 ↔ x ∈ acc ∧ ∀ j, j < k → x ≠ p + BitVec.ofNat 16 j := by
  induction fuel generalizing p acc with
  | zero =>
    obtain rfl := List.eq_nil_of_length_eq_zero (Nat.le_zero.1 h)
    exact ⟨0, by simp [coverFrom], nofun, by simp [coverFrom], by simp [coverFrom]⟩
  | succ fuel ih =>
    by_cases hp : p ∈ acc
    · have hStep : coverFrom (fuel + 1) p acc = coverFrom fuel (p + 1) (acc.filter (· ≠ p)) := coverFrom_step hp
      have hShorter : (acc.filter (· ≠ p)).length < acc.length := by
        refine lt_of_le_of_ne (List.length_filter_le ..) fun hEq => ?_
        have hAll := List.length_filter_eq_length_iff.1 hEq p hp
        simp at hAll
      obtain ⟨k, hIndex, hCovered, hNot, hRest⟩ := ih (p + 1) (acc.filter (· ≠ p)) (by omega)
      have hNext (j : Nat) : p + 1 + BitVec.ofNat 16 j = p + BitVec.ofNat 16 (j + 1) := by
        rw [BitVec.ofNat_add, BitVec.add_assoc, BitVec.add_comm 1]
        rfl
      rw [hStep]
      refine ⟨k + 1, by rw [hIndex, hNext], fun j hj => ?_, hNot, fun x => ?_⟩
      · cases j with
        | zero => simpa using hp
        | succ j =>
          rw [← hNext]
          exact (List.mem_filter.1 (hCovered j (Nat.lt_of_succ_lt_succ hj))).1
      · rw [hRest, List.mem_filter, decide_eq_true_eq]
        constructor
        · rintro ⟨⟨hx, hxp⟩, hAway⟩
          refine ⟨hx, fun j hj => ?_⟩
          cases j with
          | zero => simpa using hxp
          | succ j =>
            rw [← hNext]
            exact hAway j (Nat.lt_of_succ_lt_succ hj)
        · rintro ⟨hx, hAway⟩
          refine ⟨⟨hx, by simpa using hAway 0 k.succ_pos⟩, fun j hj => ?_⟩
          rw [hNext]
          exact hAway (j + 1) (Nat.succ_lt_succ hj)
    · rw [coverFrom_stands hp]
      exact ⟨0, by simp, nofun, hp, fun x => ⟨fun hx => ⟨hx, nofun⟩, fun hx => hx.1⟩⟩

section
variable {r : Fin 4} {i : Idx} {s : State}

theorem exec_recordAccepted (hr : r ≠ reportRing) (hIn : ∃ a ∈ s.path.down, a.what = .record r i .live) :
    exec (.recordAccepted r i) s =
      .next (((s.landAll (InFlight.isLiveRecord r i)).modRing r (Ring.accept i)).ringChanged r) := by
  change execRecordAccepted r i s = _
  unfold execRecordAccepted
  refine if_pos ⟨hr, ?_⟩
  obtain ⟨a, ha, hWhat⟩ := hIn
  exact List.any_eq_true.2 ⟨a, ha, by simp [InFlight.isLiveRecord, hWhat]⟩

theorem exec_producerWordWrite (hRunning : s.rings[r].state = .running) (hAhead : s.rings[r].published ≠ s.rings[r].written)
    (hNone : ∀ a ∈ s.path.down, ∀ v l, a.what ≠ .prodWord r v l) : exec (.producerWordWrite r) s =
      .next (s.issueWrite (.prodWord r s.rings[r].published .live) (BitVec.ofNat 40 s.rings[r].base)
        (toBytes 4 s.rings[r].published.toNat)) := by
  change execProducerWordWrite r s = _
  unfold execProducerWordWrite
  refine if_pos ⟨hRunning, hAhead, ?_⟩
  rw [Bool.not_eq_true', List.any_eq_false]
  intro a ha
  unfold AccessFor.isProdWord
  split
  next q v l hWhat =>
    rw [decide_eq_true_eq]
    rintro rfl
    exact hNone a ha v l hWhat
  next => exact Bool.false_ne_true

end

/-! ## The layouts of the records -/

theorem FlawClass.code_lt (c : FlawClass) : c.code < 256 := by cases c <;> decide
theorem RowKind.code_lt (k : RowKind) : k.code < 256 := by cases k <;> decide
theorem OutcomeKind.code_lt (k : OutcomeKind) : k.code < 256 := by cases k <;> decide
theorem CloseCause.code_lt (c : CloseCause) : c.code < 256 := by cases c <;> decide
theorem Grade.code_lt (g : Grade) : g.code < 256 := by cases g <;> decide

/-- The flags of a FLAW record, bit by bit. -/
theorem Flaw.flagBits_eq (f : Flaw) : f.flagBits = mark f.flags.forced + 2 * (mark f.flags.continued + 2 * (mark f.flags.seam
    + 2 * (mark f.flags.overflow + 2 * (mark f.notMapped + 2 * mark f.nearSpan)))) := by
  unfold Flaw.flagBits
  omega

theorem Flaw.flagBits_lt (f : Flaw) : f.flagBits < 2 ^ 6 := by
  have h0 := mark_le f.flags.forced
  have h1 := mark_le f.flags.continued
  have h2 := mark_le f.flags.seam
  have h3 := mark_le f.flags.overflow
  have h4 := mark_le f.notMapped
  have h5 := mark_le f.nearSpan
  unfold Flaw.flagBits
  omega

theorem Flaw.fits (f : Flaw) : Fits 0 64 f.fields := .of_check rfl

theorem Flaw.read (f : Flaw) {off size val : Nat} (h : ⟨off, size, val⟩ ∈ f.fields) :
    field (Record.flaw f).bytes off size = val % 256 ^ size := f.fits.field h (f.fits.1 _ h).2

theorem Flaw.field_flags (f : Flaw) : field (Record.flaw f).bytes 0x06 2 = f.flagBits :=
  (f.read (by simp [Flaw.fields])).trans (Nat.mod_eq_of_lt (f.flagBits_lt.trans (by decide)))

theorem EventRec.fits (e : EventRec) : Fits 0 32 e.fields := .of_check rfl

theorem EventRec.read (e : EventRec) {off size val : Nat} (h : ⟨off, size, val⟩ ∈ e.fields) :
    field (Record.event e).bytes off size = val % 256 ^ size := e.fits.field h (e.fits.1 _ h).2

/-- The flags of a plate record, bit by bit. -/
theorem PlateFlags.bits_eq (f : PlateFlags) : f.bits = mark f.uninspected + 2 * (mark f.mapFull + 2 * (mark f.unsealed
    + 2 * (mark f.cutMissed + 2 * (mark f.cutOffset + 2 * (mark f.edgeShort + 2 * (mark f.regraded
    + 2 * (mark f.reassigned + 2 * mark f.shifted))))))) := by
  unfold PlateFlags.bits
  omega

theorem PlateFlags.bits_lt (f : PlateFlags) : f.bits < 2 ^ 9 := by
  have h0 := mark_le f.uninspected
  have h1 := mark_le f.mapFull
  have h2 := mark_le f.unsealed
  have h3 := mark_le f.cutMissed
  have h4 := mark_le f.cutOffset
  have h5 := mark_le f.edgeShort
  have h6 := mark_le f.regraded
  have h7 := mark_le f.reassigned
  have h8 := mark_le f.shifted
  unfold PlateFlags.bits
  omega

theorem PlateRec.fits (p : PlateRec) : Fits 0 64 p.fields := .of_check rfl

theorem PlateRec.read (p : PlateRec) {off size val : Nat} (h : ⟨off, size, val⟩ ∈ p.fields) :
    field (Record.plate p).bytes off size = val % 256 ^ size := p.fits.field h (p.fits.1 _ h).2

theorem PlateRec.field_flags (p : PlateRec) : field (Record.plate p).bytes 0x2A 2 = p.flags.bits :=
  (p.read (by simp [PlateRec.fields])).trans (Nat.mod_eq_of_lt (p.flags.bits_lt.trans (by decide)))

/-- A grade of a plate record, and its absence. -/
theorem PlateRec.read_grade (p : PlateRec) {off : Nat} {g : Option Grade} (h : ⟨off, 1, gradeOrAbsent g⟩ ∈ p.fields) :
    (∀ x, g = some x → byteAt (Record.plate p).bytes off = x.code) ∧ (g = none → byteAt (Record.plate p).bytes off = 0xFF) := by
  have hRead : byteAt (Record.plate p).bytes off = gradeOrAbsent g % 256 := p.read h
  constructor
  · rintro x rfl
    exact hRead.trans (Nat.mod_eq_of_lt x.code_lt)
  · rintro rfl
    exact hRead

theorem Tallies.fits (t : Tallies) : Fits 0x40 0x178 t.fields := by
  have hTable {n : Nat} (off : Nat) (v : Vector Nat n) : Fits off (off + 4 * n) (countFields off v.toList) := by
    have h := fits_countFields off v.toList
    rwa [Vector.length_toList] at h
  unfold Tallies.fields
  refine Fits.append (mid := 0xD8) ?_ (hTable 0xD8 t.byClass) (by decide) (by decide)
  refine Fits.append (mid := 0xC4) ?_ (.of_check rfl) (by decide) (by decide)
  refine Fits.append (mid := 0xA4) ?_ (hTable 0xA4 t.linkErrors) (by decide) (by decide)
  refine Fits.append (mid := 0x88) ?_ (.of_check rfl) (by decide) (by decide)
  refine Fits.append (mid := 0x78) ?_ (hTable 0x78 t.outcomes) (by decide) (by decide)
  refine Fits.append (mid := 0x68) ?_ (hTable 0x68 t.grades) (by decide) (by decide)
  refine Fits.append (mid := 0x60) ?_ (.of_check rfl) (by decide) (by decide)
  refine Fits.append (mid := 0x48) ?_ (hTable 0x48 t.uninspected) (by decide) (by decide)
  exact .of_check rfl

theorem Report.flagBits_eq (r : Report) :
    r.flagBits = mark r.merged + 2 * (mark r.clockSet + 2 * mark r.saturated) := by
  unfold Report.flagBits
  omega

theorem Report.flagBits_lt (r : Report) : r.flagBits < 2 ^ 3 := by
  have h0 := mark_le r.merged
  have h1 := mark_le r.clockSet
  have h2 := mark_le r.saturated
  unfold Report.flagBits
  omega

/-- The fields of a report before its tallies. -/
def Report.headFields (r : Report) : List Field :=
  [⟨0x00, 4, r.shift⟩, ⟨0x04, 4, r.covered⟩, ⟨0x08, 1, r.cause.code⟩, ⟨0x09, 1, r.flagBits⟩, ⟨0x0A, 2, r.yield⟩,
   ⟨0x0C, 2, r.startDay.toNat⟩, ⟨0x0E, 2, r.endDay.toNat⟩, ⟨0x10, 4, r.startTod⟩, ⟨0x14, 4, r.endTod⟩,
   ⟨0x18, 8, r.startLine⟩, ⟨0x20, 8, r.endLine⟩]

theorem Report.fields_eq (r : Report) : r.fields = r.headFields ++ r.tallies.fields := rfl

theorem Report.headFits (r : Report) : Fits 0 0x28 r.headFields := .of_check rfl

theorem Report.fits (r : Report) : Fits 0 0x178 r.fields := by
  rw [Report.fields_eq]
  exact r.headFits.append (r.tallies.fits.widen (by decide : 0x28 ≤ 0x40) le_rfl) (by decide) (by decide)

theorem Report.read (r : Report) {off size val : Nat} (h : ⟨off, size, val⟩ ∈ r.fields) :
    field r.bytes off size = val % 256 ^ size := r.fits.field h ((r.fits.1 _ h).2.trans (by decide))

theorem Report.byte_flags (r : Report) : byteAt r.bytes 0x09 = r.flagBits :=
  (r.read (size := 1) (by simp [Report.fields])).trans (Nat.mod_eq_of_lt (r.flagBits_lt.trans (by decide)))

/-- Tallies laid out among the fields of a layout read back. -/
theorem Tallies.laidOut_layout {lo hi len : Nat} {fs : List Field} (t : Tallies) (h : Fits lo hi fs) (hLen : 0x178 ≤ len)
    (hIn : ∀ f ∈ t.fields, f ∈ fs) : t.laidOut (layout len fs) := by
  have hRead {off size val : Nat} (hf : ⟨off, size, val⟩ ∈ t.fields) :
      field (layout len fs) off size = val % 256 ^ size :=
    h.field (hIn _ hf) (by have hEnd := (t.fits.1 _ hf).2; exact hEnd.trans hLen)
  have hTable {n : Nat} {off : Nat} {v : Vector Nat n} (hv : ∀ f ∈ countFields off v.toList, f ∈ t.fields) (i : Fin n) :
      field (layout len fs) (off + 4 * i.val) 4 = v[i] % 256 ^ 4 := hRead (hv _ (mem_countFields off v i))
  have hUninspected := hTable (off := 0x48) (v := t.uninspected) fun f hf => by
    simp only [Tallies.fields, List.mem_append, hf, true_or, or_true]
  have hGrades := hTable (off := 0x68) (v := t.grades) fun f hf => by
    simp only [Tallies.fields, List.mem_append, hf, true_or, or_true]
  have hOutcomes := hTable (off := 0x78) (v := t.outcomes) fun f hf => by
    simp only [Tallies.fields, List.mem_append, hf, true_or, or_true]
  have hErrors := hTable (off := 0xA4) (v := t.linkErrors) fun f hf => by
    simp only [Tallies.fields, List.mem_append, hf, true_or, or_true]
  have hClasses := hTable (off := 0xD8) (v := t.byClass) fun f hf => by
    simp only [Tallies.fields, List.mem_append, hf, or_true]
  refine ⟨hRead ?_, hRead ?_, hUninspected, hRead ?_, hRead ?_, fun i => ⟨hGrades i, hOutcomes i⟩, hRead ?_, hRead ?_, hRead ?_,
    hRead ?_, hRead ?_, hRead ?_, hRead ?_, hErrors, hRead ?_, hRead ?_, hRead ?_, hClasses⟩
  all_goals simp [Tallies.fields]

/-- Settles O40. -/
theorem recordsAreIssuedAndPublished : Obligations.RecordsAreIssuedAndPublished := by
  refine ⟨fun r s hRunning => ⟨fun hRoom hr e hOldest => ?issue, fun hRoom hr p hSlot => ?report, fun hFull => ?full⟩,
    fun r s => ⟨fun i hr hIn => ?accepted, fun hRunning hAhead hNone => ?word⟩, fun f => ?flaw, fun e => ?event, fun p => ?plate,
    fun r => ?tally⟩
  case issue =>
    obtain ⟨before, after, hOldest⟩ := hOldest
    let v : State := (s.issueWrite (.record r s.rings[r].issue .live) (s.rings[r].recordAddr r s.rings[r].issue)
      e.record.bytes).modRing r (fun g => { g with issue := g.issue + 1, staging := markIssued g.issue g.staging })
    have hRing : v.rings[r] = { s.rings[r] with
        issue := s.rings[r].issue + 1, staging := before ++ { e with issued := some s.rings[r].issue } :: after } := by
      rw [← markIssued_oldestUnissued hOldest]
      exact upd_getElem_self _ _ _
    refine ⟨v, ?_, rfl, rfl, fun q hq => upd_getElem_of_ne _ _ (Ne.symm hq), by rw [hRing], ?_, by rw [hRing]; simp⟩
    · rw [exec_recordIssue hRunning hRoom, if_neg hr, State.issueRecord_eq hOldest]
    · rw [hRing, hOldest.1]
      simp
  case report =>
    subst hr
    rw [exec_recordIssue hRunning hRoom, if_pos rfl, State.issueReport_eq hSlot]
    simp only [State.issueWrite, State.issue, State.modPath, State.modRing, State.modTally, List.append_assoc,
      List.singleton_append]
    rfl
  case full => exact exec_recordIssue_full hFull
  case accepted =>
    let u : State := (s.landAll (InFlight.isLiveRecord r i)).modRing r (Ring.accept i)
    have hFrame : u.ringChanged r = { u with grader := (u.ringChanged r).grader } := State.ringChanged_frame r u
    have hRing : u.rings[r] = s.rings[r].accept i := upd_getElem_self _ _ _
    refine ⟨u.ringChanged r, exec_recordAccepted hr hIn, ?_⟩
    have hRings : (u.ringChanged r).rings = u.rings := by rw [hFrame]
    have hGrader : r ≠ plateRing → (u.ringChanged r).grader = s.grader := fun hPlate => by
      unfold State.ringChanged
      rw [if_neg hPlate]
      rfl
    rw [hRings, hRing]
    refine ⟨by rw [hFrame]; rfl, by rw [hFrame]; rfl, fun q hq => upd_getElem_of_ne _ _ (Ne.symm hq), rfl, fun hi hNot => ?_,
      fun hi hEmpty => ?_, fun hi hOne hTwo => ?_, ?_, hGrader⟩
    · have hStands : s.rings[r].published ∉ s.rings[r].accepted ++ [i] := by
        rw [List.mem_append, List.mem_singleton]
        exact not_or.2 ⟨hNot, Ne.symm hi⟩
      simp only [Ring.accept]
      rw [coverFrom_stands hStands]
      exact ⟨rfl, rfl⟩
    · subst hi
      simp only [Ring.accept]
      rw [coverFrom_step (by simp), hEmpty, coverFrom_stands (by simp)]
      simp
    · subst hi
      exact coverFrom_two hOne hTwo
    · exact coverFrom_spec _ _ _ (by simp)
  case word => exact exec_producerWordWrite hRunning hAhead hNone
  case flaw =>
    intro b flag
    have hFlag (i : Nat) : flag i = f.flagBits.testBit i := congrArg (fun n => Nat.testBit n i) f.field_flags
    have hBits : flag 0 = f.flags.forced ∧ flag 1 = f.flags.continued ∧ flag 2 = f.flags.seam ∧ flag 3 = f.flags.overflow
        ∧ flag 4 = f.notMapped ∧ flag 5 = f.nearSpan := by
      simp only [hFlag, Flaw.flagBits_eq, testBit_mark_zero, testBit_mark_succ, testBit_mark, and_self]
    obtain ⟨h0, h1, h2, h3, h4, h5⟩ := hBits
    refine ⟨layout_length _ _, f.read ?_, (f.read (size := 1) ?_).trans (Nat.mod_eq_of_lt f.cls.code_lt),
      f.read (size := 1) ?_, h0, h1, h2, h3, h4, h5, f.field_flags.trans_lt f.flagBits_lt, f.read ?_, f.read ?_, f.read ?_,
      f.read ?_, f.read ?_, f.read ?_, f.read ?_, f.read ?_, f.read ?_, f.read (size := 1) ?_,
      (f.read ?_).trans (Nat.mod_eq_of_lt f.day.isLt), f.read ?_, byteAt_gaps rfl⟩
    all_goals simp [Flaw.fields]
  case event =>
    intro b
    refine ⟨layout_length _ _, (e.read (size := 1) ?_).trans (Nat.mod_eq_of_lt (e.kind.num_lt.trans (by decide))), e.read ?_,
      e.read ?_, (e.read ?_).trans (Nat.mod_eq_of_lt e.day.isLt), e.read ?_, e.read ?_, e.read ?_, byteAt_gaps rfl⟩
    all_goals simp [EventRec.fields]
  case plate =>
    intro b flag
    have hFlag (i : Nat) : flag i = p.flags.bits.testBit i := congrArg (fun n => Nat.testBit n i) p.field_flags
    have hBits : flag 0 = p.flags.uninspected ∧ flag 1 = p.flags.mapFull ∧ flag 2 = p.flags.unsealed
        ∧ flag 3 = p.flags.cutMissed ∧ flag 4 = p.flags.cutOffset ∧ flag 5 = p.flags.edgeShort ∧ flag 6 = p.flags.regraded
        ∧ flag 7 = p.flags.reassigned ∧ flag 8 = p.flags.shifted := by
      simp only [hFlag, PlateFlags.bits_eq, testBit_mark_zero, testBit_mark_succ, testBit_mark, and_self]
    obtain ⟨h0, h1, h2, h3, h4, h5, h6, h7, h8⟩ := hBits
    obtain ⟨hProvisional, hNoProvisional⟩ := p.read_grade (off := 0x0C) (g := p.provisional) (by simp [PlateRec.fields])
    obtain ⟨hGrade, hNoGrade⟩ := p.read_grade (off := 0x0D) (g := p.grade) (by simp [PlateRec.fields])
    refine ⟨layout_length _ _, p.read ?_, p.read ?_, p.read (size := 1) ?_,
      (p.read (size := 1) ?_).trans (Nat.mod_eq_of_lt p.kind.code_lt), p.read ?_, hProvisional, hNoProvisional, hGrade, hNoGrade,
      (p.read (size := 1) ?_).trans (Nat.mod_eq_of_lt p.outcome.code_lt), p.read ?_, p.read ?_, p.read ?_, p.read ?_, p.read ?_,
      p.read ?_, p.read ?_, h0, h1, h2, h3, h4, h5, h6, h7, h8, p.field_flags.trans_lt p.flags.bits_lt,
      (p.read ?_).trans (Nat.mod_eq_of_lt p.day.isLt), p.read ?_, byteAt_gaps rfl⟩
    all_goals simp [PlateRec.fields]
  case tally =>
    intro b
    have hFlag (i : Nat) : (byteAt b 0x09).testBit i = r.flagBits.testBit i := congrArg (fun n => Nat.testBit n i) r.byte_flags
    have hBits : (byteAt b 0x09).testBit 0 = r.merged ∧ (byteAt b 0x09).testBit 1 = r.clockSet
        ∧ (byteAt b 0x09).testBit 2 = r.saturated := by
      simp only [hFlag, Report.flagBits_eq, testBit_mark_zero, testBit_mark_succ, testBit_mark, and_self]
    obtain ⟨h0, h1, h2⟩ := hBits
    refine ⟨layout_length _ _, r.read ?_, r.read ?_, (r.read (size := 1) ?_).trans (Nat.mod_eq_of_lt r.cause.code_lt),
      h0, h1, h2, r.byte_flags.trans_lt r.flagBits_lt, r.read ?_, (r.read ?_).trans (Nat.mod_eq_of_lt r.startDay.isLt),
      (r.read ?_).trans (Nat.mod_eq_of_lt r.endDay.isLt), r.read ?_, r.read ?_, r.read ?_, r.read ?_,
      r.tallies.laidOut_layout r.fits (by decide) (fun f hf => List.mem_append_right _ hf), fun o ho hGap => ?_⟩
    case refine_11 =>
      refine byteAt_layout_gap ho fun f hf => ?_
      rcases List.mem_append.1 hf with hHead | hTallies
      · exact r.headFits.not_covers (by omega) f hHead
      · exact r.tallies.fits.not_covers (by omega) f hTallies
    all_goals simp [Report.fields]

end Sys2Proof.Machine
end
section
/-! PROOFS. The framer (R123 to R126): what a character and a break do in each state, and the end of an action. -/

set_option Elab.async false

namespace Sys2Proof.Machine

/-! ## The outcome of a character -/

/-- A character without an error that carries a byte. -/
def RxChar.good (b : Byte) : RxChar := { data := b, parity := parityBit b, stop := true }

theorem charOutcome_good (b : Byte) : charOutcome (RxChar.good b) = .inl b := if_pos rfl

section
variable {c : RxChar}

theorem charOutcome_framing (h : c.stop = false) : charOutcome c = .inr .framing := by
  simp [charOutcome, h]

theorem charOutcome_parity (hStop : c.stop = true) (h : c.parity ≠ parityBit c.data) : charOutcome c = .inr .parity := by
  simp [charOutcome, hStop, h]

theorem charOutcome_bad (h : c.stop = false ∨ c.parity ≠ parityBit c.data) : ∃ k, charOutcome c = .inr k := by
  cases hStop : c.stop with
  | false => exact ⟨_, charOutcome_framing hStop⟩
  | true => exact ⟨_, charOutcome_parity hStop (h.resolve_left (by simp [hStop]))⟩

end

/-! ## What the framer takes -/

section
variable {s : State} {c : RxChar} {b : Byte} {k : LinkErrorKind}

theorem State.takeChar_of_good (h : charOutcome c = .inl b) : s.takeChar c = s.takeGood b := by
  unfold State.takeChar
  rw [h]

theorem State.takeChar_of_bad (h : charOutcome c = .inr k) (hs : s.link.framer.state ≠ .hunt) :
    s.takeChar c = s.discardFrame k .hunt := by
  unfold State.takeChar
  rw [h]
  exact if_neg hs

/-- In HUNT every character is a stray. -/
theorem State.takeChar_hunt (h : s.link.framer.state = .hunt) : s.takeChar c = s.stray 1 := by
  unfold State.takeChar
  cases charOutcome c with
  | inl b => simp only [State.takeGood, h]
  | inr k => exact if_pos h

theorem State.takeGood_delimiter (h : s.link.framer.state = .delimiter) : s.takeGood b =
    if b = 0xC3 then s.setFramer { s.link.framer with state := .kind } else s.discardFrame .delimiter .hunt := by
  simp only [State.takeGood, h]

theorem State.takeGood_kind (h : s.link.framer.state = .kind) :
    s.takeGood b = s.setFramer { s.link.framer with state := .length, kind := b } := by
  simp only [State.takeGood, h]

theorem State.takeGood_length (h : s.link.framer.state = .length) (hb : b.toNat ≤ 24) : s.takeGood b =
    s.setFramer { s.link.framer with state := if b = 0 then .check else .payload, length := b.toNat, bytes := [] } := by
  have hZero : b = 0 ↔ b.toNat = 0 := BitVec.toNat_inj.symm
  simp only [State.takeGood, h, hZero, if_neg (Nat.not_lt.2 hb)]

theorem State.takeGood_tooLong (h : s.link.framer.state = .length) (hb : 24 < b.toNat) :
    s.takeGood b = s.discardFrame .length .hunt := by
  simp only [State.takeGood, h, if_pos hb]

theorem State.takeGood_payload (h : s.link.framer.state = .payload) : s.takeGood b = s.setFramer { s.link.framer with
    state := if s.link.framer.length ≤ s.link.framer.bytes.length + 1 then .check else .payload,
    bytes := s.link.framer.bytes ++ [b] } := by
  simp only [State.takeGood, h]

theorem State.takeGood_check (h : s.link.framer.state = .check) : s.takeGood b =
    if b = checksum s.link.framer.kind s.link.framer.bytes then s.completeFrame else s.discardFrame .checksum .hunt := by
  simp only [State.takeGood, h]

theorem State.takeBreak_starts (h : s.link.framer.state = .hunt ∨ s.link.framer.state = .delimiter) :
    s.takeBreak = s.setFramer { Framer.hunt with state := .delimiter } := by
  cases h with
  | inl h => simp only [State.takeBreak, h]
  | inr h => simp only [State.takeBreak, h]

theorem State.takeBreak_truncates (hHunt : s.link.framer.state ≠ .hunt) (hDelimiter : s.link.framer.state ≠ .delimiter) :
    s.takeBreak = s.discardFrame .truncated .delimiter := by
  cases h : s.link.framer.state with
  | hunt => exact absurd h hHunt
  | delimiter => exact absurd h hDelimiter
  | kind | length | payload | check => simp only [State.takeBreak, h]

end

/-! ## What the receiver does with an input -/

section
variable {s : State} {i : RxInput} {c : RxChar}

theorem State.receive_off (h : s.link.on = false) : s.receive i = s := if_pos (by simp [h])

theorem State.receive_acting (hOn : s.link.on = true) {a : ActingFrame} (ha : s.link.acting = some a) :
    s.receive i = s.holdInput i := by
  unfold State.receive
  rw [if_neg (by simp [hOn])]
  exact if_pos (by simp [ha])

theorem State.receive_char (hOn : s.link.on = true) (ha : s.link.acting = none) : s.receive (.char c) = s.takeChar c := by
  unfold State.receive
  rw [if_neg (by simp [hOn])]
  exact if_neg (by simp [ha])

theorem State.receive_brk (hOn : s.link.on = true) (ha : s.link.acting = none) : s.receive .brk = s.takeBreak := by
  unfold State.receive
  rw [if_neg (by simp [hOn])]
  exact if_neg (by simp [ha])

theorem exec_frameDiscard (ha : s.link.acting = none) (h : s.link.framer.discards i = true) :
    exec (.frameDiscard i) s = .next (s.receive i) := if_pos (by simp [ha, h])

theorem Framer.discards_brk {f : Framer} (hHunt : f.state ≠ .hunt) (hDelimiter : f.state ≠ .delimiter) :
    f.discards .brk = true := by
  simp [Framer.discards, hHunt, hDelimiter]

theorem Framer.discards_bad {f : Framer} {k : LinkErrorKind} (hc : charOutcome c = .inr k) (h : f.state ≠ .hunt) :
    f.discards (.char c) = true := by
  simp [Framer.discards, hc, h]

theorem Framer.discards_good {f : Framer} {b : Byte} (h : f.state = .delimiter ∧ b ≠ 0xC3 ∨ f.state = .length ∧ 24 < b.toNat
      ∨ f.state = .check ∧ b ≠ checksum f.kind f.bytes) : f.discards (.char (RxChar.good b)) = true := by
  simp only [Framer.discards, charOutcome_good]
  rcases h with ⟨h, hb⟩ | ⟨h, hb⟩ | ⟨h, hb⟩
  · simpa [Framer.discardsGood, h] using hb
  · simpa [Framer.discardsGood, h] using hb
  · simpa [Framer.discardsGood, h] using hb

end

/-! ## What the receiver holds while a frame is acted on -/

section
variable {s : State} {c : RxChar}

theorem State.holdInput_char (h : s.link.heldChar = none) :
    s.holdInput (.char c) = { s with link := { s.link with heldChar := some c } } :=
  congrArg (fun l => ({ s with link := l } : State)) (if_neg (by simp [h]))

theorem State.holdInput_lost (h : s.link.heldChar ≠ none) :
    s.holdInput (.char c) = { s with link := { s.link with lost := s.link.lost + 1 } } :=
  congrArg (fun l => ({ s with link := l } : State)) (if_pos (Option.isSome_iff_ne_none.2 h))

theorem State.holdInput_again (h : s.link.heldBreak = true) : s.holdInput .brk = s :=
  congrArg (fun l => ({ s with link := l } : State)) (if_pos h)

theorem State.holdInput_brk (h : s.link.heldBreak = false) : s.holdInput .brk =
    { s with link := { s.link with heldBreak := true, breakFirst := s.link.heldChar.isNone } } :=
  congrArg (fun l => ({ s with link := l } : State)) (if_neg (by simp [h]))

theorem exec_malformedFrame {a : ActingFrame} (ha : s.link.acting = some a) (hDone : a.done = false)
    (h : wellFormedFrame a.kind a.payload = false) : exec .malformedFrame s = .next (s.malformed a) := by
  change execMalformedFrame s = _
  unfold execMalformedFrame
  rw [ha]
  exact if_neg (by simp [hDone, h])

end

/-! ## The end of an action -/

/-- The action over: nothing acted on, nothing held, nothing lost. -/
def State.actionOver (s : State) : State := { s with link := { s.link with
  acting := none, heldChar := none, heldBreak := false, breakFirst := false, lost := 0 } }

section
variable {s : State} {a : ActingFrame} {c : RxChar}

theorem exec_frameActionEnd (ha : s.link.acting = some a) (h : a.done = true) :
    exec .frameActionEnd s = .next s.endAction := by
  change execFrameActionEnd s = _
  unfold execFrameActionEnd
  rw [ha]
  exact if_pos h

theorem State.endAction_nothing (hc : s.link.heldChar = none) (hb : s.link.heldBreak = false) :
    s.endAction = s.actionOver := by
  simp only [State.endAction, hc, hb]
  rfl

theorem State.endAction_break (hc : s.link.heldChar = none) (hb : s.link.heldBreak = true) :
    s.endAction = s.actionOver.takeBreak := by
  simp only [State.endAction, hc, hb]
  rfl

theorem State.endAction_char (hc : s.link.heldChar = some c) (hb : s.link.heldBreak = false) :
    s.endAction = s.actionOver.takeHeldChar c s.link.lost := by
  simp only [State.endAction, hc, hb]
  rfl

theorem State.endAction_breakFirst (hc : s.link.heldChar = some c) (hb : s.link.heldBreak = true)
    (hf : s.link.breakFirst = true) : s.endAction = s.actionOver.takeBreak.takeHeldChar c s.link.lost := by
  simp only [State.endAction, hc, hb, hf]
  rfl

theorem State.endAction_charFirst (hc : s.link.heldChar = some c) (hb : s.link.heldBreak = true)
    (hf : s.link.breakFirst = false) : s.endAction = (s.actionOver.takeHeldChar c s.link.lost).takeBreak := by
  simp only [State.endAction, hc, hb, hf]
  rfl

/-- A discarded frame leaves an empty framer in the next state. -/
theorem State.discardFrame_framer (k : LinkErrorKind) (next : FramerState) (s : State) :
    (s.discardFrame k next).link.framer = { Framer.hunt with state := next } := by
  unfold State.discardFrame
  dsimp only
  rw [tallied_link, State.raise_frame]
  rfl

/-- Once a break was taken, the framer is in DELIMITER. -/
theorem State.takeBreak_state (s : State) : s.takeBreak.link.framer.state = .delimiter := by
  by_cases h : s.link.framer.state = .hunt ∨ s.link.framer.state = .delimiter
  · rw [State.takeBreak_starts h]
    rfl
  · obtain ⟨hHunt, hDelimiter⟩ := not_or.1 h
    rw [State.takeBreak_truncates hHunt hDelimiter, State.discardFrame_framer]

/-- With the framer not in HUNT, a loss costs the frame. -/
theorem State.takeHeldChar_inFrame (hs : s.link.framer.state ≠ .hunt) (n : Nat) :
    s.takeHeldChar c n = if n = 0 then s.takeChar c else s.discardFrame .overrun .hunt := by
  unfold State.takeHeldChar
  rw [if_neg hs]

end

/-- Settles O60. -/
theorem framerTakesCharacters : Obligations.FramerTakesCharacters := by
  intro b c s framer stray f good run
  have hRun : s.link.on = true → s.link.acting = none → run = .next (s.takeGood b) := fun hOn ha =>
    congrArg Host.Outcome.next ((State.receive_char hOn ha).trans (State.takeChar_of_good (charOutcome_good b)))
  have hChar : s.link.on = true → s.link.acting = none → exec (.characterComplete c) s = .next (s.takeChar c) :=
    fun hOn ha => congrArg Host.Outcome.next (State.receive_char hOn ha)
  have hBreak : s.link.on = true → s.link.acting = none → exec .breakTaken s = .next s.takeBreak :=
    fun hOn ha => congrArg Host.Outcome.next (State.receive_brk hOn ha)
  refine ⟨fun hOn ha => ⟨hChar hOn ha, hBreak hOn ha⟩,
    fun hOff => ⟨congrArg Host.Outcome.next (State.receive_off hOff), congrArg Host.Outcome.next (State.receive_off hOff)⟩,
    fun hOn ha => ?free, fun _ _ => rfl, fun a ha => ?acting⟩
  case free =>
    have hBad : ∀ {k}, f.state ≠ .hunt → charOutcome c = .inr k →
        exec (.characterComplete c) s = .next (s.discardFrame k .hunt) := fun hs hk =>
      (hChar hOn ha).trans (congrArg Host.Outcome.next (State.takeChar_of_bad hk hs))
    have hTake : ∀ {t}, s.takeGood b = t → run = .next t := fun h => (hRun hOn ha).trans (congrArg Host.Outcome.next h)
    refine ⟨fun h => (hChar hOn ha).trans (congrArg Host.Outcome.next (State.takeChar_hunt h)),
      fun h => hTake (State.takeGood_delimiter h), fun h => hTake (State.takeGood_kind h),
      fun h hb => hTake (State.takeGood_length h hb), fun h hb => hTake (State.takeGood_tooLong h hb),
      fun h => hTake (State.takeGood_payload h),
      fun h hb => hTake ((State.takeGood_check h).trans (if_neg hb)),
      fun h hb => hTake ((State.takeGood_check h).trans (if_pos hb)),
      fun h hStop => hBad h (charOutcome_framing hStop),
      fun h hStop hParity => hBad h (charOutcome_parity hStop hParity),
      fun h => (hBreak hOn ha).trans (congrArg Host.Outcome.next (State.takeBreak_starts h)),
      fun hHunt hDelimiter => ⟨(hBreak hOn ha).trans
        (congrArg Host.Outcome.next (State.takeBreak_truncates hHunt hDelimiter)), exec_frameDiscard ha (Framer.discards_brk hHunt hDelimiter)⟩,
      fun hs hc => ?_, fun h => exec_frameDiscard ha (Framer.discards_good h),
      fun hs => if_pos (by simpa [hOn] using hs)⟩
    obtain ⟨k, hk⟩ := charOutcome_bad hc
    exact exec_frameDiscard ha (Framer.discards_bad hk hs)
  case acting =>
    have hHold : ∀ {i t}, s.link.on = true → s.holdInput i = t →
        Host.Outcome.next (s.receive i) = (.next t : Host.Outcome State Fault Refusal) := fun hOn h =>
      congrArg Host.Outcome.next ((State.receive_acting hOn ha).trans h)
    refine ⟨fun hOn h => hHold hOn (State.holdInput_char h), fun hOn h => hHold hOn (State.holdInput_lost h),
      fun hOn h => hHold hOn (State.holdInput_again h), fun hOn h => hHold hOn (State.holdInput_brk h),
      fun hDone hForm => exec_malformedFrame ha hDone hForm, fun hDone => ?ends⟩
    have hEnd : ∀ {t}, s.endAction = t → exec .frameActionEnd s = .next t := fun h =>
      (exec_frameActionEnd ha hDone).trans (congrArg Host.Outcome.next h)
    refine ⟨fun hc hb => hEnd (State.endAction_nothing hc hb), fun hc hb => hEnd (State.endAction_break hc hb),
      fun h hc hb hLost => hEnd ((State.endAction_char hc hb).trans (if_pos hLost)),
      fun h hc => ⟨fun hb hLost => ⟨fun hs => ?_, fun hs => ?_⟩, fun hb hf => ?_, fun hb hf => ?_⟩⟩
    · exact hEnd ((State.endAction_char hc hb).trans ((if_neg hLost.ne').trans (if_pos hs)))
    · exact hEnd ((State.endAction_char hc hb).trans ((if_neg hLost.ne').trans (if_neg hs)))
    · refine hEnd ((State.endAction_breakFirst hc hb hf).trans (State.takeHeldChar_inFrame ?_ _))
      rw [State.takeBreak_state]
      decide
    · exact hEnd (State.endAction_charFirst hc hb hf)

end Sys2Proof.Machine
end
section
/-! PROOFS. The outstanding cut list (R129 to R138): what a cut that is resolved changes, and what the queue takes in. -/

set_option Elab.async false

namespace Sys2Proof.Machine

/-! ## Frames -/

section
variable (s : State)

theorem State.raise_link (k : EventKind) (a b : Nat) : (s.raise k a b).link = s.link := by rw [State.raise_frame]

theorem State.raise_plan (k : EventKind) (a b : Nat) : (s.raise k a b).plan = s.plan := by rw [State.raise_frame]

theorem State.raise_tally (k : EventKind) (a b : Nat) : (s.raise k a b).tally = s.tally := by rw [State.raise_frame]

theorem State.testWaiting_frame : s.testWaiting = { s with grader := s.testWaiting.grader } := by
  unfold State.testWaiting
  split
  · rfl
  · split <;> rfl

theorem State.handToGrader_frame : s.handToGrader = { s with grader := s.handToGrader.grader } := by
  unfold State.handToGrader
  split
  · split
    · rw [State.testWaiting_frame]
      rfl
    · rfl
  · rfl

end

/-! ## Resolutions in the rows (R114) -/

/-- The planner with a resolution recorded in every row that holds the cut. -/
def Planner.recorded (num : Idx) (res : Resolution) (p : Planner) : Planner :=
  let rows := p.rows.map (fun r => { r with leading := recordIn num res r.leading, trailing := recordIn num res r.trailing })
  let cut := rows.map Row.cutTest
  let newly := (cut.filter (·.state = .cut)).length - (rows.filter (·.state = .cut)).length
  { p with rows := cut, counters := { p.counters with cut := satAdd Config.max32 p.counters.cut newly } }

theorem State.recordResolution_frame (num : Idx) (res : Resolution) (s : State) : s.recordResolution num res =
    { s with plan := s.plan.recorded num res, grader := (s.recordResolution num res).grader } := by
  unfold State.recordResolution
  dsimp only
  rw [State.handToGrader_frame]
  rfl

/-- A row holds a cut as one of its two. -/
def Row.holds (r : Row) (k : CutRef) : Prop := r.leading = some k ∨ r.trailing = some k

/-- Every row that holds the cut records the resolution. -/
def Planner.Records (p : Planner) (num : Idx) (res : Resolution) : Prop :=
  ∀ r ∈ p.rows, ∀ k, r.holds k → k.num = num → k.res = res

theorem Row.holds_cutTest (r : Row) (k : CutRef) : r.cutTest.holds k ↔ r.holds k := by
  unfold Row.cutTest
  split <;> rfl

section
variable {num other : Idx} {res old : Resolution} {p : Planner} {k : CutRef}

/-- Where a cut record comes from. -/
theorem recordIn_some {o : Option CutRef} (h : recordIn num res o = some k) :
    (k.num = num ∧ k.res = res) ∨ (k.num ≠ num ∧ o = some k) := by
  cases o with
  | none => cases h
  | some c =>
    by_cases hc : c.num = num
    · have hk : { c with res := res } = k := Option.some.inj ((if_pos hc).symm.trans h)
      subst hk
      exact .inl ⟨hc, rfl⟩
    · have hk : c = k := Option.some.inj ((if_neg hc).symm.trans h)
      subst hk
      exact .inr ⟨hc, rfl⟩

theorem Planner.mem_recorded {r : Row} (hr : r ∈ (p.recorded num res).rows) (hk : r.holds k) :
    (k.num = num ∧ k.res = res) ∨ (k.num ≠ num ∧ ∃ q ∈ p.rows, q.holds k) := by
  obtain ⟨r', hr', rfl⟩ := List.mem_map.1 hr
  obtain ⟨q, hq, rfl⟩ := List.mem_map.1 hr'
  rcases (Row.holds_cutTest _ _).1 hk with hLead | hTrail
  · exact (recordIn_some hLead).imp_right fun h => ⟨h.1, q, hq, .inl h.2⟩
  · exact (recordIn_some hTrail).imp_right fun h => ⟨h.1, q, hq, .inr h.2⟩

theorem Planner.recorded_records : (p.recorded num res).Records num res := fun _ hr _ hk hNum =>
  match Planner.mem_recorded hr hk with
  | .inl h => h.2
  | .inr h => absurd hNum h.1

theorem Planner.Records.recorded (h : p.Records num res) (hOther : num = other → res = old) :
    (p.recorded other old).Records num res := fun _ hr k hk hNum =>
  match Planner.mem_recorded hr hk with
  | .inl hSelf => hSelf.2.trans (hOther (hNum.symm.trans hSelf.1)).symm
  | .inr ⟨_, q, hq, hHolds⟩ => h q hq k hHolds hNum

end

/-! ## The cut list and the queue -/

/-- Every cut of the list with a number has a status. -/
def Link.AllCuts (l : Link) (num : Idx) (st : CutStatus) : Prop := ∀ y ∈ l.cuts, y.num = num → y.status = st

/-- No CUT frame of the cut waits in the queue. -/
def Link.NoFrame (l : Link) (num : Idx) : Prop := ∀ f ∈ l.txq, f.isCut num = false

theorem mem_modCut {num : Idx} {f : Cut → Cut} {cs : List Cut} {y : Cut} (h : y ∈ modCut num f cs) :
    (∃ x ∈ cs, x.num = num ∧ y = f x) ∨ (y ∈ cs ∧ y.num ≠ num) := by
  obtain ⟨x, hx, rfl⟩ := List.mem_map.1 h
  by_cases hNum : x.num = num
  · rw [if_pos hNum]
    exact .inl ⟨x, hx, hNum, rfl⟩
  · rw [if_neg hNum]
    exact .inr ⟨hx, hNum⟩

theorem Link.withdraw_noFrame (num : Idx) (l : Link) : (l.withdraw num).NoFrame num := fun f hf => by
  have hKept := (List.mem_filter.1 hf).2
  simpa using hKept

theorem Link.NoFrame.withdraw {num other : Idx} {l : Link} (h : l.NoFrame num) : (l.withdraw other).NoFrame num :=
  fun f hf => h f (List.mem_filter.1 hf).1

/-- The link with a cut resolved as missed and the miss counted. -/
def Link.missed (num : Idx) (cause : MissCause) (reason : Nat) (l : Link) : Link :=
  let m := ({ l with cuts := modCut num (fun c =>
    { c with status := .missed, timer := none, cause := some cause, reason := reason }) l.cuts } : Link).withdraw num
  { m with counters := { m.counters with missed := upd m.counters.missed cause.code inc32 } }

/-! ## A cut is missed -/

section
variable (num : Idx) (cause : MissCause) (reason : Nat) (s : State)

theorem State.reportMissed_parts :
    (s.reportMissed num cause reason).link =
        { s.link with counters := { s.link.counters with missed := upd s.link.counters.missed cause.code inc32 } }
    ∧ (s.reportMissed num cause reason).plan = s.plan.recorded num .missed
    ∧ (s.reportMissed num cause reason).tally.live = { s.tally.live with missed := tallyAdd s.tally.live.missed 1 }
    ∧ (s.reportMissed num cause reason).ev.pending.getLsbD 21 = true := by
  unfold State.reportMissed
  refine ⟨?link, ?plan, ?live, State.raise_sets .cutMissed _ _ _⟩
  case link =>
    dsimp only
    rw [tallied_link, State.raise_link, State.recordResolution_frame]
    rfl
  case plan =>
    dsimp only
    rw [tallied_plan, State.raise_plan, State.recordResolution_frame]
    rfl
  case live =>
    change (fun t : Tallies => { t with missed := tallyAdd t.missed 1 }) _ = _
    rw [State.raise_tally, State.recordResolution_frame]
    rfl

theorem State.missCut_link : (s.missCut num cause reason).link = s.link.missed num cause reason :=
  (State.reportMissed_parts num cause reason _).1

theorem State.missCut_plan : (s.missCut num cause reason).plan = s.plan.recorded num .missed :=
  (State.reportMissed_parts num cause reason _).2.1

theorem State.missCut_live :
    (s.missCut num cause reason).tally.live = { s.tally.live with missed := tallyAdd s.tally.live.missed 1 } :=
  (State.reportMissed_parts num cause reason _).2.2.1

theorem State.missCut_sets : (s.missCut num cause reason).ev.pending.getLsbD 21 = true :=
  (State.reportMissed_parts num cause reason _).2.2.2

end

/-- A cut stands as missed: its event, its place in the list, its frames and the rows that hold it say so. -/
structure State.Missed (s : State) (num : Idx) : Prop where
  event : s.ev.pending.getLsbD 21 = true
  cuts : s.link.AllCuts num .missed
  frames : s.link.NoFrame num
  rows : s.plan.Records num .missed

section
variable {s t : State} {num other : Idx} {cause : MissCause} {reason : Nat}

theorem State.missCut_missed : (s.missCut num cause reason).Missed num where
  event := State.missCut_sets _ _ _ _
  cuts := by
    rw [State.missCut_link]
    intro y hy hNum
    rcases mem_modCut hy with ⟨x, _, _, rfl⟩ | ⟨_, hOther⟩
    · rfl
    · exact absurd hNum hOther
  frames := by
    rw [State.missCut_link]
    exact Link.withdraw_noFrame num _
  rows := by
    rw [State.missCut_plan]
    exact Planner.recorded_records

theorem State.Missed.missCut (h : s.Missed num) : (s.missCut other cause reason).Missed num where
  event := State.missCut_sets _ _ _ _
  cuts := by
    rw [State.missCut_link]
    intro y hy hNum
    rcases mem_modCut hy with ⟨x, _, _, rfl⟩ | ⟨hOld, _⟩
    · rfl
    · exact h.cuts y hOld hNum
  frames := by
    rw [State.missCut_link]
    exact h.frames.withdraw (other := other)
  rows := by
    rw [State.missCut_plan]
    exact h.rows.recorded fun _ => rfl

theorem State.Missed.of_parts (h : s.Missed num) (hFlag : s.ev.pending.getLsbD 21 = true → t.ev.pending.getLsbD 21 = true)
    (hCuts : s.link.AllCuts num .missed → t.link.AllCuts num .missed) (hFrames : s.link.NoFrame num → t.link.NoFrame num)
    (hPlan : t.plan = s.plan) : t.Missed num where
  event := hFlag h.event
  cuts := hCuts h.cuts
  frames := hFrames h.frames
  rows := hPlan ▸ h.rows

end

/-! ## Cuts missed one after the other -/

theorem State.missCuts_concat (nums : List Idx) (n : Idx) (cause : MissCause) (s : State) :
    s.missCuts (nums ++ [n]) cause = (s.missCuts nums cause).missCut n cause 0 := List.foldl_concat ..

theorem State.Missed.missCuts {s : State} {num : Idx} {cause : MissCause} (nums : List Idx) (h : s.Missed num) :
    (s.missCuts nums cause).Missed num := by
  induction nums using List.reverseRecOn with
  | nil => exact h
  | append_singleton ns n ih =>
    rw [State.missCuts_concat]
    exact ih.missCut

theorem State.missCuts_missed {s : State} {cause : MissCause} (nums : List Idx) :
    ∀ n ∈ nums, (s.missCuts nums cause).Missed n := by
  induction nums using List.reverseRecOn with
  | nil => exact fun _ h => absurd h List.not_mem_nil
  | append_singleton ns n ih =>
    intro x hx
    rw [State.missCuts_concat]
    rcases List.mem_append.1 hx with hOld | hNew
    · exact (ih x hOld).missCut
    · obtain rfl := List.mem_singleton.1 hNew
      exact State.missCut_missed

/-- The counts of misses after so many of a cause. -/
def missedBy (cause : MissCause) (n : Nat) (v : Vector Nat 7) : Vector Nat 7 := Nat.repeat (upd · cause.code inc32) n v

theorem missedBy_self (cause : MissCause) (n : Nat) (v : Vector Nat 7) :
    (missedBy cause n v)[cause.code] = Nat.repeat inc32 n v[cause.code] := by
  induction n with
  | zero => rfl
  | succ n ih => exact (upd_getElem_self _ _ _).trans (congrArg inc32 ih)

/-- What cuts missed one after the other change of the link and of the tallies. -/
theorem State.missCuts_parts (nums : List Idx) (cause : MissCause) (s : State) :
    (s.missCuts nums cause).link = { s.link with
      cuts := (s.missCuts nums cause).link.cuts, txq := (s.missCuts nums cause).link.txq,
      counters := { s.link.counters with missed := missedBy cause nums.length s.link.counters.missed } }
    ∧ (s.missCuts nums cause).tally.live =
        { s.tally.live with missed := Nat.repeat (tallyAdd · 1) nums.length s.tally.live.missed }
    ∧ (s.missCuts nums cause).plan.slots = s.plan.slots := by
  induction nums using List.reverseRecOn with
  | nil => exact ⟨rfl, rfl, rfl⟩
  | append_singleton ns n ih =>
    obtain ⟨hLink, hLive, hSlots⟩ := ih
    rw [State.missCuts_concat, State.missCut_link, State.missCut_live, State.missCut_plan, List.length_append]
    refine ⟨?_, ?_, hSlots⟩
    · rw [hLink]
      rfl
    · rw [hLive]
      rfl

/-! ## A cut is scored -/

section
variable (c : Cut) (actual : Nat) (offset : Bool) (s : State)

/-- The link with a cut resolved as scored. -/
def Link.scored (c : Cut) (actual : Nat) (offset : Bool) (l : Link) : Link :=
  ({ l with cuts := modCut c.num (fun c =>
    { c with status := .scored, timer := none, actual := actual, offset := offset }) l.cuts } : Link).withdraw c.num

theorem State.raiseIf_frame (q : Bool) (k : EventKind) (a b : Nat) :
    s.raiseIf q k a b = { s with ev := (s.raiseIf q k a b).ev, rings := (s.raiseIf q k a b).rings } := by
  cases q with
  | false => rfl
  | true => exact State.raise_frame

theorem State.scoreCut_parts :
    (s.scoreCut c actual offset).link = s.link.scored c actual offset
    ∧ (s.scoreCut c actual offset).plan = s.plan.recorded c.num (.scored actual offset)
    ∧ (s.scoreCut c actual offset).tally.live.scored = tallyAdd s.tally.live.scored 1
    ∧ (offset = true → (s.scoreCut c actual offset).ev.pending.getLsbD 22 = true) := by
  unfold State.scoreCut
  dsimp only
  rw [State.recordResolution_frame, State.raiseIf_frame]
  refine ⟨rfl, rfl, rfl, fun hOffset => ?_⟩
  subst hOffset
  exact State.raise_sets .cutOffset _ _ _

end

/-! ## What the transmit queue takes in (R127, R130) -/

/-- A cut that became QUEUED, or stayed as it was. -/
def Cut.MayQueue (cs : List Cut) (x y : Cut) : Prop :=
  y = x ∨ (y = { x with status := .queued } ∧ ∃ c ∈ cs, c.status = .unsent ∧ c.num = x.num)

theorem Link.queueCuts_takes (cs : List Cut) (l : Link) :
    let m := cs.foldl (fun l c =>
      if c.status = .unsent ∧ l.txq.length < Config.txMax then
        { l with txq := l.txq ++ [c.frame], cuts := modCut c.num (fun c => { c with status := .queued }) l.cuts }
      else l) l
    (∃ g : Cut → Cut, m.cuts = l.cuts.map g ∧ ∀ x, Cut.MayQueue cs x (g x))
    ∧ (∃ more, m.txq = l.txq ++ more ∧ ∀ f ∈ more, ∃ c ∈ cs, c.status = .unsent ∧ f = c.frame)
    ∧ m.txq.length ≤ max 8 l.txq.length := by
  induction cs generalizing l with
  | nil => exact ⟨⟨id, (List.map_id _).symm, fun _ => .inl rfl⟩, ⟨[], (List.append_nil _).symm, by simp⟩, le_max_right _ _⟩
  | cons c cs ih =>
    rw [List.foldl_cons]
    by_cases hTake : c.status = .unsent ∧ l.txq.length < Config.txMax
    · rw [if_pos hTake]
      obtain ⟨⟨g, hCuts, hg⟩, ⟨more, hTxq, hMore⟩, hLen⟩ := ih { l with
        txq := l.txq ++ [c.frame], cuts := modCut c.num (fun c => { c with status := .queued }) l.cuts }
      have hHead : ∃ d ∈ c :: cs, d.status = .unsent ∧ d.num = c.num := ⟨c, List.mem_cons_self, hTake.1, rfl⟩
      refine ⟨⟨fun x => g (if x.num = c.num then { x with status := .queued } else x), ?_, fun x => ?_⟩,
        ⟨c.frame :: more, ?_, ?_⟩, ?_⟩
      · rw [hCuts, modCut, List.map_map]
        rfl
      · dsimp only
        have hStep := hg (if x.num = c.num then { x with status := .queued } else x)
        by_cases hx : x.num = c.num
        · rw [if_pos hx] at hStep ⊢
          rcases hStep with h | ⟨h, _⟩
          · exact .inr ⟨h, hx ▸ hHead⟩
          · exact .inr ⟨h, hx ▸ hHead⟩
        · rw [if_neg hx] at hStep ⊢
          exact hStep.imp_right fun ⟨h, d, hd, hRest⟩ => ⟨h, d, List.mem_cons_of_mem _ hd, hRest⟩
      · rw [hTxq, List.append_assoc]
        rfl
      · intro f hf
        rcases List.mem_cons.1 hf with rfl | hf
        · exact ⟨c, List.mem_cons_self, hTake.1, rfl⟩
        · obtain ⟨d, hd, hRest⟩ := hMore f hf
          exact ⟨d, List.mem_cons_of_mem _ hd, hRest⟩
      · refine hLen.trans ?_
        have hRoom : l.txq.length < 8 := hTake.2
        simp only [List.length_append, List.length_singleton]
        omega
    · rw [if_neg hTake]
      obtain ⟨⟨g, hCuts, hg⟩, ⟨more, hTxq, hMore⟩, hLen⟩ := ih l
      refine ⟨⟨g, hCuts, fun x => (hg x).imp_right fun ⟨h, d, hd, hRest⟩ => ⟨h, d, List.mem_cons_of_mem _ hd, hRest⟩⟩,
        ⟨more, hTxq, fun f hf => ?_⟩, hLen⟩
      obtain ⟨d, hd, hRest⟩ := hMore f hf
      exact ⟨d, List.mem_cons_of_mem _ hd, hRest⟩

theorem Link.queueLanes_takes (l : Link) :
    (∃ more, l.queueLanes.txq = l.txq ++ more ∧ ∀ f ∈ more, ∃ e, l.lanesPending = some e ∧ f = .lanes e)
    ∧ l.queueLanes.txq.length ≤ max 8 l.txq.length
    ∧ (∀ e, l.lanesPending = some e → l.queueLanes.lanesPending = some e ∨ TxFrame.lanes e ∈ l.queueLanes.txq) := by
  cases h : l.lanesPending with
  | none =>
    have hSame : l.queueLanes = l := by simp only [Link.queueLanes, h]
    rw [hSame]
    exact ⟨⟨[], (List.append_nil _).symm, by simp⟩, le_max_right _ _, fun e he => by cases he⟩
  | some e =>
    by_cases hRoom : l.txq.length < Config.txMax
    · have hTake : l.queueLanes = { l with txq := l.txq ++ [.lanes e], lanesPending := none } := by
        simp only [Link.queueLanes, h, if_pos hRoom]
      rw [hTake]
      refine ⟨⟨[.lanes e], rfl, fun f hf => ⟨e, rfl, List.mem_singleton.1 hf⟩⟩, ?_, fun d hd => .inr ?_⟩
      · have hLess : l.txq.length < 8 := hRoom
        simp only [List.length_append, List.length_singleton]
        omega
      · cases hd
        exact List.mem_append_right _ (List.mem_singleton_self _)
    · have hSame : l.queueLanes = l := by simp only [Link.queueLanes, h, if_neg hRoom]
      rw [hSame]
      exact ⟨⟨[], (List.append_nil _).symm, by simp⟩, le_max_right _ _, fun d hd => .inl (h.trans hd)⟩

/-- What the queue takes in: the pending LANES frame, and UNSENT cuts while readiness is 1. -/
structure State.Filled (s t : State) : Prop where
  same : t = { s with link := t.link }
  frame : t.link = { s.link with txq := t.link.txq, cuts := t.link.cuts, lanesPending := t.link.lanesPending }
  cuts : ∃ g : Cut → Cut, t.link.cuts = s.link.cuts.map g ∧ ∀ x, Cut.MayQueue s.link.cuts x (g x)
  frames : ∃ more, t.link.txq = s.link.txq ++ more ∧ ∀ f ∈ more, (∃ e, s.link.lanesPending = some e ∧ f = .lanes e)
    ∨ (s.readiness = true ∧ ∃ c ∈ s.link.cuts, c.status = .unsent ∧ f = c.frame)
  room : t.link.txq.length ≤ max 8 s.link.txq.length
  waits : s.readiness = false → t.link.cuts = s.link.cuts
  lanes : ∀ e, s.link.lanesPending = some e → t.link.lanesPending = some e ∨ TxFrame.lanes e ∈ t.link.txq

theorem Link.queueCuts_frame (l : Link) : l.queueCuts = { l with txq := l.queueCuts.txq, cuts := l.queueCuts.cuts } :=
  (Link.queueCuts_step l.cuts l).1

theorem State.fillQueue_filled (s : State) : s.Filled s.fillQueue := by
  have hFrame := (State.fillQueue_link s).1
  rw [State.fillQueue_eq] at hFrame ⊢
  obtain ⟨⟨new, hTxq, hNew⟩, hLen, hLanes⟩ := Link.queueLanes_takes s.link
  cases hOn : s.link.on with
  | false =>
    exact ⟨rfl, rfl, ⟨id, (List.map_id _).symm, fun _ => .inl rfl⟩, ⟨[], (List.append_nil _).symm, by simp⟩, le_max_right _ _,
      fun _ => rfl, fun e he => .inl he⟩
  | true =>
    rw [hOn] at hFrame
    cases hReady : s.readiness with
    | false =>
      rw [hReady] at hFrame
      exact ⟨rfl, hFrame,
        ⟨id, (Link.cuts_queueLanes _).trans (List.map_id _).symm, fun _ => .inl rfl⟩,
        ⟨new, hTxq, fun f hf => .inl (hNew f hf)⟩, hLen, fun _ => Link.cuts_queueLanes _, hLanes⟩
    | true =>
      obtain ⟨hCuts, ⟨more, hMoreTxq, hMore⟩, hMoreLen⟩ := Link.queueCuts_takes s.link.queueLanes.cuts s.link.queueLanes
      obtain ⟨g, hMap, hg⟩ := hCuts
      have hSame := Link.cuts_queueLanes s.link
      rw [hReady] at hFrame
      refine ⟨rfl, hFrame, ⟨g, hMap.trans (congrArg (List.map g) hSame), fun x => hSame ▸ hg x⟩,
        ⟨new ++ more, ?_, fun f hf => ?_⟩, ?_, fun h => absurd (hReady.symm.trans h) (by decide), fun e he => ?_⟩
      · refine hMoreTxq.trans ((congrArg (· ++ more) hTxq).trans (List.append_assoc ..))
      · exact (List.mem_append.1 hf).imp (hNew f) fun h => ⟨hReady, hSame ▸ hMore f h⟩
      · exact hMoreLen.trans (max_le (le_max_left _ _) hLen)
      · refine (hLanes e he).imp (fun h => ?_) (fun h => ?_)
        · exact (congrArg (·.lanesPending) (Link.queueCuts_frame s.link.queueLanes)).trans h
        · exact hMoreTxq ▸ List.mem_append_left _ h

section
variable {s t : State} {num : Idx} {st : CutStatus}

theorem Cut.MayQueue.num_eq {cs : List Cut} {x y : Cut} (h : Cut.MayQueue cs x y) : y.num = x.num := by
  rcases h with rfl | ⟨rfl, _⟩ <;> rfl

/-- Where every cut with a number has a status other than UNSENT, those cuts stay as they are. -/
theorem State.Filled.mem_of_allCuts (h : s.Filled t) (hCuts : s.link.AllCuts num st) (hSt : st ≠ .unsent) {y : Cut}
    (hy : y ∈ t.link.cuts) (hNum : y.num = num) : y ∈ s.link.cuts := by
  obtain ⟨g, hMap, hg⟩ := h.cuts
  rw [hMap] at hy
  obtain ⟨x, hx, rfl⟩ := List.mem_map.1 hy
  have hx' : x.num = num := (hg x).num_eq.symm.trans hNum
  rcases hg x with hSame | ⟨_, c, hc, hUnsent, hcx⟩
  · rwa [hSame]
  · exact absurd ((hCuts c hc (hcx.trans hx')).symm.trans hUnsent) hSt

theorem State.Filled.allCuts (h : s.Filled t) (hCuts : s.link.AllCuts num st) (hSt : st ≠ .unsent) :
    t.link.AllCuts num st := fun y hy hNum => hCuts y (h.mem_of_allCuts hCuts hSt hy hNum) hNum

theorem State.Filled.noFrame (h : s.Filled t) (hCuts : s.link.AllCuts num st) (hSt : st ≠ .unsent)
    (hNone : s.link.NoFrame num) : t.link.NoFrame num := by
  obtain ⟨more, hTxq, hMore⟩ := h.frames
  intro f hf
  rw [hTxq] at hf
  rcases List.mem_append.1 hf with hOld | hNew
  · exact hNone f hOld
  · rcases hMore f hNew with ⟨e, _, rfl⟩ | ⟨_, c, hc, hUnsent, rfl⟩
    · rfl
    · refine decide_eq_false fun hNum => hSt ?_
      exact (hCuts c hc hNum).symm.trans hUnsent

/-- The parts that a settled link keeps. -/
theorem State.settleLink_frame (s : State) : s.settleLink = { s with link := s.settleLink.link } :=
  (State.fillQueue_filled (s.modLink Link.popResolved)).same

theorem State.settleLink_link (s : State) : s.settleLink.link = { s.link with
    txq := s.settleLink.link.txq, cuts := s.settleLink.link.cuts, lanesPending := s.settleLink.link.lanesPending,
    overflow := s.link.popResolved.overflow } :=
  (State.fillQueue_filled (s.modLink Link.popResolved)).frame

theorem Link.AllCuts.popResolved {l : Link} (h : l.AllCuts num st) : l.popResolved.AllCuts num st :=
  fun y hy => h y ((List.dropWhile_sublist _).mem hy)

theorem State.settleLink_allCuts (h : s.link.AllCuts num st) (hSt : st ≠ .unsent) : s.settleLink.link.AllCuts num st :=
  (State.fillQueue_filled (s.modLink Link.popResolved)).allCuts h.popResolved hSt

theorem State.settleLink_noFrame (h : s.link.AllCuts num st) (hSt : st ≠ .unsent) (hNone : s.link.NoFrame num) :
    s.settleLink.link.NoFrame num :=
  (State.fillQueue_filled (s.modLink Link.popResolved)).noFrame h.popResolved hSt hNone

theorem State.Missed.settleLink (h : s.Missed num) : s.settleLink.Missed num where
  event := by
    rw [State.settleLink_frame]
    exact h.event
  cuts := State.settleLink_allCuts h.cuts (by decide)
  frames := State.settleLink_noFrame h.cuts (by decide) h.frames
  rows := by
    rw [State.settleLink_frame]
    exact h.rows

end

end Sys2Proof.Machine
end
section
/-! PROOFS. The Cut Link: frames, answers and readiness (R127 to R137). -/

set_option Elab.async false

namespace Sys2Proof.Machine

/-! ## Two cuts with one number -/

/-- A cut of number 1 whose score deadline lies at its line. -/
def cutNumberedOne (line : Nat) (status : CutStatus) : Cut :=
  { num := 1, line := line, plateEnd := false, gc := 0, scoreLate := 0, tolerance := 0, status := status, repeats := 0,
    timer := none, actual := 0, offset := false, cause := none, reason := 0 }

/-- The link ON with the cutter ready and two cuts under one number: an UNSENT one further on, and a SCORED one. -/
def oneNumberTwice : State := { State.reset with link := { Link.initial with
  on := true, ready := true, cuts := [cutNumberedOne 1 .unsent, cutNumberedOne 0 .scored] } }

theorem oneNumberTwice_deadlineTest_cuts :
    oneNumberTwice.deadlineTest.link.cuts = [cutNumberedOne 1 .queued, cutNumberedOne 0 .queued] := by decide

/-- Refutes O57: where two cuts have one number, queueing the UNSENT one makes the SCORED one QUEUED as well, whose deadline
has passed. -/
theorem not_linkSendsAndRepeatsFrames : ¬ Obligations.LinkSendsAndRepeatsFrames := by
  intro h
  obtain ⟨_, _, hDeadline, _⟩ := h
  obtain ⟨_, _, _, _, hOpen, _⟩ := hDeadline oneNumberTwice
  rw [oneNumberTwice_deadlineTest_cuts] at hOpen
  exact absurd (hOpen (cutNumberedOne 0 .queued) (by simp) rfl) (Nat.lt_irrefl 0)

/-! ## What an answer leaves alone -/

/-- What is received: the counts of frames, the frame acted on, and the cutter's READY state. -/
def State.inbox (s : State) : Vector Nat 4 × Option ActingFrame × Bool :=
  (s.link.counters.received, s.link.acting, s.link.ready)

section
variable (s : State) (num : Idx)

theorem State.inbox_of_link {s t : State} (h : t.link = s.link) : t.inbox = s.inbox := by rw [State.inbox, h, State.inbox]

theorem State.inbox_fillQueue : s.fillQueue.inbox = s.inbox := by
  rw [State.inbox, (State.fillQueue_filled s).frame]
  rfl

theorem State.inbox_settleLink : s.settleLink.inbox = s.inbox := by
  rw [State.inbox, State.settleLink_link]
  rfl

theorem State.inbox_missCut (cause : MissCause) (reason : Nat) : (s.missCut num cause reason).inbox = s.inbox := by
  rw [State.inbox, State.missCut_link]
  rfl

theorem State.inbox_missCuts (nums : List Idx) (cause : MissCause) : (s.missCuts nums cause).inbox = s.inbox := by
  rw [State.inbox, (State.missCuts_parts nums cause s).1]
  rfl

theorem State.inbox_scoreCut (c : Cut) (actual : Nat) (offset : Bool) : (s.scoreCut c actual offset).inbox = s.inbox := by
  rw [State.inbox, (State.scoreCut_parts c actual offset s).1]
  rfl

theorem State.inbox_requestLanes : s.requestLanes.inbox = s.inbox := by
  unfold State.requestLanes
  split <;> rfl

theorem State.lateAnswer_link (kind : Byte) : (s.lateAnswer kind num).link =
    { s.link with counters := { s.link.counters with late := inc32 s.link.counters.late } } := State.raise_link ..

theorem State.strangeAnswer_late (kind : Byte)
    (h : 1 ≤ (s.link.next - num).toNat ∧ (s.link.next - num).toNat ≤ 256) :
    s.strangeAnswer kind num = s.lateAnswer kind num := if_pos h

theorem State.strangeAnswer_unknown (kind : Byte)
    (h : ¬ (1 ≤ (s.link.next - num).toNat ∧ (s.link.next - num).toNat ≤ 256)) : s.strangeAnswer kind num =
      (s.modLink (fun l => { l with counters := { l.counters with unknown := inc32 l.counters.unknown } })).raise
        .linkProtocol (2 + 256 * kind.toNat) num.toNat := if_neg h

theorem State.inbox_lateAnswer (kind : Byte) : (s.lateAnswer kind num).inbox = s.inbox := by
  rw [State.inbox, State.lateAnswer_link]
  rfl

theorem State.inbox_strangeAnswer (kind : Byte) : (s.strangeAnswer kind num).inbox = s.inbox := by
  by_cases h : 1 ≤ (s.link.next - num).toNat ∧ (s.link.next - num).toNat ≤ 256
  · rw [State.strangeAnswer_late s num kind h, State.inbox_lateAnswer]
  · rw [State.strangeAnswer_unknown s num kind h]
    exact (State.inbox_of_link (State.raise_link ..)).trans rfl

end

/-! ## The answers (R131, R132, R134, R135) -/

section
variable {s : State} {num : Idx} {x : Cut} {actual reason : Nat}

/-- An answer that finds its cut resolved neither way. -/
def Cut.Open (x : Cut) : Prop := x.status = .unsent ∨ x.status = .queued ∨ x.status = .sent ∨ x.status = .accepted

theorem State.answerAccept_takes (hFind : findCut num s.link.cuts = some x)
    (h : x.status = .unsent ∨ x.status = .queued ∨ x.status = .sent) : s.answerAccept num =
      (s.modLink (fun l => ({ l with cuts := modCut num (fun x => { x with status := .accepted, timer := none }) l.cuts } :
        Link).withdraw num)).fillQueue := by
  unfold State.answerAccept
  rw [hFind]
  rcases h with h | h | h <;> simp only [h]

theorem State.answerAccept_duplicate (hFind : findCut num s.link.cuts = some x)
    (h : x.status = .accepted ∨ x.status = .scored) : s.answerAccept num = s.duplicateAnswer := by
  unfold State.answerAccept
  rw [hFind]
  rcases h with h | h <;> simp only [h]

theorem State.answerAccept_late (hFind : findCut num s.link.cuts = some x) (h : x.status = .missed) :
    s.answerAccept num = s.lateAnswer acceptCode num := by
  unfold State.answerAccept
  rw [hFind]
  simp only [h]

theorem State.answerAccept_strange (hFind : findCut num s.link.cuts = none) :
    s.answerAccept num = s.strangeAnswer acceptCode num := by
  unfold State.answerAccept
  rw [hFind]

/-- The numbers of the unresolved cuts before a cut. -/
def State.skippedBy (num : Idx) (s : State) : List Idx :=
  ((s.link.cuts.takeWhile (fun y => y.num ≠ num)).filter (fun y => !y.isResolved)).map (·.num)

theorem State.answerScored_takes (hFind : findCut num s.link.cuts = some x) (h : x.Open) : s.answerScored num actual =
    (if 4 * x.tolerance < absDiff actual x.line then (s.missCuts (s.skippedBy num) .skipped).missCut num .implausible 0
     else (s.missCuts (s.skippedBy num) .skipped).scoreCut x actual (x.tolerance < absDiff actual x.line)).settleLink := by
  unfold State.answerScored
  rw [hFind]
  rcases h with h | h | h | h <;> simp only [h] <;> rfl

theorem State.answerScored_far (hFind : findCut num s.link.cuts = some x) (h : x.Open)
    (hFar : 4 * x.tolerance < absDiff actual x.line) : s.answerScored num actual =
      ((s.missCuts (s.skippedBy num) .skipped).missCut num .implausible 0).settleLink := by
  rw [State.answerScored_takes hFind h, if_pos hFar]

theorem State.answerScored_near (hFind : findCut num s.link.cuts = some x) (h : x.Open)
    (hNear : absDiff actual x.line ≤ 4 * x.tolerance) : s.answerScored num actual =
      ((s.missCuts (s.skippedBy num) .skipped).scoreCut x actual (x.tolerance < absDiff actual x.line)).settleLink := by
  rw [State.answerScored_takes hFind h, if_neg (not_lt.2 hNear)]

theorem State.answerScored_duplicate (hFind : findCut num s.link.cuts = some x) (h : x.status = .scored) :
    s.answerScored num actual = s.duplicateAnswer := by
  unfold State.answerScored
  rw [hFind]
  simp only [h]

theorem State.answerScored_late (hFind : findCut num s.link.cuts = some x) (h : x.status = .missed) :
    s.answerScored num actual = s.lateAnswer scoredCode num := by
  unfold State.answerScored
  rw [hFind]
  simp only [h]

theorem State.answerScored_strange (hFind : findCut num s.link.cuts = none) :
    s.answerScored num actual = s.strangeAnswer scoredCode num := by
  unfold State.answerScored
  rw [hFind]

theorem State.answerRefuse_takes (hFind : findCut num s.link.cuts = some x) (h : x.Open) : s.answerRefuse num reason =
    ((s.modLink (fun l => { l with counters := { l.counters with refused := inc32 l.counters.refused } })).missCut num
      .refused reason).settleLink := by
  unfold State.answerRefuse
  rw [hFind]
  rcases h with h | h | h | h <;> simp only [h]

theorem State.answerRefuse_duplicate (hFind : findCut num s.link.cuts = some x) (h : x.status = .missed) :
    s.answerRefuse num reason = s.duplicateAnswer := by
  unfold State.answerRefuse
  rw [hFind]
  simp only [h]

theorem State.answerRefuse_late (hFind : findCut num s.link.cuts = some x) (h : x.status = .scored) :
    s.answerRefuse num reason = s.lateAnswer refuseCode num := by
  unfold State.answerRefuse
  rw [hFind]
  simp only [h]

theorem State.answerRefuse_strange (hFind : findCut num s.link.cuts = none) :
    s.answerRefuse num reason = s.strangeAnswer refuseCode num := by
  unfold State.answerRefuse
  rw [hFind]

theorem State.inbox_answerAccept : (s.answerAccept num).inbox = s.inbox := by
  cases hFind : findCut num s.link.cuts with
  | none => rw [State.answerAccept_strange hFind, State.inbox_strangeAnswer]
  | some x =>
    cases h : x.status with
    | unsent | queued | sent =>
      rw [State.answerAccept_takes hFind (by simp [h]), State.inbox_fillQueue]
      rfl
    | accepted | scored =>
      rw [State.answerAccept_duplicate hFind (by simp [h])]
      rfl
    | missed => rw [State.answerAccept_late hFind h, State.inbox_lateAnswer]

theorem State.inbox_answerScored : (s.answerScored num actual).inbox = s.inbox := by
  cases hFind : findCut num s.link.cuts with
  | none => rw [State.answerScored_strange hFind, State.inbox_strangeAnswer]
  | some x =>
    cases h : x.status with
    | unsent | queued | sent | accepted =>
      rw [State.answerScored_takes hFind (by simp [Cut.Open, h]), State.inbox_settleLink]
      split
      · rw [State.inbox_missCut, State.inbox_missCuts]
      · rw [State.inbox_scoreCut, State.inbox_missCuts]
    | scored =>
      rw [State.answerScored_duplicate hFind h]
      rfl
    | missed => rw [State.answerScored_late hFind h, State.inbox_lateAnswer]

theorem State.inbox_answerRefuse : (s.answerRefuse num reason).inbox = s.inbox := by
  cases hFind : findCut num s.link.cuts with
  | none => rw [State.answerRefuse_strange hFind, State.inbox_strangeAnswer]
  | some x =>
    cases h : x.status with
    | unsent | queued | sent | accepted =>
      rw [State.answerRefuse_takes hFind (by simp [Cut.Open, h]), State.inbox_settleLink, State.inbox_missCut]
      rfl
    | missed =>
      rw [State.answerRefuse_duplicate hFind h]
      rfl
    | scored => rw [State.answerRefuse_late hFind h, State.inbox_lateAnswer]

/-! ## A frame acted on -/

theorem State.onFrame_framed {kind : Byte} {p : List Byte} {i : Fin 4} {act : List Byte → State → State}
    (h : s.framed kind p) : s.onFrame kind i act = (act p (s.countReceived i)).actionDone := by
  obtain ⟨hActing, hForm⟩ := h
  have hFrame : s.actingFrame kind = some p := by
    unfold State.actingFrame
    rw [hActing]
    exact if_pos ⟨rfl, rfl, hForm⟩
  unfold State.onFrame
  rw [hFrame]

theorem State.inbox_eq_iff {s t : State} : t.inbox = s.inbox ↔ t.link.counters.received = s.link.counters.received
    ∧ t.link.acting = s.link.acting ∧ t.link.ready = s.link.ready := by
  simp only [State.inbox, Prod.mk.injEq]

/-- A frame that was acted on: it is counted, and its action has made its changes. -/
theorem State.framed_took {kind : Byte} {p : List Byte} {i : Fin 4} {v : State} (h : s.framed kind p)
    (hWorks : Works (s.countReceived i) v) (hReceived : v.link.counters.received = (s.countReceived i).link.counters.received)
    (hActing : v.link.acting = s.link.acting) :
    v.actionDone.link.counters.received[i] = inc32 s.link.counters.received[i]
    ∧ (∃ a, v.actionDone.link.acting = some a ∧ a.done = true)
    ∧ v.actionDone.pos = s.pos ∧ v.actionDone.path = s.path ∧ v.actionDone.ing = s.ing := by
  refine ⟨?_, ⟨{ kind := kind, payload := p, done := true }, ?_, rfl⟩, hWorks.pos, hWorks.path, hWorks.ing⟩
  · change v.link.counters.received[i] = _
    rw [hReceived]
    exact upd_getElem_self _ _ _
  · change v.link.acting.map _ = _
    rw [hActing, h.1]
    rfl

end

/-! ## Missed cuts stay missed -/

theorem State.Missed.scoreCut {s : State} {num : Idx} {c : Cut} {actual : Nat} {offset : Bool} (h : s.Missed num)
    (hOther : num ≠ c.num) : (s.scoreCut c actual offset).Missed num := by
  obtain ⟨hLink, hPlan, _⟩ := State.scoreCut_parts c actual offset s
  refine ⟨(Works.refl s).scoreCut.flags 21 h.event, ?cuts, ?frames, ?rows⟩
  case cuts =>
    rw [hLink]
    intro y hy hNum
    rcases mem_modCut hy with ⟨x, _, hx, rfl⟩ | ⟨hOld, _⟩
    · exact absurd (hNum.symm.trans hx) hOther
    · exact h.cuts y hOld hNum
  case frames =>
    rw [hLink]
    exact h.frames.withdraw (other := c.num)
  case rows =>
    rw [hPlan]
    exact h.rows.recorded fun hSame => absurd hSame hOther

theorem findCut_num {num : Idx} {cs : List Cut} {x : Cut} (h : findCut num cs = some x) : x.num = num :=
  of_decide_eq_true (List.find?_some (p := fun c : Cut => decide (c.num = num)) h)

theorem State.missed_of_mem_skippedBy {s : State} {num : Idx} {y : Cut} (hy : y ∈ s.link.cuts.takeWhile (fun y => y.num ≠ num))
    (hOpen : y.isResolved = false) : y.num ≠ num ∧ (s.missCuts (s.skippedBy num) .skipped).Missed y.num := by
  have hNe : y.num ≠ num := of_decide_eq_true (List.mem_takeWhile_imp (p := fun y : Cut => decide (y.num ≠ num)) hy)
  exact ⟨hNe, State.missCuts_missed _ _ (List.mem_map_of_mem (List.mem_filter.2 ⟨hy, by simp [hOpen]⟩))⟩

/-- Settles O59. -/
theorem cutterAnswersResolveCuts : Obligations.CutterAnswersResolveCuts := by
  intro p x s num actual off open_ took recorded duplicate late hFind
  have hNum : x.num = num := findCut_num hFind
  have hLate : ∀ (kind : Byte) (i : Fin 4), late ((s.countReceived i).lateAnswer kind num).actionDone := fun kind i => by
    refine ⟨?_, ?_, State.raise_sets .linkProtocol _ _ _, State.raise_plan ..⟩
    · exact congrArg (·.counters.late) (State.lateAnswer_link (s.countReceived i) num kind)
    · exact congrArg (·.cuts) (State.lateAnswer_link (s.countReceived i) num kind)
  have hDuplicate : ∀ i : Fin 4, duplicate (s.countReceived i).duplicateAnswer.actionDone := fun i => ⟨rfl, rfl, rfl, rfl⟩
  refine ⟨fun hFramed => ?accept, fun hFramed => ?scored, fun hFramed => ?refuse⟩
  case accept =>
    let u := s.countReceived 0
    obtain ⟨hReceived, hActing, _⟩ := State.inbox_eq_iff.1 (State.inbox_answerAccept (s := u) (num := num))
    refine ⟨(u.answerAccept num).actionDone, congrArg Host.Outcome.next (State.onFrame_framed hFramed),
      State.framed_took hFramed (Works.refl u).answerAccept hReceived hActing, fun h => ?takes, fun h => ?dup,
      fun h => ?late⟩
    case takes =>
      rw [State.answerAccept_takes (s := u) hFind h]
      let v := u.modLink (fun l => ({ l with cuts := modCut num (fun x => { x with status := .accepted, timer := none }) l.cuts } :
        Link).withdraw num)
      have hFilled : v.Filled v.fillQueue := State.fillQueue_filled v
      have hBoth : ∀ y ∈ v.link.cuts, y.num = num → y.status = .accepted ∧ y.timer = none := fun y hy hy' =>
        match mem_modCut hy with
        | .inl ⟨_, _, _, h⟩ => h ▸ ⟨rfl, rfl⟩
        | .inr ⟨_, h⟩ => absurd hy' h
      have hAll : v.link.AllCuts num .accepted := fun y hy hy' => (hBoth y hy hy').1
      refine ⟨fun y hy hy' => hBoth y (hFilled.mem_of_allCuts hAll (by decide) hy hy') hy',
        hFilled.noFrame hAll (by decide) (Link.withdraw_noFrame num _), ?_, ?_⟩
      · exact congrArg (·.plan) hFilled.same
      · exact congrArg (·.ev) hFilled.same
    case dup =>
      rw [State.answerAccept_duplicate (s := u) hFind h]
      exact hDuplicate 0
    case late =>
      rw [State.answerAccept_late (s := u) hFind h]
      exact hLate acceptCode 0
  case scored =>
    let u := s.countReceived 1
    obtain ⟨hReceived, hActing, _⟩ := State.inbox_eq_iff.1 (State.inbox_answerScored (s := u) (num := num) (actual := actual))
    let w := u.missCuts (u.skippedBy num) .skipped
    refine ⟨(u.answerScored num actual).actionDone, congrArg Host.Outcome.next (State.onFrame_framed hFramed),
      State.framed_took hFramed (Works.refl u).answerScored hReceived hActing, fun hOpen hNear => ?near,
      fun hOpen hFar => ?far, fun hOpen y hy hUnresolved => ?older, fun h => ?dup, fun h => ?late⟩
    case near =>
      rw [State.answerScored_near (s := u) hFind hOpen hNear]
      obtain ⟨hLink, hPlan, hScored, hFlag⟩ := State.scoreCut_parts x actual (decide (x.tolerance < off)) w
      let v := w.scoreCut x actual (decide (x.tolerance < off))
      have hFrame := State.settleLink_frame v
      have hAll : v.link.AllCuts num .scored := fun y hy hy' => by
        rw [hLink] at hy
        rcases mem_modCut hy with ⟨_, _, _, rfl⟩ | ⟨_, hOther⟩
        · rfl
        · exact absurd (hy'.trans hNum.symm) hOther
      refine ⟨?_, ?_, State.settleLink_allCuts hAll (by decide), fun hOff => ?_⟩
      · have hRows : v.settleLink.plan = w.plan.recorded num (.scored actual (decide (x.tolerance < off))) :=
          (congrArg (·.plan) hFrame).trans (hPlan.trans (by rw [hNum]))
        change v.settleLink.plan.Records num _
        rw [hRows]
        exact Planner.recorded_records
      · refine (congrArg (·.tally.live.scored) hFrame).trans (hScored.trans (congrArg (tallyAdd · 1) ?_))
        exact congrArg (·.scored) (State.missCuts_parts (u.skippedBy num) .skipped u).2.1
      · exact (congrArg (fun z : State => z.ev.pending.getLsbD 22) hFrame).trans (hFlag (decide_eq_true hOff))
    case far =>
      rw [State.answerScored_far (s := u) hFind hOpen hFar]
      obtain ⟨hEvent, hCuts, _, hRows⟩ := (State.missCut_missed (s := w) (num := num) (cause := .implausible)
        (reason := 0)).settleLink
      exact ⟨hRows, hCuts, hEvent⟩
    case older =>
      obtain ⟨hOther, hMissed⟩ := State.missed_of_mem_skippedBy (s := u) hy hUnresolved
      have hAfter : (u.answerScored num actual).Missed y.num := by
        rw [State.answerScored_takes (s := u) hFind hOpen]
        split
        · exact hMissed.missCut.settleLink
        · exact (hMissed.scoreCut (hNum ▸ hOther)).settleLink
      exact ⟨hAfter.event, hAfter.cuts⟩
    case dup =>
      rw [State.answerScored_duplicate (s := u) hFind h]
      exact hDuplicate 1
    case late =>
      rw [State.answerScored_late (s := u) hFind h]
      exact hLate scoredCode 1
  case refuse =>
    let u := s.countReceived 2
    obtain ⟨hReceived, hActing, _⟩ := State.inbox_eq_iff.1 (State.inbox_answerRefuse (s := u) (num := num)
      (reason := byteAt p 2))
    refine ⟨(u.answerRefuse num (byteAt p 2)).actionDone, congrArg Host.Outcome.next (State.onFrame_framed hFramed),
      State.framed_took hFramed (Works.refl u).answerRefuse hReceived hActing, fun hOpen => ?takes, fun h => ?dup,
      fun h => ?late⟩
    case takes =>
      rw [State.answerRefuse_takes (s := u) hFind hOpen]
      let v := u.modLink (fun l => { l with counters := { l.counters with refused := inc32 l.counters.refused } })
      obtain ⟨hEvent, hCuts, _, hRows⟩ := (State.missCut_missed (s := v) (num := num) (cause := .refused)
        (reason := byteAt p 2)).settleLink
      refine ⟨?_, hRows, hCuts, hEvent⟩
      refine (congrArg (·.counters.refused) (State.settleLink_link (v.missCut num .refused (byteAt p 2)))).trans ?_
      exact congrArg (·.counters.refused) (State.missCut_link num .refused (byteAt p 2) v)
    case dup =>
      rw [State.answerRefuse_duplicate (s := u) hFind h]
      exact hDuplicate 2
    case late =>
      rw [State.answerRefuse_late (s := u) hFind h]
      exact hLate refuseCode 2

/-! ## Readiness (R137) -/

section
variable {s : State}

theorem State.readiness_eq {s t : State} (hPos : t.pos = s.pos) (hReady : t.link.ready = s.link.ready) :
    t.readiness = s.readiness := by
  unfold State.readiness State.cutterInput
  rw [hPos, hReady]

theorem State.judgeReadiness_same {old : Bool} (h : old = s.readiness) : s.judgeReadiness old = s := by
  subst h
  unfold State.judgeReadiness
  cases s.readiness <;> rfl

theorem State.judgeReadiness_fell (h : s.readiness = false) : s.judgeReadiness true = s.readinessFell := by
  unfold State.judgeReadiness
  rw [h]

theorem State.judgeReadiness_rose (h : s.readiness = true) : s.judgeReadiness false = s.readinessRose := by
  unfold State.judgeReadiness
  rw [h]

theorem State.heldUnsent_frame (n : Idx) (s : State) : s.heldUnsent n =
    { s with link := { s.link with notReady := (s.heldUnsent n).link.notReady }, ev := (s.heldUnsent n).ev,
             rings := (s.heldUnsent n).rings } := by
  unfold State.heldUnsent
  split
  · rfl
  · rw [State.raise_frame]
    rfl

theorem State.heldUnsents_frame (ns : List Idx) (s : State) :
    let t := ns.foldl (fun s n => s.heldUnsent n) s
    t = { s with link := { s.link with notReady := t.link.notReady }, ev := t.ev, rings := t.rings } := by
  induction ns generalizing s with
  | nil => rfl
  | cons n ns ih =>
    dsimp only [List.foldl_cons]
    rw [ih (s.heldUnsent n), State.heldUnsent_frame]

/-- The link after the CUT frames were withdrawn from the queue. -/
def Link.fellBack (l : Link) : Link :=
  let back := (l.cuts.filter (fun c => l.txq.any (fun f => f.isCut c.num))).map (·.num)
  { l with txq := l.txq.filter (fun f => !f.isAnyCut),
           cuts := l.cuts.map (fun c => if back.contains c.num ∧ c.status = .queued then { c with status := .unsent } else c) }

theorem Link.fellBack_nums (l : Link) : l.fellBack.cuts.map (·.num) = l.cuts.map (·.num) := by
  refine (List.map_map ..).trans (List.map_congr_left fun c _ => ?_)
  dsimp only [Function.comp]
  split <;> rfl

/-- What a fall of readiness changes. -/
theorem State.readinessFell_parts (h : s.readiness = false) :
    (∀ f ∈ s.readinessFell.link.txq, f.isAnyCut = false) ∧ s.readinessFell.plan = s.plan
    ∧ s.readinessFell.link.cuts.map (·.num) = s.link.cuts.map (·.num) ∧ s.readinessFell.inbox = s.inbox := by
  let back := (s.link.cuts.filter (fun c => s.link.txq.any (fun f => f.isCut c.num))).map (·.num)
  let u := s.modLink Link.fellBack
  let v := back.foldl (fun s n => s.heldUnsent n) u
  have hHeld : v = { u with link := { u.link with notReady := v.link.notReady }, ev := v.ev, rings := v.rings } :=
    State.heldUnsents_frame back u
  have hLink : v.link = { u.link with notReady := v.link.notReady } := congrArg (·.link) hHeld
  have hFilled : v.Filled v.fillQueue := State.fillQueue_filled v
  have hReadiness : v.readiness = false :=
    (State.readiness_eq (congrArg (·.pos) hHeld) (congrArg (·.ready) hLink)).trans h
  change (∀ f ∈ v.fillQueue.link.txq, _) ∧ v.fillQueue.plan = _ ∧ v.fillQueue.link.cuts.map _ = _ ∧ v.fillQueue.inbox = _
  refine ⟨fun f hf => ?_, ?_, ?_, ?_⟩
  · obtain ⟨more, hTxq, hMore⟩ := hFilled.frames
    rw [hTxq, hLink] at hf
    rcases List.mem_append.1 hf with hOld | hNew
    · have hKept := (List.mem_filter.1 hOld).2
      simpa using hKept
    · rcases hMore f hNew with ⟨e, _, rfl⟩ | ⟨hReady, _⟩
      · rfl
      · exact absurd (hReady.symm.trans hReadiness) (by decide)
  · exact (congrArg (·.plan) hFilled.same).trans (congrArg (·.plan) hHeld)
  · rw [hFilled.waits hReadiness, hLink]
    exact Link.fellBack_nums _
  · rw [State.inbox_fillQueue, State.inbox, hLink]
    rfl

/-- The cuts that a rise of readiness finds past the cutter. -/
def State.pastCutter (s : State) : List Cut :=
  s.link.cuts.filter (fun x => x.status = .unsent && x.line + x.gc ≤ s.pos.line)

theorem State.requestLanes_frame (s : State) :
    s.requestLanes = { s with link := { s.link with lanesPending := s.requestLanes.link.lanesPending } } := by
  unfold State.requestLanes
  split <;> rfl

theorem State.requestLanes_active {i : Fin 2} {c : Campaign} (h : s.plan.active = some (i, c)) :
    s.requestLanes.link.lanesPending = some (laneEdges s.ing.pp c.lanes) := by
  unfold State.requestLanes
  rw [h]
  rfl

theorem Planner.active_of_slots {p q : Planner} (h : p.slots = q.slots) : p.active = q.active := by
  unfold Planner.active
  rw [h]

/-- What a rise of readiness changes. -/
theorem State.readinessRose_parts (s : State) :
    let t := s.readinessRose
    t.link.notReady = false
    ∧ t.link.counters.missed[6] = Nat.repeat inc32 s.pastCutter.length s.link.counters.missed[6]
    ∧ (∀ x ∈ s.pastCutter, t.Missed x.num)
    ∧ (∀ i c, s.plan.active = some (i, c) → t.link.lanesPending = some (laneEdges s.ing.pp c.lanes)
        ∨ TxFrame.lanes (laneEdges s.ing.pp c.lanes) ∈ t.link.txq)
    ∧ t.inbox = s.inbox := by
  intro t
  let gone := s.pastCutter.map (·.num)
  let u := s.modLink (fun l => { l with notReady := false })
  let v := u.missCuts gone .notReady
  let w := v.requestLanes
  have hMisses : v.link = { u.link with
      cuts := v.link.cuts, txq := v.link.txq,
      counters := { u.link.counters with missed := missedBy .notReady gone.length u.link.counters.missed } } :=
    (State.missCuts_parts gone .notReady u).1
  have hRequest : w = { v with link := { v.link with lanesPending := w.link.lanesPending } } := State.requestLanes_frame v
  have hLink : t.link = { w.link with
      txq := t.link.txq, cuts := t.link.cuts, lanesPending := t.link.lanesPending,
      overflow := w.link.popResolved.overflow } := State.settleLink_link w
  have hCounters : t.link.counters = v.link.counters :=
    (congrArg (·.counters) hLink).trans (congrArg (·.link.counters) hRequest)
  refine ⟨?_, ?_, fun x hx => ?_, fun i c hActive => ?_, ?_⟩
  · exact (congrArg (·.notReady) hLink).trans ((congrArg (·.link.notReady) hRequest).trans (congrArg (·.notReady) hMisses))
  · rw [hCounters, hMisses]
    refine (missedBy_self .notReady gone.length _).trans ?_
    rw [List.length_map]
    rfl
  · have hMissed : v.Missed x.num := State.missCuts_missed gone x.num (List.mem_map_of_mem hx)
    have hAsked : w.Missed x.num := by
      rw [hRequest]
      exact ⟨hMissed.event, hMissed.cuts, hMissed.frames, hMissed.rows⟩
    exact hAsked.settleLink
  · have hSlots : v.plan.slots = s.plan.slots := (State.missCuts_parts gone .notReady u).2.2
    have hAsked : w.link.lanesPending = some (laneEdges v.ing.pp c.lanes) :=
      State.requestLanes_active ((Planner.active_of_slots hSlots).trans hActive)
    have hIng : v.ing = s.ing := (Works.refl u).missCuts.ing
    rw [hIng] at hAsked
    exact (State.fillQueue_filled (w.modLink Link.popResolved)).lanes _ hAsked
  · calc t.inbox = w.inbox := State.inbox_settleLink w
      _ = v.inbox := State.inbox_requestLanes v
      _ = u.inbox := State.inbox_missCuts u gone .notReady

end

theorem State.inbox_judgeReadiness {s : State} (old : Bool) : (s.judgeReadiness old).inbox = s.inbox := by
  cases hOld : old with
  | false =>
    cases h : s.readiness with
    | false => rw [State.judgeReadiness_same h.symm]
    | true =>
      rw [State.judgeReadiness_rose h]
      exact (State.readinessRose_parts s).2.2.2.2
  | true =>
    cases h : s.readiness with
    | false =>
      rw [State.judgeReadiness_fell h]
      exact (State.readinessFell_parts h).2.2.2
    | true => rw [State.judgeReadiness_same h.symm]

/-- Settles O58. -/
theorem readyAndStrangeAnswers : Obligations.ReadyAndStrangeAnswers := by
  intro p s num behind strange
  refine ⟨fun hNone => ?strange, fun hFramed => ?ready⟩
  case strange =>
    have hStrange : ∀ (kind : Byte) (i : Fin 4) (run : Host.Outcome State Fault Refusal),
        run = .next ((s.countReceived i).strangeAnswer kind num).actionDone → strange run := fun kind i run hRun => by
      refine ⟨_, hRun, ?_⟩
      by_cases h : 1 ≤ behind ∧ behind ≤ 256
      · rw [State.strangeAnswer_late (s.countReceived i) num kind h]
        have hLink := State.lateAnswer_link (s.countReceived i) num kind
        exact ⟨congrArg (·.cuts) hLink, State.raise_plan .., State.raise_sets .linkProtocol _ _ _,
          fun _ => ⟨congrArg (·.counters.late) hLink, congrArg (·.counters.unknown) hLink⟩, fun hNot => absurd h hNot⟩
      · rw [State.strangeAnswer_unknown (s.countReceived i) num kind h]
        have hLink := State.raise_link ((s.countReceived i).modLink (fun l =>
          { l with counters := { l.counters with unknown := inc32 l.counters.unknown } })) .linkProtocol
          (2 + 256 * kind.toNat) num.toNat
        exact ⟨congrArg (·.cuts) hLink, State.raise_plan .., State.raise_sets .linkProtocol _ _ _,
          fun hIn => absurd hIn h, fun _ => ⟨congrArg (·.counters.unknown) hLink, congrArg (·.counters.late) hLink⟩⟩
    refine ⟨fun hFramed => hStrange acceptCode 0 _ ?_, fun hFramed => hStrange scoredCode 1 _ ?_,
      fun hFramed => hStrange refuseCode 2 _ ?_⟩
    · exact congrArg Host.Outcome.next ((State.onFrame_framed hFramed).trans
        (congrArg State.actionDone (State.answerAccept_strange (s := s.countReceived 0) hNone)))
    · exact congrArg Host.Outcome.next ((State.onFrame_framed hFramed).trans
        (congrArg State.actionDone (State.answerScored_strange (s := s.countReceived 1) hNone)))
    · exact congrArg Host.Outcome.next ((State.onFrame_framed hFramed).trans
        (congrArg State.actionDone (State.answerRefuse_strange (s := s.countReceived 2) hNone)))
  case ready =>
    let u := s.countReceived 3
    let u1 := u.modLink (fun l => { l with ready := decide (byteAt p 0 = 1) })
    let v := u1.judgeReadiness s.readiness
    have hInbox : v.inbox = u1.inbox := State.inbox_judgeReadiness _
    obtain ⟨hReceived, hActing, hReady⟩ := State.inbox_eq_iff.1 hInbox
    have hWorks : Works u v := (Works.refl u).answerReady
    have hSettled : v.actionDone.readiness = u1.readiness := State.readiness_eq hWorks.pos hReady
    have hAfter : u1.readiness = (decide (byteAt p 0 = 1) && s.cutterInput) := rfl
    obtain ⟨hCounted, hDone, hPos, hPath, hIng⟩ := State.framed_took hFramed hWorks hReceived hActing
    have hRose : s.readiness = false → v.actionDone.readiness = true → v = u1.readinessRose := fun hOld hNew => by
      have hRises := State.judgeReadiness_rose (hSettled.symm.trans hNew)
      rwa [← hOld] at hRises
    obtain ⟨hMark, hMissed, hGone, hLanes, _⟩ := State.readinessRose_parts u1
    refine ⟨v.actionDone, congrArg Host.Outcome.next (State.onFrame_framed hFramed), hReady, hCounted, hDone, hPos, hPath,
      hIng, fun hByte hOld => ?fell, fun _ hOld hNew => ?mark, fun _ hOld hNew => ?rose, fun hSame => ?same⟩
    case fell =>
      have hNot : u1.readiness = false := by
        rw [hAfter, hByte]
        rfl
      have hFall : v = u1.readinessFell := by
        have hFalls := State.judgeReadiness_fell hNot
        rwa [← hOld] at hFalls
      obtain ⟨hFrames, hPlan, hNums, _⟩ := State.readinessFell_parts hNot
      rw [hFall]
      exact ⟨hFrames, hPlan, hNums⟩
    case mark =>
      rw [hRose hOld hNew]
      exact hMark
    case rose =>
      rw [hRose hOld hNew]
      refine ⟨hMissed, fun x hx => ?_, hLanes⟩
      obtain ⟨hEvent, hCuts, _, hRows⟩ := hGone x hx
      exact ⟨hEvent, hCuts, hRows⟩
    case same =>
      have hStays : v = u1 := State.judgeReadiness_same (hSame.trans hSettled)
      rw [hStays]
      exact ⟨rfl, rfl, rfl, rfl⟩

end Sys2Proof.Machine
end
section
/-! PROOFS. The grade of a plate (R144 to R150). -/

set_option Elab.async false

namespace Sys2Proof.Machine

/-! ## Grades -/

theorem Grade.code_le (g : Grade) : g.code ≤ 3 := by cases g <;> decide

theorem Grade.worse_reject (g : Grade) : Grade.reject.worse g = .reject := if_neg (not_lt.2 g.code_le)

theorem Grade.code_le_worse (g h : Grade) : h.code ≤ (g.worse h).code := by
  unfold Grade.worse
  split
  · exact le_rfl
  · exact not_lt.1 ‹_›

/-- The computed grade asks of the number of fatal flaws whether there is one. -/
theorem GradeTable.computed_capped (t : GradeTable) (empty : Bool) (n score : Nat) :
    t.computed empty (min 65535 n) score = t.computed empty n score := by
  have hSome : 1 ≤ min 65535 n ↔ 1 ≤ n := by omega
  unfold GradeTable.computed
  simp only [hSome]

/-! ## The flaws and spans of a rectangle -/

/-- The flaws that a plate over a rectangle has. -/
def FlawMap.flawsIn (m : FlawMap) (r : Rect) : List Flaw :=
  m.flaws.filter (fun f => r.start < r.stop && f.first < r.stop && r.start ≤ f.last && f.c0 ≤ r.lane.last
    && r.lane.first ≤ f.c1)

/-- The kinds of the spans that touch a rectangle. -/
def FlawMap.kindsIn (m : FlawMap) (r : Rect) : List SpanKind := if r.isEmpty then [] else m.spanQuery r.start r.stop

section
variable {m : FlawMap} {r : Rect}

theorem Rect.isEmpty_eq_false (h : r.start < r.stop) : r.isEmpty = false := decide_eq_false (not_le.2 h)

theorem FlawMap.flawsIn_eq (m : FlawMap) (r : Rect) :
    (if r.isEmpty then [] else m.flawQuery r.start r.stop r.lane.first r.lane.last) = m.flawsIn r := by
  by_cases h : r.start < r.stop
  · rw [Rect.isEmpty_eq_false h]
    refine List.filter_congr fun f _ => ?_
    simp [h]
  · rw [show r.isEmpty = true from decide_eq_true (not_lt.1 h), FlawMap.flawsIn]
    simp [h]

theorem FlawMap.flawsIn_empty (h : r.stop ≤ r.start) : m.flawsIn r = [] := by
  rw [← FlawMap.flawsIn_eq]
  exact if_pos (decide_eq_true h)

theorem FlawMap.mem_kindsIn (h : r.start < r.stop) {k : SpanKind} :
    k ∈ m.kindsIn r ↔ ∃ x ∈ m.spans, x.kind = k ∧ x.start < r.stop ∧ r.start < x.stop := by
  unfold FlawMap.kindsIn FlawMap.spanQuery
  rw [Rect.isEmpty_eq_false h]
  simp only [Bool.false_eq_true, ↓reduceIte, List.mem_map, List.mem_filter, Bool.and_eq_true, decide_eq_true_eq]
  constructor
  · rintro ⟨x, ⟨hx, hTouch⟩, hKind⟩
    exact ⟨x, hx, hKind, hTouch⟩
  · rintro ⟨x, hx, hKind, hTouch⟩
    exact ⟨x, ⟨hx, hTouch⟩, hKind⟩

theorem SpanKind.isMapFull_iff (k : SpanKind) : k.isMapFull = true ↔ k = .mapFull ∨ k = .mixed := by
  cases k <;> decide

theorem SpanKind.uninspected_iff (k : SpanKind) : k.uninspected = true ↔ k ≠ .mapFull := by
  cases k <;> decide

theorem Rect.inCore_iff (f : Flaw) : r.inCore f = true ↔
    r.lane.first + r.bandCols ≤ (f.c0 + f.c1) / 2 ∧ (f.c0 + f.c1) / 2 + r.bandCols ≤ r.lane.last
      ∧ r.start + r.bandLines ≤ (f.first + f.last) / 2 ∧ (f.first + f.last) / 2 + 1 + r.bandLines ≤ r.stop := by
  simp only [Rect.inCore, Bool.and_eq_true, decide_eq_true_eq, and_assoc, Nat.add_right_comm _ 1]

end

theorem classIndex_val (c : FlawClass) {bin : Nat} (h : bin < 8) : (classIndex c bin).val = c.code * 8 + bin := by
  refine Nat.mod_eq_of_lt ?_
  have hCode : c.code ≤ 4 := by cases c <;> decide
  omega

/-! ## The grading -/

section
variable (t : GradeTable) (m : FlawMap) (r : Rect) (cap : Grade) (unsealed missed : Bool) (ext : Option Extremes)

/-- What a grading is made of. -/
theorem gradePlate_eq : gradePlate t m r cap unsealed missed ext =
    (let fs := m.flawsIn r
     let fatals := fs.filter (t.isFatal r)
     let score := min Config.max16 ((fs.map (fun f => t.points (r.inCore f) f)).sum)
     let uninspected := (m.kindsIn r).any SpanKind.uninspected
     let mapFull := (m.kindsIn r).any SpanKind.isMapFull
     let computed := t.computed r.isEmpty fatals.length score
     let capped := if uninspected || mapFull || unsealed || missed then computed.worse cap else computed
     { grade := if shortLane r.lane ext then .reject else capped, score := score, flaws := min Config.max16 fs.length,
       fatal := min Config.max16 fatals.length, fatalLast := highestLast fatals, uninspected := uninspected,
       mapFull := mapFull, edgeShort := shortLane r.lane ext }) := by
  unfold gradePlate
  rw [FlawMap.flawsIn_eq]
  rfl

theorem shortLane_iff (lane : Lane) :
    shortLane lane ext = true ↔ ∃ e, ext = some e ∧ (lane.first < e.left ∨ e.right < lane.last) := by
  cases ext with
  | none => simp [shortLane]
  | some e => simp [shortLane]

end

/-- Settles O56. -/
theorem plateGradeIsCappedAndEdgeTested : Obligations.PlateGradeIsCappedAndEdgeTested := by
  intro t m r cap unsealed missed ext g attributed core fatal inSpan short mine inCore worse
  have hShort : shortLane r.lane ext = true ↔ short := shortLane_iff ext r.lane
  have hCore : r.inCore = inCore := funext fun f => Bool.eq_iff_iff.2 ((Rect.inCore_iff f).trans (by
    simp only [inCore, Bool.and_eq_true, decide_eq_true_eq, and_assoc]))
  have hGrade : g = _ := gradePlate_eq t m r cap unsealed missed ext
  let fatals := mine.filter (t.isFatal r)
  let flagged : Bool := g.uninspected || g.mapFull || unsealed || missed
  let made : Grade := t.computed r.isEmpty fatals.length g.score
  have hFatal : g.fatal = min 65535 fatals.length := congrArg PlateResult.fatal hGrade
  have hMade : t.computed (decide (r.stop ≤ r.start)) g.fatal g.score = made := by
    rw [hFatal, GradeTable.computed_capped]
    rfl
  have hOf : g.grade = if shortLane r.lane ext then .reject else if flagged then made.worse cap else made := by
    simp only [flagged, made]
    rw [hGrade]
    rfl
  have hFlagged : flagged = true ↔ g.uninspected = true ∨ g.mapFull = true ∨ unsealed = true ∨ missed = true := by
    simp only [flagged, Bool.or_eq_true, or_assoc]
  have hReject : made = .reject → g.grade = .reject := fun h => by
    rw [hOf, h, Grade.worse_reject]
    simp only [ite_self]
  have hEmpty : r.stop ≤ r.start → mine = [] := FlawMap.flawsIn_empty
  refine ⟨?points, congrArg PlateResult.flaws hGrade, ?fatals, fun hLong hFlag => ?worseOf, ?edgeTest, fun h => ?shortLane,
    fun h => ?noLines, ?anyFatal, fun h => ?spansFull, fun h => ?spansLost, fun hFlag => ?atLeast,
    fun hLong hUninspected hMap hSealed hCut => ?plain, fun f => ⟨rfl, rfl⟩⟩
  case points =>
    rw [← hCore]
    exact congrArg PlateResult.score hGrade
  case fatals =>
    rw [← hCore]
    exact hFatal
  case worseOf =>
    rw [hMade, hOf, if_neg (fun h => hLong (hShort.1 h)), if_pos (hFlagged.2 hFlag)]
    rfl
  case edgeTest =>
    rw [← hShort]
    exact iff_of_eq (congrArg (· = true) (congrArg PlateResult.edgeShort hGrade))
  case shortLane => rw [hOf, if_pos (hShort.2 h)]
  case noLines =>
    refine ⟨hReject (congrArg (fun e => t.computed e fatals.length g.score) (decide_eq_true h)), ?_, ?_, ?_⟩
    · refine (congrArg PlateResult.flaws hGrade).trans ?_
      exact congrArg (fun l : List Flaw => min 65535 l.length) (hEmpty h)
    · refine hFatal.trans ?_
      exact congrArg (fun l : List Flaw => min 65535 (l.filter (t.isFatal r)).length) (hEmpty h)
    · refine (congrArg PlateResult.score hGrade).trans ?_
      exact congrArg (fun l : List Flaw => min 65535 (l.map (fun f => t.points (r.inCore f) f)).sum) (hEmpty h)
  case anyFatal =>
    rintro ⟨f, ⟨⟨hMem, hLines, hAttributed⟩, hInCore, hMark⟩, hBin⟩
    have hMine : f ∈ mine := List.mem_filter.2 ⟨hMem, by
      simp only [Bool.and_eq_true, decide_eq_true_eq]
      exact ⟨⟨⟨⟨hLines, hAttributed.1⟩, hAttributed.2.1⟩, hAttributed.2.2.1⟩, hAttributed.2.2.2⟩⟩
    have hIsFatal : t.isFatal r f = true := by
      rw [GradeTable.isFatal, (Rect.inCore_iff f).2 hInCore, classIndex_val f.cls hBin, hMark]
      rfl
    have hCount : 1 ≤ fatals.length := List.length_pos_of_mem (List.mem_filter.2 ⟨hMine, hIsFatal⟩)
    exact hReject (GradeTable.computed_of_fatal hCount)
  case spansFull =>
    rw [show g.mapFull = (m.kindsIn r).any SpanKind.isMapFull from congrArg PlateResult.mapFull hGrade, List.any_eq_true]
    simp only [SpanKind.isMapFull_iff, FlawMap.mem_kindsIn h]
    constructor
    · rintro ⟨k, hSpan, rfl | rfl⟩
      · exact .inl hSpan
      · exact .inr hSpan
    · rintro (hSpan | hSpan)
      · exact ⟨.mapFull, hSpan, .inl rfl⟩
      · exact ⟨.mixed, hSpan, .inr rfl⟩
  case spansLost =>
    rw [show g.uninspected = (m.kindsIn r).any SpanKind.uninspected from congrArg PlateResult.uninspected hGrade,
      List.any_eq_true]
    simp only [SpanKind.uninspected_iff, FlawMap.mem_kindsIn h]
    exact exists_congr fun k => and_comm
  case atLeast =>
    rw [hOf, if_pos (hFlagged.2 hFlag)]
    split
    · exact cap.code_le
    · exact Grade.code_le_worse made cap
  case plain =>
    have hNone : flagged = false := by
      simp only [flagged, hUninspected, hMap, hSealed, hCut, Bool.or_self]
    rw [hMade, hOf, if_neg (fun h => hLong (hShort.1 h)), hNone]
    rfl

end Sys2Proof.Machine
end
section
/-! PROOFS. The pixels (R52, R53, R55): the class of one, and the columns that learn. -/

set_option Elab.async false

namespace Sys2Proof.Machine

theorem clamp88_cast (x : Int) : (clamp88 x : Int) = max 0 (min 65280 x) := Int.toNat_of_nonneg (le_max_left _ _)

/-! ## The column store after columns were set -/

theorem Cols.setAll_cons (c : Nat) (v : BN) (new : List (Nat × BN)) (cs : Cols) :
    cs.setAll ((c, v) :: new) = Cols.setAll (Cols.set c v cs) new := rfl

/-- A column that is not set keeps its value. -/
theorem Cols.get_setAll_of_not_mem {col : Nat} {new : List (Nat × BN)} (h : ∀ x ∈ new, x.1 ≠ col) {cs : Cols}
    (w : cs.wf = true) : (cs.setAll new).get col = cs.get col := by
  induction new generalizing cs with
  | nil => rfl
  | cons x new ih =>
    obtain ⟨c, v⟩ := x
    obtain ⟨hHead, hRest⟩ := List.forall_mem_cons.1 h
    rw [Cols.setAll_cons, ih hRest (Cols.set_wf c v cs w), Cols.get_set c col v cs w, if_neg (Ne.symm hHead)]

/-- Columns that are set once each read as they were set. -/
theorem Cols.get_setAll_of_mem {new : List (Nat × BN)} (h : new.Pairwise (fun x y => x.1 ≠ y.1)) {cs : Cols}
    (w : cs.wf = true) {x : Nat × BN} (hx : x ∈ new) : (cs.setAll new).get x.1 = x.2 := by
  induction new generalizing cs with
  | nil => cases hx
  | cons y new ih =>
    obtain ⟨c, v⟩ := y
    obtain ⟨hHead, hRest⟩ := List.pairwise_cons.1 h
    have hSet := Cols.set_wf c v cs w
    rw [Cols.setAll_cons]
    rcases List.mem_cons.1 hx with rfl | hx
    · rw [Cols.get_setAll_of_not_mem (fun y hy => (hHead y hy).symm) hSet, Cols.get_set c c v cs w, if_pos rfl]
    · exact ih hRest hSet hx

/-- The used pixels of a camera line lie in different columns. -/
theorem CamSettings.pixels_columns (c : CamSettings) (bytes : List Byte) :
    (c.pixels bytes).Pairwise (fun x y => x.1 ≠ y.1) := by
  have hIndex : ∀ (l : List Byte), (l.zipIdx.map (·.2)).Nodup := fun l => by
    rw [List.zipIdx_map_snd]
    exact List.nodup_range'
  refine List.pairwise_map.2 ((List.pairwise_map.1 (hIndex ((bytes.drop c.first).take (c.last + 1 - c.first)))).imp ?_)
  exact fun hNe hEq => hNe (Nat.add_left_cancel hEq)

/-! ## The first line of learning -/

/-- R55: a column that starts to learn from its pixel. -/
def Detect.started (d : Detect) (x : Nat × Nat) : Nat × BN := (x.1, { b := 256 * x.2, n := d.initNoise })

theorem classifyLine_starts {d : Detect} {left right line q : Nat} {cols : Cols} {cam : Camera} {bytes : List Byte}
    (hLearn : cam.learn = .start) (hq : cam.startCapture ≤ q) :
    let k := classifyLine d left right cols cam line q bytes
    k.learn = .learning ∧ k.remaining = d.learnLines - 1 ∧ k.res.runs = [] ∧ k.res.learning = true ∧ k.res.line = line
    ∧ k.res.flood = false ∧ k.cols = cols.setAll ((cam.cfg.pixels bytes).map d.started) := by
  unfold classifyLine
  simp only [if_neg (not_lt.2 hq), hLearn, true_and]
  rfl

/-- Settles O48. -/
theorem pixelsAreJudgedAndLearned : Obligations.PixelsAreJudgedAndLearned := by
  intro d v p threshold dev
  refine ⟨fun hHigh => if_pos hHigh, fun hLow => ⟨fun hDark => ?_, fun hBright => ?_, fun hBelow hAbove => ?_⟩,
    clamp88_cast _, clamp88_cast _, fun left right line q cols cam bytes hLearn hq => ?_⟩
  · exact (if_neg (not_lt.2 hLow)).trans (if_pos hDark)
  · have hNotDark : ¬ 256 * p + threshold < v.b := by omega
    exact (if_neg (not_lt.2 hLow)).trans ((if_neg hNotDark).trans (if_pos hBright))
  · exact (if_neg (not_lt.2 hLow)).trans ((if_neg (not_lt.2 hBelow)).trans (if_neg (not_lt.2 hAbove)))
  · obtain ⟨hState, hLeft, hRuns, hMark, hLine, hFlood, hCols⟩ :=
      classifyLine_starts (d := d) (left := left) (right := right) (line := line) (cols := cols) (bytes := bytes) hLearn hq
    refine ⟨hState, hLeft, hRuns, hMark, hLine, hFlood, fun hWf x hx => ?_⟩
    rw [hCols]
    have hOnce : ((cam.cfg.pixels bytes).map d.started).Pairwise (fun x y => x.1 ≠ y.1) :=
      List.pairwise_map.2 (CamSettings.pixels_columns cam.cfg bytes)
    exact Cols.get_setAll_of_mem hOnce hWf (List.mem_map_of_mem hx)

end Sys2Proof.Machine
end
section
/-! PROOFS. A line trigger (R1 to R4, R136). -/

set_option Elab.async false

namespace Sys2Proof.Machine

/-- The link of `oneNumberTwice`, bound and READY, with one forward count missing to the next line. -/
def oneNumberTwiceAtTrigger : State := { State.reset with
  pos := { State.reset.pos with dv := 1 }
  cp := { State.reset.cp with binding := .ready }
  link := { Link.initial with on := true, ready := true, cuts := [cutNumberedOne 5 .unsent, cutNumberedOne 0 .scored] } }

/-- The part after the encoder count that makes the line. -/
def oneNumberTwiceTriggered : State := oneNumberTwiceAtTrigger.encoder true false

theorem oneNumberTwiceTriggered_cuts :
    oneNumberTwiceTriggered.link.cuts = [cutNumberedOne 5 .queued, cutNumberedOne 0 .queued] := by decide

/-- Refutes O16: where two cuts have one number, the deadline test of the trigger queues the UNSENT one and makes the SCORED one
QUEUED as well, whose deadline has passed. -/
theorem not_lineTriggerAdvancesLine : ¬ Obligations.LineTriggerAdvancesLine := by
  intro h
  obtain ⟨hTrigger, _⟩ := h
  obtain ⟨t, hRun, _, _, _, hOpen, _⟩ :=
    hTrigger true false oneNumberTwiceAtTrigger rfl rfl rfl (by decide) (by decide)
  obtain rfl : oneNumberTwiceTriggered = t := Host.Outcome.next.inj hRun
  rw [oneNumberTwiceTriggered_cuts] at hOpen
  exact absurd (hOpen (cutNumberedOne 0 .queued) (by simp) rfl) (by decide)

end Sys2Proof.Machine
end
section
/-! PROOFS. Spans (R80 to R85): what a span request covers, counts and keeps, and what a retirement line retires. -/

set_option Elab.async false

namespace Sys2Proof.Machine

/-! ## The kind of a line -/

/-- A line lies in a span of a kind. -/
def kindAt (ss : List Span) (n : Nat) (j : SpanKind) : Prop := ∃ x ∈ ss, x.start ≤ n ∧ n < x.stop ∧ x.kind = j

theorem covered_iff_kindAt {ss : List Span} {n : Nat} : covered ss n ↔ ∃ j, kindAt ss n j := by
  constructor
  · rintro ⟨x, hx, hStart, hStop⟩
    exact ⟨x.kind, x, hx, hStart, hStop, rfl⟩
  · rintro ⟨_, x, hx, hStart, hStop, _⟩
    exact ⟨x, hx, hStart, hStop⟩

theorem kindAt_cons {s : Span} {ss : List Span} {n : Nat} {j : SpanKind} :
    kindAt (s :: ss) n j ↔ (s.start ≤ n ∧ n < s.stop ∧ s.kind = j) ∨ kindAt ss n j := by
  unfold kindAt
  exact List.exists_mem_cons_iff ..

theorem kindAt_append {ss ts : List Span} {n : Nat} {j : SpanKind} : kindAt (ss ++ ts) n j ↔ kindAt ss n j ∨ kindAt ts n j := by
  unfold kindAt
  simp only [List.mem_append, or_and_right, exists_or]

theorem covered_cons {s : Span} {ss : List Span} {n : Nat} : covered (s :: ss) n ↔ (s.start ≤ n ∧ n < s.stop) ∨ covered ss n := by
  unfold covered
  exact List.exists_mem_cons_iff ..

theorem spansOrdered_cons {s : Span} {ss : List Span} :
    spansOrdered (s :: ss) ↔ s.start < s.stop ∧ (∀ x ∈ ss, s.stop ≤ x.start) ∧ spansOrdered ss := by
  unfold spansOrdered
  rw [List.pairwise_cons, List.forall_mem_cons]
  tauto

theorem spansOrdered_append {ss ts : List Span} :
    spansOrdered (ss ++ ts) ↔ spansOrdered ss ∧ spansOrdered ts ∧ ∀ x ∈ ss, ∀ y ∈ ts, x.stop ≤ y.start := by
  unfold spansOrdered
  rw [List.pairwise_append, List.forall_mem_append]
  tauto

/-! ## Spans that touch become one -/

theorem coalesce_cons (s : Span) (ss : List Span) :
    ∃ t ts, coalesce (s :: ss) = t :: ts ∧ t.kind = s.kind ∧ t.start = s.start := by
  rw [coalesce]
  split
  · exact ⟨s, [], rfl, rfl, rfl⟩
  · split
    · exact ⟨_, _, rfl, rfl, rfl⟩
    · exact ⟨s, _, rfl, rfl, rfl⟩

theorem length_coalesce_cons (s : Span) (ss : List Span) : (coalesce (s :: ss)).length ≤ (coalesce ss).length + 1 := by
  rw [coalesce]
  cases coalesce ss with
  | nil => exact le_rfl
  | cons t ts =>
    dsimp only
    split
    · exact Nat.le_succ _
    · exact le_rfl

theorem length_coalesce (ss : List Span) : (coalesce ss).length ≤ ss.length := by
  induction ss with
  | nil => exact le_rfl
  | cons s ss ih => exact (length_coalesce_cons s ss).trans (Nat.succ_le_succ ih)

/-- Two neighbours of one kind that touch leave one place. -/
theorem length_coalesce_touching (before after : List Span) {x y : Span} (hKind : x.kind = y.kind) (hTouch : y.start ≤ x.stop) :
    (coalesce (before ++ x :: y :: after)).length ≤ before.length + after.length + 1 := by
  induction before with
  | nil =>
    obtain ⟨t, ts, hJoin, htKind, htStart⟩ := coalesce_cons y after
    have hLen := length_coalesce (y :: after)
    rw [List.nil_append, coalesce, hJoin]
    rw [hJoin] at hLen
    dsimp only
    rw [if_pos ⟨hKind.trans htKind.symm, htStart ▸ hTouch⟩]
    simp only [List.length_cons, List.length_nil] at hLen ⊢
    omega
  | cons s before ih =>
    refine (length_coalesce_cons s (before ++ x :: y :: after)).trans ?_
    rw [List.length_cons]
    omega

/-- Joining touching spans of one kind keeps the order and the kind of every line. -/
theorem coalesce_keeps {ss : List Span} (h : spansOrdered ss) :
    spansOrdered (coalesce ss) ∧ ∀ n j, kindAt (coalesce ss) n j ↔ kindAt ss n j := by
  induction ss with
  | nil => exact ⟨h, fun _ _ => Iff.rfl⟩
  | cons s ss ih =>
    obtain ⟨hOwn, hBefore, hRest⟩ := spansOrdered_cons.1 h
    obtain ⟨hOrder, hKinds⟩ := ih hRest
    rw [coalesce]
    cases hJoin : coalesce ss with
    | nil =>
      rw [hJoin] at hKinds
      refine ⟨spansOrdered_cons.2 ⟨hOwn, by simp, by simp [spansOrdered]⟩, fun n j => ?_⟩
      rw [kindAt_cons, kindAt_cons, hKinds]
    | cons t ts =>
      rw [hJoin] at hOrder hKinds
      obtain ⟨htOwn, htBefore, htRest⟩ := spansOrdered_cons.1 hOrder
      have hHead : s.stop ≤ t.start := by
        obtain ⟨x, hx, hStart, _⟩ := (hKinds t.start t.kind).1 ⟨t, List.mem_cons_self, le_rfl, htOwn, rfl⟩
        exact (hBefore x hx).trans hStart
      dsimp only
      split
      next hSame =>
        obtain ⟨hKind, hTouch⟩ := hSame
        refine ⟨spansOrdered_cons.2 ⟨?_, fun x hx => ?_, htRest⟩, fun n j => ?_⟩
        · exact hOwn.trans_le (le_max_left _ _)
        · exact max_le (by have := htBefore x hx; omega) (htBefore x hx)
        · rw [kindAt_cons, kindAt_cons (s := s) (ss := ss), ← hKinds, kindAt_cons]
          have hUnion : s.start ≤ n ∧ n < max s.stop t.stop ↔
              (s.start ≤ n ∧ n < s.stop) ∨ (t.start ≤ n ∧ n < t.stop) := by omega
          rw [← and_assoc, hUnion, hKind]
          tauto
      next =>
        refine ⟨spansOrdered_cons.2 ⟨hOwn, fun x hx => ?_, hOrder⟩, fun n j => ?_⟩
        · rcases List.mem_cons.1 hx with rfl | hx
          · exact hHead
          · have := htBefore x hx
            omega
        · rw [kindAt_cons, kindAt_cons (s := s) (ss := ss), hKinds]

/-! ## The place of a piece among the spans -/

/-- A piece that nothing covers stands between the spans before it and those after it. -/
structure Between (a b : Nat) (before after : List Span) : Prop where
  piece : a < b
  left : spansOrdered before
  right : spansOrdered after
  stops : ∀ x ∈ before, x.stop ≤ a
  starts : ∀ y ∈ after, b ≤ y.start

theorem exists_between {a b : Nat} {ss : List Span} (hOrder : spansOrdered ss) (hPiece : a < b)
    (hFree : ∀ n, a ≤ n → n < b → ¬ covered ss n) : ∃ before after, ss = before ++ after ∧ Between a b before after := by
  induction ss with
  | nil => exact ⟨[], [], rfl, hPiece, hOrder, hOrder, by simp, by simp⟩
  | cons s ss ih =>
    obtain ⟨hOwn, hBefore, hRest⟩ := spansOrdered_cons.1 hOrder
    have hNot : ∀ n, a ≤ n → n < b → ¬ (s.start ≤ n ∧ n < s.stop) := fun n ha hb hIn =>
      hFree n ha hb (covered_cons.2 (.inl hIn))
    by_cases hStop : s.stop ≤ a
    · obtain ⟨before, after, rfl, h⟩ := ih hRest fun n ha hb hIn => hFree n ha hb (covered_cons.2 (.inr hIn))
      refine ⟨s :: before, after, rfl, h.piece, ?_, h.right, ?_, h.starts⟩
      · exact spansOrdered_cons.2 ⟨hOwn, fun x hx => hBefore x (List.mem_append_left _ hx), h.left⟩
      · exact List.forall_mem_cons.2 ⟨hStop, h.stops⟩
    · have hStart : b ≤ s.start := by
        by_contra hLess
        exact hNot (max a s.start) (le_max_left _ _) (by omega) (by omega)
      refine ⟨[], s :: ss, rfl, hPiece, by simp [spansOrdered], hOrder, by simp, ?_⟩
      exact List.forall_mem_cons.2 ⟨hStart, fun x hx => by have := hBefore x hx; omega⟩

namespace Between

variable {a b : Nat} {before after : List Span} {k : SpanKind}

theorem insertSpan_eq (h : Between a b before after) :
    insertSpan { kind := k, start := a, stop := b } (before ++ after) =
      before ++ { kind := k, start := a, stop := b } :: after := by
  obtain ⟨hPiece, hLeft, hRight, hStops, hStarts⟩ := h
  unfold insertSpan
  induction before with
  | nil =>
    cases after with
    | nil => rfl
    | cons y after =>
      have hFirst : a < y.start := hPiece.trans_le (hStarts y List.mem_cons_self)
      exact if_pos (decide_eq_true hFirst)
  | cons x before ih =>
    obtain ⟨hOwn, _, hRest⟩ := spansOrdered_cons.1 hLeft
    have hNot : ¬ a < x.start := by
      have := hStops x List.mem_cons_self
      omega
    refine (if_neg (by simpa using hNot)).trans (congrArg (x :: ·) ?_)
    exact ih hRest fun y hy => hStops y (List.mem_cons_of_mem _ hy)

theorem inserted_ordered (h : Between a b before after) :
    spansOrdered (before ++ { kind := k, start := a, stop := b } :: after) := by
  refine spansOrdered_append.2 ⟨h.left, spansOrdered_cons.2 ⟨h.piece, h.starts, h.right⟩, fun x hx y hy => ?_⟩
  rcases List.mem_cons.1 hy with rfl | hy
  · exact h.stops x hx
  · have := h.stops x hx
    have := h.starts y hy
    have := h.piece
    omega

theorem filter_before (h : Between a b before after) : (before ++ after).filter (fun s => s.stop ≤ a) = before := by
  rw [List.filter_append, List.filter_eq_self.2 fun x hx => decide_eq_true (h.stops x hx), List.filter_eq_nil_iff.2,
    List.append_nil]
  intro y hy hStop
  have := of_decide_eq_true hStop
  have := h.starts y hy
  have := h.right.2 y hy
  have := h.piece
  omega

theorem filter_after (h : Between a b before after) : (before ++ after).filter (fun s => !(s.stop ≤ a)) = after := by
  rw [List.filter_append, List.filter_eq_nil_iff.2 fun x hx => by simp [h.stops x hx], List.nil_append]
  refine List.filter_eq_self.2 fun y hy => ?_
  have := h.starts y hy
  have := h.right.2 y hy
  have := h.piece
  simp
  omega

end Between

/-- The span that takes a piece of another kind in. -/
def Span.grown (k : SpanKind) (a b : Nat) (s : Span) : Span :=
  { kind := if s.kind = k then s.kind else .mixed, start := min s.start a, stop := max s.stop b }

namespace Between

variable {a b : Nat} {before after : List Span} {k : SpanKind} {s : Span}

theorem mergeSpan_before (h : Between a b (before ++ [s]) after) :
    mergeSpan k a b (before ++ [s] ++ after) = before ++ s.grown k a b :: after := by
  unfold mergeSpan
  dsimp only
  rw [h.filter_before, h.filter_after, List.getLast?_concat, List.dropLast_concat]
  rfl

theorem mergeSpan_after (h : Between a b [] (s :: after)) : mergeSpan k a b (s :: after) = s.grown k a b :: after := by
  have hBefore := h.filter_before
  have hAfter := h.filter_after
  rw [List.nil_append] at hBefore hAfter
  unfold mergeSpan
  dsimp only
  rw [hBefore, hAfter]
  rfl

end Between

/-! ## One piece entered -/

/-- What one piece that enters the list leaves and makes. -/
structure Entered (k : SpanKind) (a b : Nat) (ss ts : List Span) : Prop where
  order : spansOrdered ts
  keeps : ∀ n j, kindAt ss n j → kindAt ts n j ∨ kindAt ts n .mixed
  takes : ∀ n, a ≤ n → n < b → kindAt ts n k ∨ kindAt ts n .mixed
  above : covered ss b → ∀ n, b ≤ n → covered ts n → covered ss n
  length : ss.length ≤ 16 → ts.length ≤ 16

theorem Entered.of_coalesce {k : SpanKind} {a b : Nat} {ss ts : List Span} (hOrder : spansOrdered ts)
    (hKeeps : ∀ n j, kindAt ss n j → kindAt ts n j ∨ kindAt ts n .mixed)
    (hTakes : ∀ n, a ≤ n → n < b → kindAt ts n k ∨ kindAt ts n .mixed)
    (hAbove : covered ss b → ∀ n, b ≤ n → covered ts n → covered ss n)
    (hLength : ss.length ≤ 16 → (coalesce ts).length ≤ 16) : Entered k a b ss (coalesce ts) := by
  obtain ⟨hOrdered, hKinds⟩ := coalesce_keeps hOrder
  refine ⟨hOrdered, fun n j => ?_, fun n => ?_, fun hb n hn => ?_, hLength⟩
  · rw [hKinds, hKinds]
    exact hKeeps n j
  · rw [hKinds, hKinds]
    exact hTakes n
  · rw [covered_iff_kindAt]
    simp only [hKinds]
    rw [← covered_iff_kindAt]
    exact hAbove hb n hn

namespace Between

variable {a b : Nat} {before after : List Span} {k : SpanKind} {s : Span}

theorem kindAt_inserted {n : Nat} {j : SpanKind} : kindAt (before ++ { kind := k, start := a, stop := b } :: after) n j ↔
    kindAt (before ++ after) n j ∨ (a ≤ n ∧ n < b ∧ k = j) := by
  rw [kindAt_append, kindAt_cons, kindAt_append]
  tauto

/-- A piece that touches a span of its own kind takes no further place. -/
theorem length_touching (h : Between a b before after) (hTouch : touchesOwn k a b (before ++ after) = true) :
    (coalesce (before ++ { kind := k, start := a, stop := b } :: after)).length ≤ (before ++ after).length := by
  obtain ⟨s, hs, hOwn⟩ := List.any_eq_true.1 hTouch
  obtain ⟨hKind, hEdge⟩ : s.kind = k ∧ (s.stop = a ∨ s.start = b) := by simpa using hOwn
  obtain ⟨hPiece, hLeft, hRight, hStops, hStarts⟩ := h
  rw [List.length_append]
  rcases List.mem_append.1 hs with hs | hs
  · have hStop : s.stop = a := hEdge.resolve_right fun hStart => by
      have := hStops s hs
      have := hLeft.2 s hs
      omega
    obtain ⟨init, last, rfl⟩ := List.eq_nil_or_concat' before |>.resolve_left (List.ne_nil_of_mem hs)
    obtain rfl : s = last := by
      rcases List.mem_append.1 hs with hInit | hLast
      · obtain ⟨_, _, hBefore⟩ := spansOrdered_append.1 hLeft
        have := hBefore s hInit last (List.mem_singleton_self _)
        have := hLeft.2 last (by simp)
        have := hStops last (by simp)
        omega
      · exact List.mem_singleton.1 hLast
    have hLen := length_coalesce_touching init after (x := s) (y := { kind := k, start := a, stop := b }) hKind hStop.ge
    simpa [Nat.add_right_comm] using hLen
  · have hStart : s.start = b := hEdge.resolve_left fun hStop => by
      have := hStarts s hs
      have := hRight.2 s hs
      omega
    obtain ⟨first, rest, rfl⟩ := List.exists_cons_of_ne_nil (List.ne_nil_of_mem hs)
    obtain rfl : s = first := by
      rcases List.mem_cons.1 hs with hFirst | hRest
      · exact hFirst
      · obtain ⟨hOwn, hBefore, _⟩ := spansOrdered_cons.1 hRight
        have := hBefore s hRest
        have := hStarts first List.mem_cons_self
        omega
    have hLen := length_coalesce_touching before rest (x := { kind := k, start := a, stop := b }) (y := s) hKind.symm
      hStart.le
    simpa [Nat.add_assoc] using hLen

/-- A piece that touches a span of its own kind, or has room, enters as a span of its own. -/
theorem entered_inserted (h : Between a b before after) (hRoom : touchesOwn k a b (before ++ after) = true
      ∨ (before ++ after).length < 16) :
    Entered k a b (before ++ after) (coalesce (before ++ { kind := k, start := a, stop := b } :: after)) := by
  refine Entered.of_coalesce h.inserted_ordered (fun n j hn => .inl (kindAt_inserted.2 (.inl hn)))
    (fun n ha hb => .inl (kindAt_inserted.2 (.inr ⟨ha, hb, rfl⟩))) (fun _ n hn hIn => ?_) (fun hLen => ?_)
  · obtain ⟨j, hj⟩ := covered_iff_kindAt.1 hIn
    rcases kindAt_inserted.1 hj with hOld | ⟨_, hLess, _⟩
    · exact covered_iff_kindAt.2 ⟨j, hOld⟩
    · omega
  · rcases hRoom with hTouch | hLess
    · exact (h.length_touching hTouch).trans hLen
    · refine (length_coalesce _).trans ?_
      rw [List.length_append] at hLess ⊢
      exact hLess

theorem grown_kind (s : Span) : (s.grown k a b).kind = k ∨ (s.grown k a b).kind = .mixed := by
  unfold Span.grown
  dsimp only
  split
  · exact .inl ‹_›
  · exact .inr rfl

/-- A line of the grown span has the kind of the request where the span had it, and is MIXED otherwise. -/
theorem kindAt_grown {n : Nat} {ss ts : List Span} (hIn : min s.start a ≤ n ∧ n < max s.stop b) :
    kindAt (ss ++ s.grown k a b :: ts) n (if s.kind = k then k else .mixed) := by
  refine kindAt_append.2 (.inr (kindAt_cons.2 (.inl ⟨hIn.1, hIn.2, ?_⟩)))
  change (if s.kind = k then s.kind else SpanKind.mixed) = _
  split
  · exact ‹_›
  · rfl

/-- A list in which one span takes the piece in. -/
theorem entered_grown (h : Between a b before after) {ss ts : List Span} (hSpans : before ++ after = ss ++ s :: ts)
    (hOrder : spansOrdered (ss ++ s.grown k a b :: ts))
    (hAbove : covered (before ++ after) b → s.start ≤ b) :
    Entered k a b (before ++ after) (coalesce (ss ++ s.grown k a b :: ts)) := by
  have hEither : ∀ n, min s.start a ≤ n ∧ n < max s.stop b →
      ∀ j, (j = s.kind ∨ j = k) → kindAt (ss ++ s.grown k a b :: ts) n j
        ∨ kindAt (ss ++ s.grown k a b :: ts) n .mixed := fun n hn j hj => by
    have hGrown := kindAt_grown (k := k) (ss := ss) (ts := ts) hn
    by_cases hSame : s.kind = k
    · rw [if_pos hSame] at hGrown
      rw [hSame, or_self] at hj
      exact .inl (hj ▸ hGrown)
    · rw [if_neg hSame] at hGrown
      exact .inr hGrown
  refine Entered.of_coalesce hOrder (fun n j hn => ?_) (fun n ha hb => hEither n (by omega) k (.inr rfl))
    (fun hb n hn hIn => ?_) (fun hLen => ?_)
  · rw [hSpans] at hn
    rcases kindAt_append.1 hn with hOld | hTail
    · exact .inl (kindAt_append.2 (.inl hOld))
    · rcases kindAt_cons.1 hTail with ⟨hStart, hLess, hKind⟩ | hOld
      · exact hEither n (by omega) j (.inl hKind.symm)
      · exact .inl (kindAt_append.2 (.inr (kindAt_cons.2 (.inr hOld))))
  · obtain ⟨j, hj⟩ := covered_iff_kindAt.1 hIn
    refine covered_iff_kindAt.2 ?_
    rw [hSpans]
    rcases kindAt_append.1 hj with hOld | hTail
    · exact ⟨j, kindAt_append.2 (.inl hOld)⟩
    · rcases kindAt_cons.1 hTail with ⟨hStart, hLess, _⟩ | hOld
      · have hEdge := hAbove hb
        have hUpper : n < max s.stop b := hLess
        have hPiece := h.piece
        refine ⟨s.kind, kindAt_append.2 (.inr (kindAt_cons.2 (.inl ⟨?_, ?_, rfl⟩)))⟩ <;> omega
      · exact ⟨j, kindAt_append.2 (.inr (kindAt_cons.2 (.inr hOld)))⟩
  · have hSame : (ss ++ s.grown k a b :: ts).length = (before ++ after).length := by
      rw [hSpans]
      simp
    exact (length_coalesce _).trans (hSame.trans_le hLen)

theorem entered_before (h : Between a b (before ++ [s]) after) :
    Entered k a b (before ++ [s] ++ after) (coalesce (mergeSpan k a b (before ++ [s] ++ after))) := by
  rw [h.mergeSpan_before]
  obtain ⟨hPiece, hLeft, hRight, hStops, hStarts⟩ := id h
  obtain ⟨hInit, _, hBefore⟩ := spansOrdered_append.1 hLeft
  have hLast : s.stop ≤ a := hStops s (by simp)
  have hOwn : s.start < s.stop := hLeft.2 s (by simp)
  refine h.entered_grown (by simp) (spansOrdered_append.2 ⟨hInit, spansOrdered_cons.2 ⟨?_, fun y hy => ?_, hRight⟩,
    fun x hx y hy => ?_⟩) (fun _ => by omega)
  · change min s.start a < max s.stop b
    omega
  · change max s.stop b ≤ y.start
    have := hStarts y hy
    omega
  · have hStop := hBefore x hx s (List.mem_singleton_self _)
    rcases List.mem_cons.1 hy with rfl | hy
    · change x.stop ≤ min s.start a
      omega
    · have := hStarts y hy
      omega

theorem entered_after (h : Between a b [] (s :: after)) :
    Entered k a b (s :: after) (coalesce (mergeSpan k a b (s :: after))) := by
  rw [h.mergeSpan_after]
  obtain ⟨hPiece, hLeft, hRight, hStops, hStarts⟩ := id h
  obtain ⟨hOwn, hBefore, hRest⟩ := spansOrdered_cons.1 hRight
  have hFirst : b ≤ s.start := hStarts s List.mem_cons_self
  refine h.entered_grown (ss := []) rfl (spansOrdered_cons.2 ⟨?_, fun y hy => ?_, hRest⟩) (fun hIn => ?_)
  · change min s.start a < max s.stop b
    omega
  · change max s.stop b ≤ y.start
    have := hBefore y hy
    omega
  · rcases covered_cons.1 hIn with hSelf | ⟨x, hx, hStart, _⟩
    · exact hSelf.1
    · have := hBefore x hx
      omega

end Between

/-- R81, R82: what one piece that nothing covers makes of the spans. -/
theorem FlawMap.enterPiece_entered {k : SpanKind} {m : FlawMap} {p : Nat × Nat} (hRetire : m.retire = .none)
    (hOrder : spansOrdered m.spans) (hPiece : p.1 < p.2) (hFree : ∀ n, p.1 ≤ n → n < p.2 → ¬ covered m.spans n) :
    Entered k p.1 p.2 m.spans (m.enterPiece k p).spans := by
  obtain ⟨before, after, hSpans, hBetween⟩ := exists_between hOrder hPiece hFree
  unfold FlawMap.enterPiece
  rw [if_neg (by rw [hRetire]; exact Bool.false_ne_true)]
  by_cases hRoom : touchesOwn k p.1 p.2 m.spans = true ∨ m.spans.length < Config.spanMax
  · rw [if_pos hRoom]
    rw [hSpans] at hRoom ⊢
    dsimp only
    rw [hBetween.insertSpan_eq]
    exact hBetween.entered_inserted hRoom
  · rw [if_neg hRoom]
    dsimp only
    rw [hSpans] at hRoom ⊢
    rcases List.eq_nil_or_concat' before with rfl | ⟨init, last, rfl⟩
    · cases after with
      | nil => exact absurd (.inr (by decide)) hRoom
      | cons s after => exact hBetween.entered_after
    · exact hBetween.entered_before

/-! ## The pieces of a request -/

/-- Pieces in ascending order that no span covers, each but the last one ended by a span. -/
def Pieces (ss : List Span) (ps : List (Nat × Nat)) : Prop :=
  ps.Pairwise (fun p q => p.2 ≤ q.1 ∧ covered ss p.2)
    ∧ ∀ p ∈ ps, p.1 < p.2 ∧ ∀ n, p.1 ≤ n → n < p.2 → ¬ covered ss n

theorem pieces_cons {ss : List Span} {p : Nat × Nat} {ps : List (Nat × Nat)} : Pieces ss (p :: ps) ↔
    (∀ q ∈ ps, p.2 ≤ q.1 ∧ covered ss p.2) ∧ (p.1 < p.2 ∧ ∀ n, p.1 ≤ n → n < p.2 → ¬ covered ss n) ∧ Pieces ss ps := by
  unfold Pieces
  rw [List.pairwise_cons, List.forall_mem_cons]
  tauto

/-- Once a piece has entered, the pieces after it are still uncovered. -/
theorem Entered.pieces {k : SpanKind} {ss ts : List Span} {p : Nat × Nat} {ps : List (Nat × Nat)}
    (h : Entered k p.1 p.2 ss ts) (hPieces : Pieces ss (p :: ps)) : Pieces ts ps := by
  obtain ⟨hAfter, _, hPairs, hEach⟩ := pieces_cons.1 hPieces
  have hGrows : ∀ n, covered ss n → covered ts n := fun n hn => by
    obtain ⟨j, hj⟩ := covered_iff_kindAt.1 hn
    rcases h.keeps n j hj with hSame | hMixed
    · exact covered_iff_kindAt.2 ⟨j, hSame⟩
    · exact covered_iff_kindAt.2 ⟨_, hMixed⟩
  refine ⟨hPairs.imp fun ⟨hLe, hCovered⟩ => ⟨hLe, hGrows _ hCovered⟩, fun q hq => ?_⟩
  obtain ⟨hOwn, hFree⟩ := hEach q hq
  obtain ⟨hLe, hCovered⟩ := hAfter q hq
  exact ⟨hOwn, fun n ha hb hIn => hFree n ha hb (h.above hCovered n (hLe.trans ha) hIn)⟩

theorem FlawMap.enterPiece_frame (k : SpanKind) (m : FlawMap) (p : Nat × Nat) : m.enterPiece k p =
    { m with spans := (m.enterPiece k p).spans, spanMerges := (m.enterPiece k p).spanMerges } := by
  unfold FlawMap.enterPiece
  split
  · rfl
  · split <;> rfl

theorem FlawMap.enterPieces_frame (k : SpanKind) (ps : List (Nat × Nat)) (m : FlawMap) :
    let u := ps.foldl (FlawMap.enterPiece k) m
    u = { m with spans := u.spans, spanMerges := u.spanMerges } := by
  induction ps generalizing m with
  | nil => rfl
  | cons p ps ih =>
    dsimp only [List.foldl_cons]
    rw [ih (m.enterPiece k p), FlawMap.enterPiece_frame]

/-- What pieces that enter one after the other make of the spans. -/
theorem FlawMap.enterPieces_entered (k : SpanKind) (ps : List (Nat × Nat)) (m : FlawMap) (hRetire : m.retire = .none)
    (hOrder : spansOrdered m.spans) (hPieces : Pieces m.spans ps) :
    let u := ps.foldl (FlawMap.enterPiece k) m
    spansOrdered u.spans ∧ (∀ n j, kindAt m.spans n j → kindAt u.spans n j ∨ kindAt u.spans n .mixed)
    ∧ (∀ p ∈ ps, ∀ n, p.1 ≤ n → n < p.2 → kindAt u.spans n k ∨ kindAt u.spans n .mixed)
    ∧ (m.spans.length ≤ 16 → u.spans.length ≤ 16) := by
  induction ps generalizing m with
  | nil => exact ⟨hOrder, fun _ _ h => .inl h, fun _ h => absurd h List.not_mem_nil, id⟩
  | cons p ps ih =>
    obtain ⟨_, ⟨hOwn, hFree⟩, _⟩ := pieces_cons.1 hPieces
    have hEntered := FlawMap.enterPiece_entered (k := k) hRetire hOrder hOwn hFree
    have hSame : (m.enterPiece k p).retire = .none :=
      (congrArg FlawMap.retire (FlawMap.enterPiece_frame k m p)).trans hRetire
    obtain ⟨hOrdered, hKeeps, hTakes, hLen⟩ := ih (m.enterPiece k p) hSame hEntered.order (hEntered.pieces hPieces)
    have hOn : ∀ n j, kindAt (m.enterPiece k p).spans n j ∨ kindAt (m.enterPiece k p).spans n .mixed →
        kindAt (ps.foldl (FlawMap.enterPiece k) (m.enterPiece k p)).spans n j
          ∨ kindAt (ps.foldl (FlawMap.enterPiece k) (m.enterPiece k p)).spans n .mixed := fun n j hn => by
      rcases hn with hSame | hMixed
      · exact hKeeps n j hSame
      · exact .inr ((hKeeps n .mixed hMixed).elim id id)
    refine ⟨hOrdered, fun n j hn => hOn n j (hEntered.keeps n j hn), fun q hq n ha hb => ?_, fun h => hLen (hEntered.length h)⟩
    rcases List.mem_cons.1 hq with rfl | hq
    · exact hOn n k (hEntered.takes n ha hb)
    · exact hTakes q hq n ha hb

/-- The pieces of a request are the uncovered lines of it, in order. -/
theorem uncovered_pieces {ss : List Span} (hOrder : spansOrdered ss) (a b : Nat) :
    Pieces ss (uncovered a b ss) ∧ (∀ p ∈ uncovered a b ss, a ≤ p.1 ∧ p.2 ≤ b)
    ∧ ∀ n, a ≤ n → n < b → ¬ covered ss n → ∃ p ∈ uncovered a b ss, p.1 ≤ n ∧ n < p.2 := by
  induction ss generalizing a with
  | nil =>
    rw [uncovered]
    by_cases h : a < b
    · rw [if_pos h]
      exact ⟨⟨List.pairwise_singleton _ _, by simp [h, covered]⟩, by simp, fun n ha hb _ => ⟨(a, b), by simp, ha, hb⟩⟩
    · rw [if_neg h]
      exact ⟨⟨List.Pairwise.nil, by simp⟩, by simp, fun n ha hb _ => by omega⟩
  | cons s ss ih =>
    obtain ⟨hOwn, hBefore, hRest⟩ := spansOrdered_cons.1 hOrder
    have hTail : ∀ c, s.stop ≤ c → Pieces ss (uncovered c b ss) → (∀ p ∈ uncovered c b ss, c ≤ p.1 ∧ p.2 ≤ b) →
        Pieces (s :: ss) (uncovered c b ss) := fun c hc hPieces hIn => by
      refine ⟨hPieces.1.imp fun ⟨hLe, hCovered⟩ => ⟨hLe, covered_cons.2 (.inr hCovered)⟩, fun p hp => ?_⟩
      obtain ⟨hSome, hFree⟩ := hPieces.2 p hp
      refine ⟨hSome, fun n ha hb hCovered => ?_⟩
      rcases covered_cons.1 hCovered with ⟨_, hLess⟩ | hOld
      · have := (hIn p hp).1
        omega
      · exact hFree n ha hb hOld
    rw [uncovered]
    split
    next hNone => exact ⟨⟨List.Pairwise.nil, by simp⟩, by simp, fun n ha hb _ => by omega⟩
    next hSome =>
    split
    next hStop =>
      obtain ⟨hPieces, hIn, hAll⟩ := ih hRest a
      exact ⟨hTail a hStop hPieces hIn, hIn, fun n ha hb hNot =>
        hAll n ha hb fun hCovered => hNot (covered_cons.2 (.inr hCovered))⟩
    next hStop =>
    split
    next hStart =>
      have hFree : ∀ n, a ≤ n → n < b → ¬ covered (s :: ss) n := fun n _ hb hCovered => by
        rcases covered_cons.1 hCovered with ⟨hs, _⟩ | ⟨x, hx, hxStart, _⟩
        · omega
        · have := hBefore x hx
          omega
      exact ⟨⟨List.pairwise_singleton _ _, fun p hp => by
          obtain rfl := List.mem_singleton.1 hp
          exact ⟨by omega, hFree⟩⟩, fun p hp => by
          obtain rfl := List.mem_singleton.1 hp
          exact ⟨le_rfl, le_rfl⟩, fun n ha hb _ => ⟨(a, b), by simp, ha, hb⟩⟩
    next hStart =>
      obtain ⟨hPieces, hIn, hAll⟩ := ih hRest (max a s.stop)
      have hTailPieces := hTail (max a s.stop) (le_max_right _ _) hPieces hIn
      have hLast : ∀ n, a ≤ n → n < b → ¬ covered (s :: ss) n → ¬ n < s.start →
          ∃ p ∈ uncovered (max a s.stop) b ss, p.1 ≤ n ∧ n < p.2 := fun n ha hb hNot hOver => by
        refine hAll n ?_ hb fun hCovered => hNot (covered_cons.2 (.inr hCovered))
        have : ¬ n < s.stop := fun hLess => hNot (covered_cons.2 (.inl ⟨not_lt.1 hOver, hLess⟩))
        omega
      by_cases hGap : a < s.start
      · rw [if_pos hGap]
        refine ⟨pieces_cons.2 ⟨fun q hq => ⟨?_, ?_⟩, ⟨hGap, fun n ha hb hCovered => ?_⟩, hTailPieces⟩, fun p hp => ?_,
          fun n ha hb hNot => ?_⟩
        · have := (hIn q hq).1
          dsimp only
          omega
        · exact covered_cons.2 (.inl ⟨le_rfl, hOwn⟩)
        · rcases covered_cons.1 hCovered with ⟨hs, _⟩ | ⟨x, hx, hxStart, _⟩
          · exact absurd hb (not_lt.2 hs)
          · have := hBefore x hx
            dsimp only at hb
            omega
        · rcases List.mem_append.1 hp with hp | hp
          · obtain rfl := List.mem_singleton.1 hp
            exact ⟨le_rfl, by dsimp only; omega⟩
          · have := hIn p hp
            omega
        · by_cases hUnder : n < s.start
          · exact ⟨(a, s.start), by simp, ha, hUnder⟩
          · obtain ⟨p, hp, hpn⟩ := hLast n ha hb hNot hUnder
            exact ⟨p, List.mem_append_right _ hp, hpn⟩
      · rw [if_neg hGap, List.nil_append]
        refine ⟨hTailPieces, fun p hp => ?_, fun n ha hb hNot => hLast n ha hb hNot (by omega)⟩
        have := hIn p hp
        omega

/-- A request none of whose lines is covered is one piece. -/
theorem uncovered_free {ss : List Span} (hOrder : spansOrdered ss) {a b : Nat} (h : a < b)
    (hFree : ∀ n, a ≤ n → n < b → ¬ covered ss n) : uncovered a b ss = [(a, b)] := by
  induction ss with
  | nil => exact if_pos h
  | cons s ss ih =>
    obtain ⟨hOwn, _, hRest⟩ := spansOrdered_cons.1 hOrder
    rw [uncovered, if_neg (not_le.2 h)]
    split
    next => exact ih hRest fun n ha hb hIn => hFree n ha hb (covered_cons.2 (.inr hIn))
    next hStop =>
      refine if_pos ?_
      by_contra hLess
      exact hFree (max a s.start) (le_max_left _ _) (by omega) (covered_cons.2 (.inl ⟨by omega, by omega⟩))

/-! ## Counting the uncovered lines -/

/-- The number of lines of [a, b) that satisfy a test. -/
def linesThat (q : Nat → Bool) (a b : Nat) : Nat := ((List.range' a (b - a)).filter q).length

section
variable {q r : Nat → Bool} {a b c : Nat}

theorem linesThat_split (hac : a ≤ c) (hcb : c ≤ b) : linesThat q a b = linesThat q a c + linesThat q c b := by
  have hRange : List.range' a (b - a) = List.range' a (c - a) ++ List.range' c (b - c) := by
    have h := List.range'_append (s := a) (m := c - a) (n := b - c) (step := 1)
    rw [show a + 1 * (c - a) = c by omega, show c - a + (b - c) = b - a by omega] at h
    exact h.symm
  rw [linesThat, hRange, List.filter_append, List.length_append]
  rfl

theorem linesThat_congr (h : ∀ n, a ≤ n → n < b → q n = r n) : linesThat q a b = linesThat r a b := by
  unfold linesThat
  rw [List.filter_congr fun n hn => ?_]
  have := List.mem_range'_1.1 hn
  exact h n (by omega) (by omega)

theorem linesThat_all (h : ∀ n, a ≤ n → n < b → q n = true) : linesThat q a b = b - a := by
  rw [linesThat_congr h, linesThat, List.filter_true, List.length_range']

theorem linesThat_none (h : ∀ n, a ≤ n → n < b → q n = false) : linesThat q a b = 0 := by
  rw [linesThat_congr h, linesThat, List.filter_false, List.length_nil]

theorem linesThat_empty (h : b ≤ a) : linesThat q a b = 0 := linesThat_none fun _ _ _ => by omega

end

/-- Whether no span of a list covers a line. -/
def freeLine (ss : List Span) (n : Nat) : Bool := !ss.any (fun x => x.start ≤ n && n < x.stop)

theorem freeLine_iff {ss : List Span} {n : Nat} : freeLine ss n = true ↔ ¬ covered ss n := by
  simp [freeLine, covered]

theorem freeLine_cons (s : Span) (ss : List Span) (n : Nat) :
    freeLine (s :: ss) n = (!(s.start ≤ n && n < s.stop) && freeLine ss n) := by
  simp only [freeLine, List.any_cons, Bool.not_or]

/-- The pieces of a request hold as many lines as nothing covers. -/
theorem uncovered_sum {ss : List Span} (hOrder : spansOrdered ss) (a b : Nat) :
    ((uncovered a b ss).map (fun p => p.2 - p.1)).sum = linesThat (freeLine ss) a b := by
  induction ss generalizing a with
  | nil =>
    rw [uncovered, linesThat_all (q := freeLine []) (fun _ _ _ => rfl)]
    split
    · simp
    · simp
      omega
  | cons s ss ih =>
    obtain ⟨hOwn, hBefore, hRest⟩ := spansOrdered_cons.1 hOrder
    have hUnder : ∀ n, n < s.start → freeLine (s :: ss) n = true := fun n hn => by
      refine freeLine_iff.2 fun hCovered => ?_
      rcases covered_cons.1 hCovered with ⟨hs, _⟩ | ⟨x, hx, hxStart, _⟩
      · omega
      · have := hBefore x hx
        omega
    have hOver : ∀ n, s.stop ≤ n → freeLine (s :: ss) n = freeLine ss n := fun n hn => by
      rw [freeLine_cons, decide_eq_false (not_lt.2 hn), Bool.and_false, Bool.not_false, Bool.true_and]
    have hIn : ∀ n, s.start ≤ n → n < s.stop → freeLine (s :: ss) n = false := fun n hs hn => by
      rw [freeLine_cons, decide_eq_true hs, decide_eq_true hn]
      rfl
    rw [uncovered]
    split
    next hNone => exact (linesThat_empty hNone).symm
    next hSome =>
    split
    next hStop => exact (ih hRest a).trans (linesThat_congr fun n hn _ => (hOver n (hStop.trans hn)).symm)
    next hStop =>
    split
    next hStart =>
      rw [linesThat_all fun n _ hn => hUnder n (by omega)]
      simp
    next hStart =>
      have hLow : ((if a < s.start then [(a, s.start)] else []).map (fun p : Nat × Nat => p.2 - p.1)).sum
          = linesThat (freeLine (s :: ss)) a (max a s.start) := by
        rw [linesThat_all fun n _ hn => hUnder n (by omega)]
        split
        · simp
          omega
        · simp
          omega
      have hHigh : linesThat (freeLine ss) (max a s.stop) b = linesThat (freeLine (s :: ss)) (max a s.start) b := by
        by_cases hEnd : b ≤ s.stop
        · rw [linesThat_empty (by omega), linesThat_none fun n hn hb => hIn n (by omega) (by omega)]
        · rw [linesThat_split (q := freeLine (s :: ss)) (a := max a s.start) (c := s.stop) (by omega) (by omega), linesThat_none fun n hn hb => hIn n (by omega) hb,
            Nat.zero_add, show max a s.stop = s.stop by omega]
          exact linesThat_congr fun n hn _ => (hOver n hn).symm
      rw [List.map_append, List.sum_append, hLow, ih hRest, hHigh]
      exact (linesThat_split (by omega) (by omega)).symm

/-! ## A span request -/

section
variable (k : SpanKind) (a b : Nat) (s : State)

theorem State.requestSpan_map : (s.requestSpan k a b).map = (uncovered a b s.map.spans).foldl (FlawMap.enterPiece k) s.map := rfl

theorem State.requestSpan_live : (s.requestSpan k a b).tally.live =
    s.tally.live.uninspectedLines k (((uncovered a b s.map.spans).map (fun p => p.2 - p.1)).sum) := rfl

end

theorem Tallies.uninspectedLines_get {k : SpanKind} {j : Fin 6} (h : k.uninspectedIndex = some j) (n : Nat) (t : Tallies) :
    (t.uninspectedLines k n).uninspected[j] = tallyAdd t.uninspected[j] n := by
  unfold Tallies.uninspectedLines
  rw [h]
  exact upd_getElem_self _ _ _

theorem Retire.retires_line (n stop : Nat) : (Retire.line n).retires stop = decide (stop ≤ n) := rfl

/-- Pieces that are retired enter nothing. -/
theorem FlawMap.enterPieces_retired (k : SpanKind) (ps : List (Nat × Nat)) (m : FlawMap)
    (h : ∀ p ∈ ps, m.retire.retires p.2 = true) : ps.foldl (FlawMap.enterPiece k) m = m := by
  induction ps with
  | nil => rfl
  | cons p ps ih =>
    obtain ⟨hHead, hRest⟩ := List.forall_mem_cons.1 h
    rw [List.foldl_cons, show m.enterPiece k p = m from if_pos hHead]
    exact ih hRest

/-- One uncovered piece that has room, or touches its own kind. -/
theorem FlawMap.enterPiece_inserts {k : SpanKind} {m : FlawMap} {p : Nat × Nat} (hRetire : m.retire = .none)
    (h : touchesOwn k p.1 p.2 m.spans = true ∨ m.spans.length < 16) : m.enterPiece k p =
      { m with spans := coalesce (insertSpan { kind := k, start := p.1, stop := p.2 } m.spans) } := by
  unfold FlawMap.enterPiece
  rw [if_neg (by rw [hRetire]; exact Bool.false_ne_true)]
  exact if_pos h

theorem FlawMap.enterPiece_merges {k : SpanKind} {m : FlawMap} {p : Nat × Nat} (hRetire : m.retire = .none)
    (hOwn : ¬ touchesOwn k p.1 p.2 m.spans = true) (hFull : 16 ≤ m.spans.length) : m.enterPiece k p =
      { m with spans := coalesce (mergeSpan k p.1 p.2 m.spans), spanMerges := inc32 m.spanMerges } := by
  unfold FlawMap.enterPiece
  rw [if_neg (by rw [hRetire]; exact Bool.false_ne_true)]
  exact if_neg (not_or.2 ⟨hOwn, not_lt.2 hFull⟩)

theorem touchesOwn_iff {k : SpanKind} {a b : Nat} {ss : List Span} :
    touchesOwn k a b ss = true ↔ ∃ x ∈ ss, x.kind = k ∧ (x.stop = a ∨ x.start = b) := by
  simp [touchesOwn]

namespace Between

variable {a b : Nat} {before after : List Span} {k : SpanKind}

/-- The grown list before spans of one kind join is in order. -/
theorem grown_ordered {s : Span} {ss ts : List Span} (h : Between a b before after) (hSpans : before ++ after = ss ++ s :: ts)
    (hOut : (∀ x ∈ ss, x.stop ≤ min s.start a) ∧ ∀ y ∈ ts, max s.stop b ≤ y.start) :
    spansOrdered (ss ++ s.grown k a b :: ts) := by
  have hAll : spansOrdered (ss ++ s :: ts) := hSpans ▸ spansOrdered_append.2 ⟨h.left, h.right, fun x hx y hy => by
    have := h.stops x hx
    have := h.starts y hy
    have := h.piece
    omega⟩
  obtain ⟨hInit, hTail, hBefore⟩ := spansOrdered_append.1 hAll
  obtain ⟨hOwn, _, hRest⟩ := spansOrdered_cons.1 hTail
  refine spansOrdered_append.2 ⟨hInit, spansOrdered_cons.2 ⟨?_, hOut.2, hRest⟩, fun x hx y hy => ?_⟩
  · change min s.start a < max s.stop b
    omega
  · rcases List.mem_cons.1 hy with rfl | hy
    · exact hOut.1 x hx
    · exact hBefore x hx y (List.mem_cons_of_mem _ hy)

/-- R82: the piece goes into the span before it. -/
theorem kindAt_merged_before (h : Between a b before after) {x : Span} (hx : x ∈ before)
    (hLast : ∀ y ∈ before ++ after, y.stop ≤ a → y.stop ≤ x.stop) {n : Nat} (hStart : x.start ≤ n) (hEnd : n < b) :
    kindAt (coalesce (mergeSpan k a b (before ++ after))) n (if x.kind = k then k else .mixed) := by
  obtain ⟨init, last, rfl⟩ := List.eq_nil_or_concat' before |>.resolve_left (List.ne_nil_of_mem hx)
  obtain ⟨_, _, hBefore⟩ := spansOrdered_append.1 h.left
  have hOwn : last.start < last.stop := h.left.2 last (by simp)
  have hStop := h.stops last (by simp)
  obtain rfl : x = last := by
    rcases List.mem_append.1 hx with hInit | hSame
    · have := hBefore x hInit last (List.mem_singleton_self _)
      have := hLast last (by simp) hStop
      omega
    · exact List.mem_singleton.1 hSame
  have hPiece := h.piece
  have hOrder : spansOrdered (init ++ x.grown k a b :: after) := h.grown_ordered (by simp) ⟨fun y hy => by
      have := hBefore y hy x (List.mem_singleton_self _)
      omega, fun y hy => by
      have := h.starts y hy
      omega⟩
  rw [h.mergeSpan_before, (coalesce_keeps hOrder).2]
  exact kindAt_grown (by omega)

/-- R82: without a span before it, the piece goes into the first one. -/
theorem kindAt_merged_first (h : Between a b [] after) {x : Span} (hx : x ∈ after)
    (hFirst : ∀ y ∈ after, x.start ≤ y.start) {n : Nat} (hStart : a ≤ n) (hEnd : n < x.stop) :
    kindAt (coalesce (mergeSpan k a b after)) n (if x.kind = k then k else .mixed) := by
  obtain ⟨first, rest, rfl⟩ := List.exists_cons_of_ne_nil (List.ne_nil_of_mem hx)
  obtain ⟨hOwn, hBefore, _⟩ := spansOrdered_cons.1 h.right
  have hUnder := h.starts first List.mem_cons_self
  obtain rfl : x = first := by
    rcases List.mem_cons.1 hx with hSame | hRest
    · exact hSame
    · have := hBefore x hRest
      have := hFirst first List.mem_cons_self
      omega
  have hPiece := h.piece
  have hOrder : spansOrdered (x.grown k a b :: rest) := h.grown_ordered (ss := []) rfl ⟨by simp, fun y hy => by
      have := hBefore y hy
      omega⟩
  rw [h.mergeSpan_after, (coalesce_keeps hOrder).2]
  exact kindAt_grown (ss := []) (by omega)

end Between

/-- Settles O50. -/
theorem spanRequestCoversLines : Obligations.SpanRequestCoversLines := by
  refine ⟨fun k a b s hOrder hRetire => ?request, fun k a b s hOrder => ?counts, fun n s => ?retire⟩
  case request =>
    intro t old kindOf own
    obtain ⟨hPieces, _, hAll⟩ := uncovered_pieces hOrder a b
    obtain ⟨hOrdered, hKeeps, hTakes, hLen⟩ :=
      FlawMap.enterPieces_entered k (uncovered a b old) s.map hRetire hOrder hPieces
    have hFrame : t.map = { s.map with spans := t.map.spans, spanMerges := t.map.spanMerges } :=
      FlawMap.enterPieces_frame k (uncovered a b old) s.map
    have hTaken : ∀ n, a ≤ n → n < b → ¬ covered old n → kindOf t.map.spans n k ∨ kindOf t.map.spans n .mixed :=
      fun n ha hb hNot =>
        let ⟨p, hp, hStart, hStop⟩ := hAll n ha hb hNot
        hTakes p hp n hStart hStop
    have hGrows : ∀ n, covered old n → covered t.map.spans n := fun n hn => by
      obtain ⟨j, hj⟩ := covered_iff_kindAt.1 hn
      exact covered_iff_kindAt.2 ((hKeeps n j hj).elim (fun h => ⟨_, h⟩) fun h => ⟨_, h⟩)
    refine ⟨hOrdered, hGrows, fun n ha hb => ?_, hLen, rfl, (congrArg FlawMap.flaws hFrame :), hKeeps, hTaken,
      fun hab hFree => ?single⟩
    · by_cases hIn : covered old n
      · exact hGrows n hIn
      · exact covered_iff_kindAt.2 ((hTaken n ha hb hIn).elim (fun h => ⟨_, h⟩) fun h => ⟨_, h⟩)
    case single =>
      obtain ⟨before, after, hSpans, hBetween⟩ := exists_between hOrder hab hFree
      have hMem : ∀ x, x ∈ old ↔ x ∈ before ++ after := fun x => iff_of_eq (congrArg (x ∈ ·) hSpans)
      have hMap : t.map = s.map.enterPiece k (a, b) := by
        change (uncovered a b s.map.spans).foldl (FlawMap.enterPiece k) s.map = _
        rw [uncovered_free hOrder hab hFree]
        rfl
      refine ⟨fun hRoom => ?room, fun hFull hNotOwn => ?full⟩
      case room =>
        have hEnters := FlawMap.enterPiece_inserts (k := k) (p := (a, b)) hRetire
          (hRoom.symm.imp_left touchesOwn_iff.2)
        have hNew : t.map.spans = coalesce (before ++ { kind := k, start := a, stop := b } :: after) := by
          rw [hMap, hEnters, hSpans]
          exact congrArg coalesce hBetween.insertSpan_eq
        have hKinds := (coalesce_keeps (hBetween.inserted_ordered (k := k))).2
        refine ⟨fun n ha hb => ?_, fun n j hn => ?_, ?_⟩
        · rw [hNew]
          exact (hKinds n k).2 (Between.kindAt_inserted.2 (.inr ⟨ha, hb, rfl⟩))
        · rw [hNew]
          exact (hKinds n j).2 (Between.kindAt_inserted.2 (.inl (hSpans ▸ hn)))
        · rw [hMap, hEnters]
      case full =>
        have hMerges := FlawMap.enterPiece_merges (k := k) (p := (a, b)) hRetire
          (fun h => hNotOwn (touchesOwn_iff.1 h)) hFull
        have hNew : t.map.spans = coalesce (mergeSpan k a b (before ++ after)) := by
          rw [hMap, hMerges, hSpans]
        refine ⟨by rw [hMap, hMerges], fun x hx hStop hLast n hStart hEnd => ?_, fun hNone x hx hFirst n hStart hEnd => ?_⟩
        · rw [hNew]
          have hBefore : x ∈ before := by
            rcases List.mem_append.1 ((hMem x).1 hx) with h | h
            · exact h
            · have := hBetween.starts x h
              have := hBetween.right.2 x h
              omega
          exact hBetween.kindAt_merged_before hBefore (fun y hy => hLast y ((hMem y).2 hy)) hStart hEnd
        · obtain rfl : before = [] := List.eq_nil_iff_forall_not_mem.2 fun y hy => by
            have := hBetween.stops y hy
            have := hNone y ((hMem y).2 (List.mem_append_left _ hy))
            omega
          rw [hNew]
          have hAfter : x ∈ after := (hMem x).1 hx
          exact hBetween.kindAt_merged_first hAfter (fun y hy => hFirst y ((hMem y).2 hy)) hStart hEnd
  case counts =>
    intro t
    refine ⟨fun j hj => ?_, fun hRetired => ?_⟩
    · change (s.tally.live.uninspectedLines k _).uninspected[j] = _
      rw [Tallies.uninspectedLines_get hj, uncovered_sum hOrder]
      rfl
    · refine FlawMap.enterPieces_retired k _ s.map fun p hp => ?_
      rcases hRetired with hAllRetired | ⟨n, hLine, hLe⟩
      · rw [hAllRetired]
        rfl
      · rw [hLine]
        exact decide_eq_true (((uncovered_pieces hOrder a b).2.1 p hp).2.trans hLe)
  case retire =>
    intro t
    have hFlaws : t.map.flaws = s.map.flaws.filter (fun f => n ≤ f.last) := List.filter_congr fun f _ => by
      rw [Retire.retires_line, ← decide_not]
      exact decide_eq_decide.2 (by omega)
    have hSpans : t.map.spans = s.map.spans.filter (fun x => n < x.stop) := List.filter_congr fun x _ => by
      rw [Retire.retires_line, ← decide_not]
      exact decide_eq_decide.2 (by omega)
    refine ⟨rfl, hFlaws, hSpans, ?_, ?_, ?_, ?_, rfl, rfl, fun hLess => ?_⟩
    · exact List.filter_eq_nil_iff.2 fun _ _ => Bool.false_ne_true
    · exact List.filter_eq_nil_iff.2 fun _ _ => Bool.false_ne_true
    · exact List.filter_eq_self.2 fun _ _ => rfl
    · exact List.filter_eq_self.2 fun _ _ => rfl
    · change (s.map.full && !decide (t.map.flaws.length < 4096)) = false
      rw [decide_eq_true hLess, Bool.not_true, Bool.and_false]

end Sys2Proof.Machine
end
section
/-! PROOFS. Captures lost (R46) and lines assembled (R48): what a declaration and an assembly change of the cameras and of the
pulse list. -/

set_option Elab.async false

namespace Sys2Proof.Machine

/-! ## Pending captures -/

/-- Whether the entry has a capture that satisfies a test. -/
def Pulse.captured (declared : Nat → Bool) (p : Pulse) : Bool :=
  match p.capture with
  | some q => declared q
  | none => false

theorem Pulse.captured_eq (declared : Nat → Bool) (p : Pulse) : p.captured declared = p.capture.any declared := by
  unfold Pulse.captured
  cases p.capture with
  | none => rfl
  | some q => rfl

/-- Whether a capture that satisfies a test is PENDING for a camera. -/
def Pulse.pendingFor (cam : Fin 8) (declared : Nat → Bool) (p : Pulse) : Bool :=
  p.status[cam] = .pending && p.captured declared

/-- The entry after the captures that satisfy a test were declared LOST for a camera. -/
def Pulse.declare (cam : Fin 8) (declared : Nat → Bool) (p : Pulse) : Pulse :=
  if p.pendingFor cam declared then { p with status := p.status.set cam .lost } else p

section
variable {cam i : Fin 8} {declared other : Nat → Bool} {p : Pulse}

theorem Pulse.pendingFor_iff : p.pendingFor cam declared = true ↔
    p.status[cam] = .pending ∧ ∃ q, p.capture = some q ∧ declared q = true := by
  simp [Pulse.pendingFor, Pulse.captured_eq, Option.any_eq_true]

theorem Pulse.pendingFor_congr (h : ∀ q, declared q = other q) : p.pendingFor cam declared = p.pendingFor cam other := by
  rw [funext h]

theorem Pulse.declare_line (p : Pulse) : (p.declare cam declared).line = p.line := by
  unfold Pulse.declare
  split <;> rfl

theorem Pulse.declare_capture (p : Pulse) : (p.declare cam declared).capture = p.capture := by
  unfold Pulse.declare
  split <;> rfl

theorem Pulse.declare_status_of_ne (h : i ≠ cam) (p : Pulse) : (p.declare cam declared).status[i] = p.status[i] := by
  unfold Pulse.declare
  split
  · exact Vector.getElem_set_ne cam.isLt i.isLt (Fin.val_ne_of_ne h.symm)
  · rfl

theorem Pulse.declare_of_pending (h : p.pendingFor cam declared = true) : (p.declare cam declared).status[cam] = .lost := by
  unfold Pulse.declare
  rw [if_pos h]
  exact Vector.getElem_set_self cam.isLt

theorem Pulse.declare_of_not_pending (h : ¬ p.pendingFor cam declared = true) : p.declare cam declared = p := if_neg h

/-- A capture that the declaration does not name stays as it was. -/
theorem Pulse.pendingFor_declare (h : ∀ q, other q = true → declared q = false) (p : Pulse) :
    (p.declare cam declared).pendingFor cam other = p.pendingFor cam other := by
  by_cases hHit : p.pendingFor cam declared = true
  · obtain ⟨_, q, hq, hDeclared⟩ := Pulse.pendingFor_iff.1 hHit
    have hNot : ∀ x : Pulse, x.capture = some q → x.pendingFor cam other = false := fun x hx => by
      by_contra hPending
      obtain ⟨_, q', hq', hOther⟩ := Pulse.pendingFor_iff.1 (Bool.not_eq_false _ ▸ hPending)
      obtain rfl : q = q' := Option.some.inj (hx.symm.trans hq')
      exact absurd (h q hOther) (by simp [hDeclared])
    rw [hNot p hq, hNot _ ((Pulse.declare_capture p).trans hq)]
  · rw [Pulse.declare_of_not_pending hHit]

/-- A declared capture is no longer PENDING. -/
theorem Pulse.pendingFor_declare_self (p : Pulse) : (p.declare cam declared).pendingFor cam declared = false := by
  by_cases hHit : p.pendingFor cam declared = true
  · rw [Pulse.pendingFor, Pulse.declare_of_pending hHit]
    rfl
  · rw [Pulse.declare_of_not_pending hHit]
    exact Bool.eq_false_iff.2 hHit

theorem Pulse.pendingFor_declare_other (h : i ≠ cam) (p : Pulse) :
    (p.declare cam declared).pendingFor i other = p.pendingFor i other := by
  unfold Pulse.pendingFor
  rw [Pulse.declare_status_of_ne h, Pulse.captured_eq, Pulse.captured_eq, Pulse.declare_capture]

end

/-- The number of captures that satisfy a test and are PENDING for a camera. -/
def Ingest.lostCount (g : Ingest) (cam : Fin 8) (declared : Nat → Bool) : Nat :=
  (g.pulses.filter (Pulse.pendingFor cam declared)).length

theorem Ingest.pendingIn_eq (g : Ingest) (cam : Fin 8) (lo hi : Nat) :
    g.pendingIn cam lo hi = g.lostCount cam (fun q => lo ≤ q && q < hi) := by
  unfold Ingest.pendingIn Ingest.lostCount
  exact congrArg List.length (List.filter_congr fun p _ => by rw [Pulse.pendingFor, Pulse.captured_eq])

theorem Ingest.lostCount_eq_zero {g : Ingest} {cam : Fin 8} {declared : Nat → Bool} :
    g.lostCount cam declared = 0 ↔ ∀ p ∈ g.pulses, p.pendingFor cam declared = false := by
  unfold Ingest.lostCount
  rw [List.length_eq_zero_iff, List.filter_eq_nil_iff]
  simp only [Bool.not_eq_true]

theorem Ingest.lostCount_pos {g : Ingest} {cam : Fin 8} {declared : Nat → Bool} :
    0 < g.lostCount cam declared ↔ ∃ p ∈ g.pulses, p.pendingFor cam declared = true := by
  unfold Ingest.lostCount
  rw [List.length_pos_iff_exists_mem]
  simp only [List.mem_filter]

/-! ## A declaration -/

/-- What a declaration of captures as LOST changes of the Ingest Unit. -/
structure Declared (cam : Fin 8) (cause : LostCause) (declared : Nat → Bool) (s t : State) : Prop where
  pulses : t.ing.pulses = s.ing.pulses.map (Pulse.declare cam declared)
  others : ∀ i, i ≠ cam → t.ing.cams[i] = s.ing.cams[i]
  cfg : ∀ i : Fin 8, t.ing.cams[i].cfg = s.ing.cams[i].cfg
  expectedLow : s.ing.cams[cam].expected ≤ t.ing.cams[cam].expected
  expectedHigh : ∀ b, s.ing.cams[cam].expected ≤ b → (∀ q, declared q = true → q < b) → t.ing.cams[cam].expected ≤ b
  counted : t.ing.cams[cam].counters.lost[cause.code] =
    lostAfter s.ing.cams[cam].counters.lost[cause.code] (s.ing.lostCount cam declared)
  uncounted : ∀ k : Fin 6, k ≠ cause.code → t.ing.cams[cam].counters.lost[k] = s.ing.cams[cam].counters.lost[k]
  event : 0 < s.ing.lostCount cam declared → t.ev.pending.getLsbD 5 = true
  captures : t.ing.captures = s.ing.captures
  cols : t.ing.cols = s.ing.cols
  pos : t.pos = s.pos

theorem Camera.giveUp_cfg (c : Camera) (cause : LostCause) (declared : Nat → Bool) : (c.giveUp cause declared).cfg = c.cfg := by
  have hBuf : ∀ b x, (c.setBuf b x).cfg = c.cfg := fun b x => by cases b <;> rfl
  unfold Camera.giveUp
  split
  · rfl
  · split
    · exact hBuf _ _
    · rfl

/-- The highest of the declared captures. -/
def topCapture (gone : List Pulse) : Nat := ((gone.filterMap (·.capture)).max?).getD 0

/-- R46: the declaration of the captures that some entries hold, of which `first` is the first. -/
def State.declareThese (cam : Fin 8) (cause : LostCause) (declared : Nat → Bool) (gone : List Pulse) (first : Pulse) (s : State) :
    State :=
  (((s.modIng (fun g => { g with pulses := g.pulses.map (Pulse.declare cam declared) })).modCam cam (fun c =>
    { c.giveUp cause declared with
      expected := max c.expected (topCapture gone + 1),
      counters := { c.counters with lost := upd c.counters.lost cause.code (fun x => satAdd Config.max32 x gone.length) } }))
    ).raise .captureLost first.line (cam.val + 16 * cause.code.val + 65536 * min Config.max16 gone.length)

/-- R46: the declaration of the captures that some entries hold, if any. -/
def State.declareAll (cam : Fin 8) (cause : LostCause) (declared : Nat → Bool) (gone : List Pulse) (s : State) : State :=
  match gone with
  | [] => s
  | first :: _ => s.declareThese cam cause declared gone first

theorem State.declareLost_eq (cam : Fin 8) (cause : LostCause) (declared : Nat → Bool) (s : State) :
    s.declareLost cam cause declared =
      s.declareAll cam cause declared (s.ing.pulses.filter (Pulse.pendingFor cam declared)) := rfl

theorem topCapture_lt {gone : List Pulse} {b : Nat} (hSome : gone ≠ []) (h : ∀ p ∈ gone, ∃ q, p.capture = some q ∧ q < b) :
    topCapture gone + 1 ≤ b := by
  obtain ⟨p, rest, rfl⟩ := List.exists_cons_of_ne_nil hSome
  obtain ⟨q, hq, hLess⟩ := h p List.mem_cons_self
  unfold topCapture
  cases hMax : ((p :: rest).filterMap (·.capture)).max? with
  | none => exact Nat.zero_lt_of_lt hLess
  | some m =>
    obtain ⟨x, hx, hm⟩ := List.mem_filterMap.1 (List.max?_mem hMax)
    obtain ⟨y, hy, hyb⟩ := h x hx
    obtain rfl : y = m := Option.some.inj (hy.symm.trans hm)
    exact hyb

theorem State.declareThese_declared {cam : Fin 8} {cause : LostCause} {declared : Nat → Bool} {gone : List Pulse} (first : Pulse)
    {s : State} (hCount : s.ing.lostCount cam declared = gone.length) (hSome : gone ≠ [])
    (hHits : ∀ p ∈ gone, ∃ q, p.capture = some q ∧ declared q = true) :
    Declared cam cause declared s (s.declareThese cam cause declared gone first) := by
  let f : Camera → Camera := fun c =>
    { c.giveUp cause declared with
      expected := max c.expected (topCapture gone + 1),
      counters := { c.counters with lost := upd c.counters.lost cause.code (fun x => satAdd Config.max32 x gone.length) } }
  let u := (s.modIng (fun g => { g with pulses := g.pulses.map (Pulse.declare cam declared) })).modCam cam f
  have hIng : (s.declareThese cam cause declared gone first).ing = u.ing := (Works.refl u).raise.ing
  have hOwn : u.ing.cams[cam] = f s.ing.cams[cam] := upd_getElem_self _ _ _
  have hOther : ∀ i, i ≠ cam → u.ing.cams[i] = s.ing.cams[i] := fun i hi => upd_getElem_of_ne _ _ (Ne.symm hi)
  refine ⟨congrArg Ingest.pulses hIng, fun i hi => ?others, fun i => ?cfg, ?low, fun b hb hq => ?high, ?counted,
    fun k hk => ?uncounted, fun _ => State.raise_sets .captureLost _ _ _, (congrArg Ingest.captures hIng :),
    (congrArg Ingest.cols hIng :), (Works.refl u).raise.pos⟩
  case others => rw [hIng, hOther i hi]
  case cfg =>
    rw [hIng]
    by_cases hi : i = cam
    · rw [hi, hOwn]
      exact Camera.giveUp_cfg _ _ _
    · rw [hOther i hi]
  case low =>
    rw [hIng, hOwn]
    exact le_max_left _ _
  case high =>
    rw [hIng, hOwn]
    exact max_le hb (topCapture_lt hSome fun p hp =>
      let ⟨q, hCapture, hDeclared⟩ := hHits p hp
      ⟨q, hCapture, hq q hDeclared⟩)
  case counted =>
    rw [hIng, hOwn, hCount, lostAfter, if_neg (fun h => hSome (List.eq_nil_of_length_eq_zero h))]
    exact upd_getElem_self _ _ _
  case uncounted =>
    rw [hIng, hOwn]
    exact upd_getElem_of_ne _ _ (Ne.symm hk)

theorem State.declareLost_declared (cam : Fin 8) (cause : LostCause) (declared : Nat → Bool) (s : State) :
    Declared cam cause declared s (s.declareLost cam cause declared) := by
  rw [State.declareLost_eq]
  cases hGone : s.ing.pulses.filter (Pulse.pendingFor cam declared) with
  | nil =>
    have hNone := List.filter_eq_nil_iff.1 hGone
    have hZero : s.ing.lostCount cam declared = 0 := congrArg List.length hGone
    refine ⟨?_, fun _ _ => rfl, fun _ => rfl, le_rfl, fun _ hb _ => hb, ?_, fun _ _ => rfl, fun h => ?_, rfl, rfl, rfl⟩
    · exact ((List.map_congr_left fun p hp => Pulse.declare_of_not_pending (hNone p hp)).trans (List.map_id _)).symm
    · rw [hZero]
      rfl
    · rw [hZero] at h
      exact absurd h (Nat.lt_irrefl 0)
  | cons first rest =>
    refine State.declareThese_declared first (congrArg List.length hGone) (List.cons_ne_nil _ _) fun p hp => ?_
    exact (Pulse.pendingFor_iff.1 (List.mem_filter.1 (hGone ▸ hp)).2).2

namespace Declared

variable {cam i : Fin 8} {cause : LostCause} {declared other : Nat → Bool} {s t : State}

theorem lostCount_other (h : Declared cam cause declared s t) (hi : i ≠ cam) :
    t.ing.lostCount i other = s.ing.lostCount i other := by
  unfold Ingest.lostCount
  rw [h.pulses, List.filter_map, List.length_map]
  exact congrArg List.length (List.filter_congr fun p _ => Pulse.pendingFor_declare_other hi p)

theorem lostCount_disjoint (h : Declared cam cause declared s t) (hq : ∀ q, other q = true → declared q = false) :
    t.ing.lostCount cam other = s.ing.lostCount cam other := by
  unfold Ingest.lostCount
  rw [h.pulses, List.filter_map, List.length_map]
  exact congrArg List.length (List.filter_congr fun p _ => Pulse.pendingFor_declare hq p)

theorem lostCount_self (h : Declared cam cause declared s t) : t.ing.lostCount cam declared = 0 := by
  refine Ingest.lostCount_eq_zero.2 fun p hp => ?_
  rw [h.pulses] at hp
  obtain ⟨x, _, rfl⟩ := List.mem_map.1 hp
  exact Pulse.pendingFor_declare_self x

theorem lines (h : Declared cam cause declared s t) : t.ing.pulses.map (·.line) = s.ing.pulses.map (·.line) := by
  rw [h.pulses, List.map_map]
  exact List.map_congr_left fun p _ => Pulse.declare_line p

end Declared

/-- The entries of a pulse list lie in rising order of line. -/
def Ingest.Rising (g : Ingest) : Prop := (g.pulses.map (·.line)).Pairwise (· < ·)

/-! ## Assembly -/

/-- What an assembly changes of the Ingest Unit: complete entries leave the pulse list. -/
structure Assembled (s t : State) : Prop where
  cams : t.ing.cams = s.ing.cams
  captures : t.ing.captures = s.ing.captures
  cols : t.ing.cols = s.ing.cols
  pos : t.pos = s.pos
  rising : s.ing.Rising → t.ing.Rising
  pending : s.ing.Rising → ∀ cam declared,
    t.ing.pulses.filter (Pulse.pendingFor cam declared) = s.ing.pulses.filter (Pulse.pendingFor cam declared)
  subset : ∀ p ∈ t.ing.pulses, p ∈ s.ing.pulses

namespace Assembled

variable {s t u : State}

theorem refl (s : State) : Assembled s s :=
  ⟨rfl, rfl, rfl, rfl, id, fun _ _ _ => rfl, fun _ h => h⟩

theorem trans (h : Assembled s t) (k : Assembled t u) : Assembled s u :=
  ⟨k.cams.trans h.cams, k.captures.trans h.captures, k.cols.trans h.cols, k.pos.trans h.pos,
    fun hs => k.rising (h.rising hs),
    fun hs cam declared => (k.pending (h.rising hs) cam declared).trans (h.pending hs cam declared),
    fun p hp => h.subset p (k.subset p hp)⟩

theorem lostCount (h : Assembled s t) (hs : s.ing.Rising) (cam : Fin 8) (declared : Nat → Bool) :
    t.ing.lostCount cam declared = s.ing.lostCount cam declared := congrArg List.length (h.pending hs cam declared)

/-- The part of the Ingest Unit that a hand-over keeps. -/
theorem of_ing (hIng : ∃ l r, t.ing = { s.ing.adoptDetect with left := l, right := r }) (hPos : t.pos = s.pos) :
    Assembled s t := by
  obtain ⟨l, r, hIng⟩ := hIng
  have hAdopt : s.ing.adoptDetect.cams = s.ing.cams ∧ s.ing.adoptDetect.captures = s.ing.captures
      ∧ s.ing.adoptDetect.cols = s.ing.cols ∧ s.ing.adoptDetect.pulses = s.ing.pulses := by
    unfold Ingest.adoptDetect
    split <;> exact ⟨rfl, rfl, rfl, rfl⟩
  obtain ⟨hCams, hCaptures, hCols, hPulses⟩ := hAdopt
  have hSame : t.ing.pulses = s.ing.pulses := (congrArg Ingest.pulses hIng).trans hPulses
  refine ⟨(congrArg Ingest.cams hIng).trans hCams, (congrArg Ingest.captures hIng).trans hCaptures,
    (congrArg Ingest.cols hIng).trans hCols, hPos, fun h => ?_, fun _ _ _ => by rw [hSame], fun p hp => hSame ▸ hp⟩
  unfold Ingest.Rising
  rw [hSame]
  exact h

theorem handOver (h : Assembled s t) {m : Nat} {entry : Option Pulse} : Assembled s (t.handOver m entry) :=
  h.trans (of_ing (State.handOver_ing m entry t) (State.handOver_pos m entry t))

end Assembled

/-- A complete entry is PENDING for no camera. -/
theorem Pulse.pendingFor_of_complete {p : Pulse} (h : p.complete = true) (cam : Fin 8) (declared : Nat → Bool) :
    p.pendingFor cam declared = false := by
  refine Bool.eq_false_iff.2 fun hPending => ?_
  obtain ⟨hStatus, _⟩ := Pulse.pendingFor_iff.1 hPending
  have hAny : p.status.toList.any (· = .pending) = true :=
    List.any_eq_true.2 ⟨_, by simp, decide_eq_true hStatus⟩
  rw [Pulse.complete, hAny] at h
  cases h

/-- The entry of a line leaves the list when it is complete. -/
theorem State.assembled_next {s : State} {m : Nat} {ps : List Pulse} (hSub : ps.Sublist s.ing.pulses)
    (hPending : s.ing.Rising → ∀ cam declared,
      ps.filter (Pulse.pendingFor cam declared) = s.ing.pulses.filter (Pulse.pendingFor cam declared)) :
    Assembled s (s.modIng (fun g => { g with assembled := m, pulses := ps })) :=
  ⟨rfl, rfl, rfl, rfl, fun h => h.sublist (hSub.map _), hPending, fun _ hp => hSub.subset hp⟩

/-- Of entries in rising order, one stands at the line of an entry. -/
theorem Ingest.Rising.eq_of_line {g : Ingest} (h : g.Rising) {p x : Pulse} (hp : p ∈ g.pulses) (hx : x ∈ g.pulses)
    (hLine : x.line = p.line) : x = p := by
  have hInj := List.inj_on_of_nodup_map (h.imp fun hLess => ne_of_lt hLess)
  exact hInj hx hp hLine

theorem State.assembleLoop_assembled (top fuel : Nat) (s : State) : Assembled s (State.assembleLoop top fuel s) := by
  induction fuel generalizing s with
  | zero => exact Assembled.refl s
  | succ fuel ih =>
    unfold State.assembleLoop
    dsimp only
    split
    · exact Assembled.refl s
    · split
      next => exact (State.assembled_next (List.Sublist.refl _) (fun _ _ _ => rfl)).handOver.trans (ih _)
      next p hFound =>
        split
        next hComplete =>
          refine (State.assembled_next List.filter_sublist fun hRising cam declared => ?_).handOver.trans (ih _)
          have hLine : p.line = s.ing.assembled + 1 := by simpa using List.find?_some hFound
          have hMem := List.mem_of_find?_eq_some hFound
          rw [List.filter_filter]
          refine List.filter_congr fun x hx => ?_
          by_cases hx' : x.line = s.ing.assembled + 1
          · obtain rfl := hRising.eq_of_line hMem hx (hx'.trans hLine.symm)
            rw [Pulse.pendingFor_of_complete hComplete]
            rfl
          · simp [hx']
        next => exact Assembled.refl s

theorem State.assemble_assembled (s : State) : Assembled s s.assemble := State.assembleLoop_assembled _ _ s

end Sys2Proof.Machine
end
section
/-! PROOFS. Capture writes (R30, R41 to R44): the answer to an offer, and a hold that expires. -/

set_option Elab.async false

namespace Sys2Proof.Machine

/-! ## The answer to an offer -/

/-- The pixel bytes of a write, by slot offset. -/
def Camera.pixelsOf (c : Camera) (en : List (Nat × Byte)) : List (Nat × Byte) :=
  (en.map (fun (o, b) => (o % c.cfg.stride, b))).filter (fun (o, _) => o < c.cfg.width)

theorem Camera.pixelsOf_isEmpty {c : Camera} {en : List (Nat × Byte)} : (c.pixelsOf en).isEmpty = true ↔
    ¬ ∃ x y, (x, y) ∈ en ∧ x % c.cfg.stride < c.cfg.width := by
  rw [List.isEmpty_iff, Camera.pixelsOf, List.filter_eq_nil_iff, List.forall_mem_map]
  simp only [decide_eq_true_eq, not_exists, not_and, Prod.forall]

section
variable {s : State} {cam : Fin 8} {off lo hi : Nat} {bytes : List (Option Byte)} {bl bh : Byte}

theorem State.offer_disabled (h : s.cp.binding ≠ .ready ∨ s.ing.cams[cam].cfg.enable = false) :
    (s.offer cam off bytes).2 = .pass := by
  unfold State.offer
  rw [if_pos (by rw [Bool.or_eq_true, decide_eq_true_eq, Bool.not_eq_true']; exact h)]

theorem State.offer_nothing (h : enabledAt off bytes = []) : (s.offer cam off bytes).2 = .pass := by
  unfold State.offer
  dsimp only
  split
  · rfl
  · rw [h]
    rfl

/-- The answer to the offer of a write whose lowest and highest enabled bytes lie at two offsets. -/
theorem State.offer_named (hReady : s.cp.binding = .ready) (hEnable : s.ing.cams[cam].cfg.enable = true)
    (hLo : (enabledAt off bytes).head? = some (lo, bl)) (hHi : (enabledAt off bytes).getLast? = some (hi, bh)) :
    let c := s.ing.cams[cam]
    s.offer cam off bytes =
      if c.cfg.slots * c.cfg.stride ≤ lo then (s.camCount cam (fun k => { k with outside := inc32 k.outside }), .pass)
      else if lo / c.cfg.stride ≠ hi / c.cfg.stride then
        ((s.camCount cam (fun k => { k with straddling := inc32 k.straddling })).captureOrder cam off .straddle, .pass)
      else if (c.pixelsOf (enabledAt off bytes)).isEmpty then (s, .pass)
      else if c.openLine.any (fun o => o.slot = lo / c.cfg.stride) then (s.tapBytes cam (c.pixelsOf (enabledAt off bytes)), .tap)
      else if c.discard = some (lo / c.cfg.stride) then (s, .pass)
      else s.offerNew cam off (lo / c.cfg.stride) (c.pixelsOf (enabledAt off bytes)) := by
  unfold State.offer
  dsimp only
  rw [if_neg (by rw [hReady, hEnable]; decide), hLo, hHi]
  rfl

end

section
variable {s : State} {cam : Fin 8} {off slot : Nat} {px : List (Nat × Byte)}

theorem State.offerNew_passes (h : s.ing.cams[cam].cfg.slots ≤ 2 * s.ing.cams[cam].slotsAhead slot
      ∨ s.ing.captures ≤ s.ing.cams[cam].expected + s.ing.cams[cam].slotsAhead slot) :
    (s.offerNew cam off slot px).2 = .pass := by
  unfold State.offerNew
  dsimp only
  split
  · rfl
  next hStale => rw [if_pos (h.resolve_left hStale)]

theorem State.offerNew_takes (hAhead : 2 * s.ing.cams[cam].slotsAhead slot < s.ing.cams[cam].cfg.slots)
    (hTriggered : s.ing.cams[cam].expected + s.ing.cams[cam].slotsAhead slot < s.ing.captures) :
    let c := s.ing.cams[cam]
    s.offerNew cam off slot px =
      if c.openLine.isNone && c.bufA.isClassifying && c.bufB.isClassifying then (s, .wait)
      else (s.beginLine cam slot (c.slotsAhead slot) px, .tap) :=
  (if_neg (not_le.2 hAhead)).trans (if_neg (not_le.2 hTriggered))

end

/-! ## What a line that begins leaves -/

theorem Camera.setBuf_expected (c : Camera) (b : Bool) (x : Buf) : (c.setBuf b x).expected = c.expected := by
  cases b <;> rfl

section
variable (cam : Fin 8) (s : State)

theorem State.completeLine_expected : (s.completeLine cam).ing.cams[cam].expected = s.ing.cams[cam].expected := by
  unfold State.completeLine
  dsimp only
  split
  · rfl
  · split
    · refine (congrArg Camera.expected (upd_getElem_self _ _ _)).trans ?_
      exact Camera.setBuf_expected _ _ _
    · rfl
    · rfl

theorem State.tapBytes_expected (px : List (Nat × Byte)) :
    (s.tapBytes cam px).ing.cams[cam].expected = s.ing.cams[cam].expected := by
  have hTapped : ∀ f : Camera → Camera, (∀ c, (f c).expected = c.expected) →
      (s.modCam cam f).ing.cams[cam].expected = s.ing.cams[cam].expected := fun f hf =>
    (congrArg Camera.expected (upd_getElem_self _ _ _)).trans (hf _)
  unfold State.tapBytes
  dsimp only
  have hCopied := hTapped (fun c =>
    let c1 := match c.openLine with
      | none => c
      | some o =>
        match c.buf o.bufB with
        | .filling q bytes => c.setBuf o.bufB (.filling q (px.foldl (fun bs (o, b) => bs.set o b) bytes))
        | .free | .classifying _ _ => c
    { c1 with counters := { c1.counters with tapped := inc32 c1.counters.tapped } }) fun c => by
      dsimp only
      split
      · rfl
      · split
        · exact Camera.setBuf_expected _ _ _
        · rfl
        · rfl
  split
  · exact (State.completeLine_expected cam _).trans hCopied
  · exact hCopied

theorem State.beginLine_expected (slot j : Nat) (px : List (Nat × Byte)) :
    (s.beginLine cam slot j px).ing.cams[cam].expected = s.ing.cams[cam].expected + j + 1 := by
  unfold State.beginLine
  dsimp only
  rw [State.tapBytes_expected]
  exact congrArg Camera.expected (upd_getElem_self _ _ _)

end

/-- Settles O37. -/
theorem offerAnswersBySlot : Obligations.OfferAnswersBySlot := by
  refine ⟨fun cam off bytes s hNone => State.offer_nothing hNone, fun cam off lo hi bytes s bl bh hLo hHi => ?_⟩
  intro c slot ahead pixel
  refine ⟨State.offer_disabled, fun hReady hEnable => ?_⟩
  have hOffer := State.offer_named hReady hEnable hLo hHi
  have hEmpty : (c.pixelsOf (enabledAt off bytes)).isEmpty = true ↔ ¬ pixel := Camera.pixelsOf_isEmpty
  refine ⟨fun hPass => ?pass, fun hIn hSlot hPixel => ?taken⟩
  case pass =>
    rw [hOffer]
    split
    · rfl
    next hInside =>
      split
      · rfl
      next hOne =>
        refine congrArg Prod.snd (if_pos (hEmpty.2 ?_))
        rcases hPass with h | h | h
        · exact absurd h hInside
        · exact absurd h hOne
        · exact h
  case taken =>
    dsimp only at hOffer
    rw [if_neg (not_le.2 hIn), if_neg (not_not.2 hSlot), if_neg (fun h => hEmpty.1 h hPixel)] at hOffer
    refine ⟨fun ⟨o, hOpen, hThis⟩ => ?_, fun hOther => ?_⟩
    · rw [hOffer, if_pos]
      change c.openLine.any _ = true
      rw [hOpen]
      exact decide_eq_true hThis
    · have hNotOpen : ¬ c.openLine.any (fun o => o.slot = slot) = true := fun h => by
        obtain ⟨o, hOpen, hThis⟩ := Option.any_eq_true _ _ |>.1 h
        exact hOther o hOpen (of_decide_eq_true hThis)
      rw [if_neg hNotOpen] at hOffer
      refine ⟨fun hDiscard => hOffer.trans (if_pos hDiscard), fun hKeep => ?_⟩
      rw [if_neg hKeep] at hOffer
      rw [hOffer]
      refine ⟨State.offerNew_passes, fun hAhead hTriggered => ?_⟩
      rw [State.offerNew_takes hAhead hTriggered]
      by_cases hWait : c.openLine.isNone && c.bufA.isClassifying && c.bufB.isClassifying
      · rw [if_pos hWait]
        refine ⟨⟨fun _ => ?_, fun _ => rfl⟩, fun _ => rfl, fun h => absurd rfl h⟩
        simpa [and_assoc] using hWait
      · rw [if_neg hWait]
        refine ⟨⟨fun h => (by cases h), fun h => absurd ?_ hWait⟩, fun h => (by cases h), fun _ => ⟨rfl, ?_⟩⟩
        · simpa [and_assoc] using h
        · exact State.beginLine_expected cam s slot ahead _

/-! ## The expiry of a hold (R44, R46, R48) -/

/-- The captures from one number to below another. -/
def capturesIn (lo hi q : Nat) : Bool := lo ≤ q && q < hi

theorem capturesIn_iff {lo hi q : Nat} : capturesIn lo hi q = true ↔ lo ≤ q ∧ q < hi := by
  simp [capturesIn]

/-- R44: the captures before the one of an expired write are declared LOST by SKIP. -/
def State.skipped (cam : Fin 8) (e j : Nat) (s : State) : State :=
  if 0 < j then (s.declareLost cam .skip (capturesIn e (e + j))).assemble else s

section
variable {s : State} {cam : Fin 8} {slot : Nat}

theorem State.captureExpired_discards (h : s.ing.cams[cam].cfg.slots ≤ 2 * s.ing.cams[cam].slotsAhead slot
      ∨ s.ing.captures ≤ s.ing.cams[cam].expected + s.ing.cams[cam].slotsAhead slot) :
    s.captureExpired cam slot = (s.modCam cam (fun c => { c with discard := some slot })).assemble := by
  unfold State.captureExpired
  dsimp only
  rw [if_pos h]

theorem State.captureExpired_declares (hAhead : 2 * s.ing.cams[cam].slotsAhead slot < s.ing.cams[cam].cfg.slots)
    (hTriggered : s.ing.cams[cam].expected + s.ing.cams[cam].slotsAhead slot < s.ing.captures) :
    let e := s.ing.cams[cam].expected
    let j := s.ing.cams[cam].slotsAhead slot
    s.captureExpired cam slot = ((((s.skipped cam e j).declareLost cam .expiry (fun q => q = e + j)).modCam cam (fun c =>
      { c with expected := max c.expected (e + j + 1) })).modCam cam (fun c => { c with discard := some slot })).assemble := by
  unfold State.captureExpired
  dsimp only
  rw [if_neg (not_or.2 ⟨not_le.2 hAhead, not_le.2 hTriggered⟩)]
  rfl

end

theorem lostAfter_zero (n : Nat) : lostAfter n 0 = n := rfl

/-- What the captures lost by SKIP change. -/
structure Skipped (cam : Fin 8) (e j : Nat) (s t : State) : Prop where
  rising : t.ing.Rising
  expected : t.ing.cams[cam].expected ≤ e + j
  skips : t.ing.cams[cam].counters.lost[0] = lostAfter s.ing.cams[cam].counters.lost[0] (s.ing.lostCount cam (capturesIn e (e + j)))
  expiries : t.ing.cams[cam].counters.lost[1] = s.ing.cams[cam].counters.lost[1]
  own : ∀ other, (∀ q, other q = true → e + j ≤ q) → t.ing.lostCount cam other = s.ing.lostCount cam other
  gone : t.ing.lostCount cam (capturesIn e (e + j)) = 0
  event : 0 < s.ing.lostCount cam (capturesIn e (e + j)) → t.ev.pending.getLsbD 5 = true

theorem State.skipped_frame (cam : Fin 8) (e j : Nat) (s : State) :
    (s.skipped cam e j).ing.cols = s.ing.cols ∧ (s.skipped cam e j).pos = s.pos := by
  have hDeclared := State.declareLost_declared cam .skip (capturesIn e (e + j)) s
  have hAssembled := State.assemble_assembled (s.declareLost cam .skip (capturesIn e (e + j)))
  unfold State.skipped
  split
  · exact ⟨hAssembled.cols.trans hDeclared.cols, hAssembled.pos.trans hDeclared.pos⟩
  · exact ⟨rfl, rfl⟩

theorem State.skipped_skipped {s : State} {cam : Fin 8} {e : Nat} (j : Nat) (hRising : s.ing.Rising)
    (he : s.ing.cams[cam].expected = e) : Skipped cam e j s (s.skipped cam e j) := by
  unfold State.skipped
  by_cases hj : 0 < j
  · rw [if_pos hj]
    have hDeclared := State.declareLost_declared cam .skip (capturesIn e (e + j)) s
    have hAssembled := State.assemble_assembled (s.declareLost cam .skip (capturesIn e (e + j)))
    have hStill : (s.declareLost cam .skip (capturesIn e (e + j))).ing.Rising := by
      unfold Ingest.Rising
      rw [hDeclared.lines]
      exact hRising
    refine ⟨hAssembled.rising hStill, ?_, ?_, ?_, fun other hq => ?_, ?_, fun h => ?_⟩
    · rw [hAssembled.cams]
      exact hDeclared.expectedHigh _ (by omega) fun q hq => (capturesIn_iff.1 hq).2
    · rw [hAssembled.cams]
      exact hDeclared.counted
    · rw [hAssembled.cams]
      exact hDeclared.uncounted 1 (by decide)
    · rw [hAssembled.lostCount hStill, hDeclared.lostCount_disjoint fun q h => ?_]
      refine Bool.eq_false_iff.2 fun hIn => ?_
      have := hq q h
      have := (capturesIn_iff.1 hIn).2
      omega
    · rw [hAssembled.lostCount hStill]
      exact hDeclared.lostCount_self
    · exact (Steady.refl _).assemble.flags 5 (hDeclared.event h)
  · obtain rfl : j = 0 := Nat.eq_zero_of_not_pos hj
    have hNone : s.ing.lostCount cam (capturesIn e (e + 0)) = 0 := Ingest.lostCount_eq_zero.2 fun p _ => by
      refine Bool.eq_false_iff.2 fun hPending => ?_
      obtain ⟨_, q, _, hq⟩ := Pulse.pendingFor_iff.1 hPending
      have := capturesIn_iff.1 hq
      omega
    rw [if_neg hj]
    refine ⟨hRising, he.le, ?_, rfl, fun _ _ => rfl, hNone, fun h => absurd hNone h.ne'⟩
    rw [hNone, lostAfter_zero]

/-- What an expired capture write whose capture may be declared LOST changes. -/
theorem State.captureExpired_parts {s : State} {cam : Fin 8} {slot : Nat} (hRising : s.ing.Rising)
    (hAhead : 2 * s.ing.cams[cam].slotsAhead slot < s.ing.cams[cam].cfg.slots)
    (hTriggered : s.ing.cams[cam].expected + s.ing.cams[cam].slotsAhead slot < s.ing.captures) :
    let c := s.ing.cams[cam]
    let own := c.expected + c.slotsAhead slot
    let t := s.captureExpired cam slot
    t.ing.cams[cam].expected = own + 1
    ∧ t.ing.cams[cam].counters.lost[0] = lostAfter c.counters.lost[0] (s.ing.pendingIn cam c.expected own)
    ∧ t.ing.cams[cam].counters.lost[1] = lostAfter c.counters.lost[1] (s.ing.pendingIn cam own (own + 1))
    ∧ (0 < s.ing.pendingIn cam c.expected (own + 1) → t.ev.pending.getLsbD 5 = true)
    ∧ t.ing.pendingIn cam c.expected (own + 1) = 0 := by
  intro c own t
  let j := c.slotsAhead slot
  let a := s.skipped cam c.expected j
  let b := a.declareLost cam .expiry (fun q => q = own)
  let u := (b.modCam cam (fun c => { c with expected := max c.expected (own + 1) })).modCam cam (fun c =>
    { c with discard := some slot })
  have hSkipped : Skipped cam c.expected j s a := State.skipped_skipped j hRising rfl
  have hDeclared : Declared cam .expiry (fun q => q = own) a b := State.declareLost_declared cam .expiry _ a
  have hAssembled : Assembled u u.assemble := State.assemble_assembled u
  have hSteady : Steady a b := (Steady.refl a).declareLost
  have ht : t = u.assemble := State.captureExpired_declares hAhead hTriggered
  clear_value t b a
  have hCam : t.ing.cams[cam] = { b.ing.cams[cam] with
      expected := max b.ing.cams[cam].expected (own + 1), discard := some slot } := by
    rw [ht, hAssembled.cams]
    refine (upd_getElem_self _ _ _).trans ?_
    rw [State.modCam_ing, upd_getElem_self]
  have hStill : u.ing.Rising := by
    change (b.ing.pulses.map (·.line)).Pairwise (· < ·)
    rw [hDeclared.lines]
    exact hSkipped.rising
  have hOne : ∀ q, (decide (q = own)) = capturesIn own (own + 1) q := fun q =>
    decide_eq_decide.2 (by omega) |>.trans (Bool.decide_and (own ≤ q) (q < own + 1))
  have hOwn : a.ing.lostCount cam (fun q => q = own) = s.ing.pendingIn cam own (own + 1) := by
    rw [hSkipped.own _ fun q hq => (of_decide_eq_true hq).ge, Ingest.pendingIn_eq]
    exact congrArg (s.ing.lostCount cam) (funext hOne)
  refine ⟨?_, ?_, ?_, fun hSome => ?_, ?_⟩
  · rw [hCam]
    refine max_eq_right (hDeclared.expectedHigh _ (hSkipped.expected.trans (Nat.le_succ _)) fun q hq => ?_)
    rw [of_decide_eq_true hq]
    exact Nat.lt_succ_self _
  · rw [hCam]
    refine (hDeclared.uncounted 0 (by decide)).trans (hSkipped.skips.trans ?_)
    rw [Ingest.pendingIn_eq]
    rfl
  · rw [hCam]
    refine hDeclared.counted.trans ?_
    rw [hOwn]
    exact congrArg (fun n => lostAfter n _) hSkipped.expiries
  · rw [ht]
    refine (Steady.refl u).assemble.flags 5 ?_
    by_cases hOwnSome : 0 < a.ing.lostCount cam (fun q => q = own)
    · exact hDeclared.event hOwnSome
    · refine hSteady.flags 5 (hSkipped.event ?_)
      obtain ⟨p, hp, hPending⟩ := Ingest.lostCount_pos.1 (Ingest.pendingIn_eq .. ▸ hSome)
      obtain ⟨hStatus, q, hq, hIn⟩ := Pulse.pendingFor_iff.1 hPending
      obtain ⟨hLow, hHigh⟩ := capturesIn_iff.1 hIn
      refine Ingest.lostCount_pos.2 ⟨p, hp, Pulse.pendingFor_iff.2 ⟨hStatus, q, hq, capturesIn_iff.2 ⟨hLow, ?_⟩⟩⟩
      by_contra hNot
      refine hOwnSome (hOwn ▸ Ingest.pendingIn_eq .. ▸ Ingest.lostCount_pos.2 ⟨p, hp, Pulse.pendingFor_iff.2
        ⟨hStatus, q, hq, capturesIn_iff.2 ⟨not_lt.1 hNot, hHigh⟩⟩⟩)
  · rw [ht, Ingest.pendingIn_eq, hAssembled.lostCount hStill, Ingest.lostCount_eq_zero]
    intro p hp
    refine Bool.eq_false_iff.2 fun hPending => ?_
    obtain ⟨hStatus, q, hq, hIn⟩ := Pulse.pendingFor_iff.1 hPending
    obtain ⟨hLow, hHigh⟩ := capturesIn_iff.1 hIn
    by_cases hLess : q < own
    · have hNone := hDeclared.lostCount_disjoint (other := capturesIn c.expected own) fun q h =>
        decide_eq_false (capturesIn_iff.1 h).2.ne
      have hZero := Ingest.lostCount_eq_zero.1 (hNone.trans hSkipped.gone) p hp
      exact absurd (Pulse.pendingFor_iff.2 ⟨hStatus, q, hq, capturesIn_iff.2 ⟨hLow, hLess⟩⟩) (by rw [hZero]; decide)
    · have hZero := Ingest.lostCount_eq_zero.1 hDeclared.lostCount_self p hp
      have hSame : q = own := Nat.le_antisymm (Nat.lt_succ_iff.1 hHigh) (not_lt.1 hLess)
      exact absurd (Pulse.pendingFor_iff.2 ⟨hStatus, q, hq, decide_eq_true hSame⟩) (by rw [hZero]; decide)

/-- What every expiry of a capture write leaves. -/
theorem State.captureExpired_frame (cam : Fin 8) (slot : Nat) (s : State) :
    let t := s.captureExpired cam slot
    t.ing.cams[cam].discard = some slot ∧ t.ing.cols = s.ing.cols ∧ t.pos = s.pos := by
  have hEnd : ∀ u : State, u.ing.cols = s.ing.cols → u.pos = s.pos →
      let t := (u.modCam cam (fun c => { c with discard := some slot })).assemble
      t.ing.cams[cam].discard = some slot ∧ t.ing.cols = s.ing.cols ∧ t.pos = s.pos := fun u hCols hPos => by
    have hAssembled := State.assemble_assembled (u.modCam cam (fun c => { c with discard := some slot }))
    refine ⟨?_, hAssembled.cols.trans hCols, hAssembled.pos.trans hPos⟩
    rw [hAssembled.cams]
    exact congrArg Camera.discard (upd_getElem_self _ _ _)
  by_cases h : s.ing.cams[cam].cfg.slots ≤ 2 * s.ing.cams[cam].slotsAhead slot
      ∨ s.ing.captures ≤ s.ing.cams[cam].expected + s.ing.cams[cam].slotsAhead slot
  · rw [State.captureExpired_discards h]
    exact hEnd s rfl rfl
  · obtain ⟨hAhead, hTriggered⟩ := not_or.1 h
    rw [State.captureExpired_declares (not_le.1 hAhead) (not_le.1 hTriggered)]
    let e := s.ing.cams[cam].expected
    let j := s.ing.cams[cam].slotsAhead slot
    obtain ⟨hCols, hPos⟩ := State.skipped_frame cam e j s
    have hDeclared := State.declareLost_declared cam .expiry (fun q => q = e + j) (s.skipped cam e j)
    exact hEnd _ (hDeclared.cols.trans hCols) (hDeclared.pos.trans hPos)

theorem State.captureExpired_camera {s : State} {cam : Fin 8} {slot : Nat}
    (h : s.ing.cams[cam].cfg.slots ≤ 2 * s.ing.cams[cam].slotsAhead slot
      ∨ s.ing.captures ≤ s.ing.cams[cam].expected + s.ing.cams[cam].slotsAhead slot) :
    (s.captureExpired cam slot).ing.cams[cam] = { s.ing.cams[cam] with discard := some slot } := by
  have hAssembled := State.assemble_assembled (s.modCam cam (fun c => { c with discard := some slot }))
  rw [State.captureExpired_discards h, hAssembled.cams]
  exact upd_getElem_self _ _ _

theorem Steady.captureExpired {s t : State} (h : Steady s t) {cam : Fin 8} {slot : Nat} : Steady s (t.captureExpired cam slot) := by
  unfold State.captureExpired
  refine (Steady.modCam (Steady.ite (fun _ => h) fun _ => ?_)).assemble
  exact (Steady.declareLost (Steady.ite (fun _ => h.declareLost.assemble) fun _ => h)).modCam

/-! ## Writes that go downstream -/

section
variable {s : State} {w : QueuedWrite}

theorem State.forwardPosted_pos (w : QueuedWrite) (s : State) : (s.forwardPosted w).pos = s.pos := by
  unfold State.forwardPosted
  rw [State.forwardHead_eq, State.observeAll_frame]
  rfl

theorem State.offerWrite_tap {u : State} (h : s.offer w.cls.cam w.cls.offset w.burst.bytes = (u, .tap)) :
    s.offerWrite w = (u.forwardPosted w).count (fun c => { c with tapped := inc32 c.tapped }) := by
  unfold State.offerWrite
  rw [h]

theorem State.offerWrite_pass {u : State} (h : s.offer w.cls.cam w.cls.offset w.burst.bytes = (u, .pass)) :
    s.offerWrite w = (u.forwardPosted w).count (fun c => { c with untapped := inc32 c.untapped }) := by
  unfold State.offerWrite
  rw [h]

theorem State.offerWrite_wait {u : State} (h : s.offer w.cls.cam w.cls.offset w.burst.bytes = (u, .wait)) :
    s.offerWrite w = (u.modPath (fun p =>
      { p with hold := some { producer := false, camera := w.cls.camera, limit := u.ing.holdLimit, us := 0,
                              serial := p.nextAccess, consumers := u.consumersOf w } })).count (fun c =>
      { c with captureHolds := inc32 c.captureHolds }) := by
  unfold State.offerWrite
  rw [h]

end

/-- Settles O36. -/
theorem captureAndHeldWritesAreDealtWith : Obligations.CaptureAndHeldWritesAreDealtWith := by
  refine ⟨fun w s => ?offered, fun h w ws s hHold hWrites hFree => ⟨fun hProducer => ?producer, fun hCapture => ?capture⟩⟩
  case offered =>
    intro o f posted
    refine ⟨fun hHeads hFree => ?_, fun hTap => ?_, fun hPass => ?_, fun hWait hSame => ?_⟩
    · refine congrArg Host.Outcome.next ((State.onHead_heads hHeads _).trans ?_)
      exact State.guarded_none hFree _
    · exact State.offerWrite_tap (u := o.1) (Prod.ext rfl hTap)
    · exact State.offerWrite_pass (u := o.1) (Prod.ext rfl hPass)
    · exact State.offerWrite_wait (u := s) (Prod.ext hSame hWait)
  case producer =>
    rw [exec_producerHoldExpiry hHold hProducer]
    let u := s.count (fun c => { c with producerExpiries := inc32 c.producerExpiries })
    refine congrArg Host.Outcome.next ((State.forwardHeldProducer_eq (s := u) hWrites).trans ?_)
    exact State.guarded_none (s := u) hFree _
  case capture =>
    intro cam c ahead own
    let u := s.count (fun k => { k with captureExpiries := inc32 k.captureExpiries })
    let v := u.forwardPosted w
    obtain ⟨hIng, hCp⟩ : v.ing = s.ing ∧ v.cp = s.cp := State.forwardPosted_blocks w u
    have hPos : v.pos = s.pos := State.forwardPosted_pos w u
    have hRun : exec .captureHoldExpiry s = .next (v.captureExpired cam (s.slotOf w)) := by
      rw [exec_captureHoldExpiry (State.heldCapture_eq hHold hWrites hCapture)]
      exact congrArg (fun z : State => Host.Outcome.next (z.captureExpired cam (s.slotOf w)))
        (State.guarded_none (s := u) hFree _)
    have hSteady : Steady v (v.captureExpired cam (s.slotOf w)) := (Steady.refl v).captureExpired
    have hPath : v.path = (State.forwardPosted w u).path := rfl
    clear_value v
    have hBinding : (v.captureExpired cam (s.slotOf w)).cp.binding = s.cp.binding :=
      congrArg CmdProc.binding (hSteady.cp.trans hCp)
    have hBehind := State.captureExpired_camera (s := v) (cam := cam) (slot := s.slotOf w)
    have hDeclares := fun hRising => State.captureExpired_parts (s := v) (cam := cam) (slot := s.slotOf w) hRising
    rw [hIng] at hBehind hDeclares
    obtain ⟨hDiscard, hCols, hPosition⟩ := State.captureExpired_frame cam (s.slotOf w) v
    refine ⟨_, hRun, hSteady.path.trans hPath, hDiscard, hBehind, fun hAhead hTriggered hSound => ?_,
      hPosition.trans hPos, hCols.trans (congrArg Ingest.cols hIng), hBinding⟩
    exact hDeclares (List.pairwise_map.2 hSound.2.1) hAhead hTriggered

end Sys2Proof.Machine
end
section
/-! PROOFS. The end of a classification (R45, R47, R56): the line that is delivered, the captures that lag behind it, and the
held write that is offered again. -/

set_option Elab.async false

namespace Sys2Proof.Machine

/-! ## Captures that lag (R47) -/

/-- The captures that lie 8 or more behind a capture. -/
def lagging (q r : Nat) : Bool := r + Config.lagCaptures ≤ q

theorem Ingest.pendingIn_lagging (g : Ingest) (i : Fin 8) (q : Nat) : g.pendingIn i 0 (q - 7) = g.lostCount i (lagging q) := by
  rw [Ingest.pendingIn_eq]
  refine congrArg (g.lostCount i) (funext fun r => ?_)
  have hIff : r < q - 7 ↔ r + 8 ≤ q := by omega
  rw [decide_eq_true (Nat.zero_le r), Bool.true_and]
  exact decide_eq_decide.2 hIff

/-- The state after a list of cameras lost the captures that lag. -/
def State.lagAll (q : Nat) (l : List (Fin 8)) (s : State) : State := l.foldl (fun s i => s.declareLost i .lag (lagging q)) s

section
variable {i : Fin 8} {q : Nat}

theorem State.lagAll_cons (j : Fin 8) (l : List (Fin 8)) (s : State) :
    s.lagAll q (j :: l) = (s.declareLost j .lag (lagging q)).lagAll q l := rfl

theorem State.lagAll_frame (l : List (Fin 8)) (s : State) : (s.lagAll q l).ing.pulses.map (·.line) = s.ing.pulses.map (·.line)
    ∧ (s.lagAll q l).ing.cols = s.ing.cols ∧ (s.lagAll q l).pos = s.pos := by
  induction l generalizing s with
  | nil => exact ⟨rfl, rfl, rfl⟩
  | cons j l ih =>
    obtain ⟨hLines, hCols, hPos⟩ := ih (s.declareLost j .lag (lagging q))
    have hDeclared := State.declareLost_declared j .lag (lagging q) s
    exact ⟨hLines.trans hDeclared.lines, hCols.trans hDeclared.cols, hPos.trans hDeclared.pos⟩

/-- A camera that is not among them loses nothing. -/
theorem State.lagAll_of_not_mem (l : List (Fin 8)) (hi : i ∉ l) (s : State) :
    (s.lagAll q l).ing.cams[i] = s.ing.cams[i] ∧ (s.lagAll q l).ing.lostCount i (lagging q) = s.ing.lostCount i (lagging q) := by
  induction l generalizing s with
  | nil => exact ⟨rfl, rfl⟩
  | cons j l ih =>
    obtain ⟨hNe, hRest⟩ := not_or.1 (mt List.mem_cons.2 hi)
    obtain ⟨hCam, hCount⟩ := ih hRest (s.declareLost j .lag (lagging q))
    have hDeclared := State.declareLost_declared j .lag (lagging q) s
    exact ⟨hCam.trans (hDeclared.others i hNe), hCount.trans (hDeclared.lostCount_other hNe)⟩

theorem State.lagAll_of_mem (l : List (Fin 8)) (hNodup : l.Nodup) (hi : i ∈ l) (s : State) :
    (s.lagAll q l).ing.cams[i].counters.lost[3] = lostAfter s.ing.cams[i].counters.lost[3] (s.ing.lostCount i (lagging q))
    ∧ (s.lagAll q l).ing.lostCount i (lagging q) = 0
    ∧ (0 < s.ing.lostCount i (lagging q) → (s.lagAll q l).ev.pending.getLsbD 5 = true) := by
  induction l generalizing s with
  | nil => cases hi
  | cons j l ih =>
    obtain ⟨hOut, hRest⟩ := List.nodup_cons.1 hNodup
    have hDeclared := State.declareLost_declared j .lag (lagging q) s
    rw [State.lagAll_cons]
    rcases List.mem_cons.1 hi with rfl | hi
    · obtain ⟨hCam, hCount⟩ := State.lagAll_of_not_mem (q := q) l hOut (s.declareLost i .lag (lagging q))
      refine ⟨?_, hCount.trans hDeclared.lostCount_self, fun hSome => ?_⟩
      · rw [hCam]
        exact hDeclared.counted
      · exact (Steady.foldl (fun _ _ k => k.declareLost) l (Steady.refl _)).flags 5 (hDeclared.event hSome)
    · have hNe : i ≠ j := fun h => hOut (h ▸ hi)
      obtain ⟨hLost, hGone, hEvent⟩ := ih hRest hi (s.declareLost j .lag (lagging q))
      rw [hDeclared.others i hNe, hDeclared.lostCount_other hNe] at hLost
      exact ⟨hLost, hGone, fun hSome => hEvent (by rwa [hDeclared.lostCount_other hNe])⟩

end

/-- The cameras that the lag rule speaks of: the other enabled ones. -/
def Ingest.otherCameras (g : Ingest) (cam : Fin 8) : List (Fin 8) := g.enabled.filter (· ≠ cam)

theorem Ingest.mem_otherCameras {g : Ingest} {cam i : Fin 8} :
    i ∈ g.otherCameras cam ↔ g.cams[i].cfg.enable = true ∧ i ≠ cam := by
  simp [Ingest.otherCameras, Ingest.enabled, and_comm]

theorem Ingest.otherCameras_nodup (g : Ingest) (cam : Fin 8) : (g.otherCameras cam).Nodup :=
  ((List.nodup_finRange 8).filter _).filter _

theorem State.lagRule_eq (cam : Fin 8) (q : Nat) (s : State) : s.lagRule cam q = s.lagAll q (s.ing.otherCameras cam) := rfl

/-! ## A line delivered (R45, R56) -/

theorem upd_upd {α : Type} {n : Nat} (v : Vector α n) (i : Fin n) (f g : α → α) :
    upd (upd v i f) i g = v.set i (g (f v[i])) := by
  have hOne : (upd v i f)[i] = f v[i] := upd_getElem_self v i f
  unfold upd at hOne ⊢
  rw [hOne, Vector.set_set]

/-- The camera with a buffer freed and the line's marks counted. -/
def Camera.marked (r : LineResult) (c : Camera) : Camera :=
  { c with
    floodMark := c.floodMark || r.flood,
    counters := { c.counters with
      flood := if r.flood then inc32 c.counters.flood else c.counters.flood,
      overflow := if r.overflow then inc32 c.counters.overflow else c.counters.overflow } }

/-- The part after the buffer was freed and the line's marks were counted. -/
def State.marked (cam : Fin 8) (b : Bool) (r : LineResult) (s : State) : State :=
  let c := s.ing.cams[cam].setBuf b .free
  let freed : State := { s with ing := { s.ing with cams := s.ing.cams.set cam (c.marked r) } }
  if r.flood = true ∧ c.floodMark = false then freed.raise .lightShift r.line (cam.val + 256 * r.flagged) else freed

section
variable {s : State} {cam : Fin 8} {b : Bool} {q : Nat} {r : LineResult}

theorem State.lineMarks_freed (cam : Fin 8) (b : Bool) (r : LineResult) (s : State) :
    (s.modCam cam (fun c => c.setBuf b .free)).lineMarks cam r = s.marked cam b r := by
  unfold State.lineMarks State.marked
  dsimp only
  have hCam : (s.modCam cam (fun c => c.setBuf b .free)).ing.cams[cam] = s.ing.cams[cam].setBuf b .free := upd_getElem_self _ _ _
  have hBoth : (s.modCam cam (fun c => c.setBuf b .free)).modCam cam (Camera.marked r) =
      { s with ing := { s.ing with cams := s.ing.cams.set cam ((s.ing.cams[cam].setBuf b .free).marked r) } } :=
    congrArg (fun v => ({ s with ing := { s.ing with cams := v } } : State)) (upd_upd _ _ _ _)
  change ((s.modCam cam (fun c => c.setBuf b .free)).modCam cam (Camera.marked r)).raiseIf _ _ _ _ = _
  rw [hBoth, hCam]
  unfold State.raiseIf
  cases r.flood <;> cases (s.ing.cams[cam].setBuf b .free).floodMark <;> rfl

/-- The part after a line was delivered. -/
def State.delivered (cam : Fin 8) (p : Pulse) (r : LineResult) (c : Camera) (u : State) : State :=
  { u with ing := { u.ing with
      pulses := u.ing.pulses.map (fun x => if x.line = p.line then { x with status := x.status.set cam (.delivered r) } else x),
      cams := u.ing.cams.set cam
        { c with floodMark := r.flood, counters := { c.counters with delivered := inc32 c.counters.delivered } } } }

theorem State.deliver_eq (p : Pulse) (r : LineResult) (u : State) :
    u.deliver cam p.line r = u.delivered cam p r u.ing.cams[cam] := rfl

theorem State.endClassification_idle (h : ∀ q r, s.ing.cams[cam].buf b ≠ .classifying q r) :
    s.endClassification cam b = (s, false) := by
  unfold State.endClassification
  cases hBuf : s.ing.cams[cam].buf b with
  | free => rfl
  | filling q bytes => rfl
  | classifying q r => exact absurd hBuf (h q r)

theorem State.endClassification_late (h : s.ing.cams[cam].buf b = .classifying q r)
    (hNone : s.ing.pulses.find? (fun x => x.capture = some q && x.status[cam] = .pending) = none) :
    s.endClassification cam b = (s.marked cam b r, true) := by
  unfold State.endClassification
  rw [h]
  dsimp only
  rw [hNone, State.lineMarks_freed]

theorem State.endClassification_delivers (h : s.ing.cams[cam].buf b = .classifying q r) {p : Pulse}
    (hFound : s.ing.pulses.find? (fun x => x.capture = some q && x.status[cam] = .pending) = some p) :
    s.endClassification cam b = ((((s.marked cam b r).deliver cam p.line r).lagRule cam q).assemble, true) := by
  unfold State.endClassification
  rw [h]
  dsimp only
  rw [hFound, State.lineMarks_freed]

theorem exec_classificationDone {u : State} (h : s.endClassification cam b = (u, true)) :
    exec (.classificationDone cam b) s = .next (u.reofferFor cam) := by
  change execClassificationDone cam b s = _
  unfold execClassificationDone
  rw [h]

/-! ## The held write of the camera (R44) -/

theorem State.reofferFor_none {u : State} (h : ∀ x w ws, u.path.hold = some x → u.path.writes = w :: ws →
    x.producer = true ∨ w.cls.cam ≠ cam) : u.reofferFor cam = u := by
  unfold State.reofferFor
  split
  next w hHeld =>
    refine if_neg fun hCam => ?_
    unfold State.heldCapture at hHeld
    split at hHeld
    next x v ws hHold hWrites =>
      split at hHeld
      · cases hHeld
      next hCapture =>
        cases hHeld
        exact (h x w ws hHold hWrites).elim hCapture (fun hNot => hNot hCam)
    · cases hHeld
  next => rfl

theorem State.reofferFor_held {u : State} {x : Hold} {w : QueuedWrite} {ws : List QueuedWrite} (hHold : u.path.hold = some x)
    (hCapture : x.producer = false) (hWrites : u.path.writes = w :: ws) (hCam : w.cls.cam = cam)
    (hFree : ∀ r, ¬ u.hitsGuard w r) : u.reofferFor cam = u.offerWrite w := by
  have hHeld := State.heldCapture_eq hHold hWrites hCapture
  unfold State.reofferFor State.reoffer
  rw [hHeld]
  exact (if_pos hCam).trans (State.guarded_none hFree _)

theorem State.hitsGuard_iff_of_guards {t : State} (h : ∀ r : Fin 4, t.rings[r].guard = s.rings[r].guard) (w : QueuedWrite)
    (r : Fin 4) : t.hitsGuard w r ↔ s.hitsGuard w r :=
  exists_congr fun x => and_congr_left' (Ring.guards_congr (h r) r x)

variable (s cam b r) in
/-- What the marks of a line leave, and the event of a flood. -/
theorem State.marked_parts :
    (s.marked cam b r).ing = { s.ing with cams := s.ing.cams.set cam ((s.ing.cams[cam].setBuf b .free).marked r) }
    ∧ (∀ q : Fin 4, (s.marked cam b r).rings[q].guard = s.rings[q].guard)
    ∧ Steady s (s.marked cam b r) ∧ (s.marked cam b r).pos = s.pos
    ∧ (r.flood = true → (s.ing.cams[cam].setBuf b .free).floodMark = false →
        (s.marked cam b r).ev.pending.getLsbD 7 = true) := by
  let freed : State :=
    { s with ing := { s.ing with cams := s.ing.cams.set cam ((s.ing.cams[cam].setBuf b .free).marked r) } }
  have hFreed : Steady s freed := (Steady.refl s).modIng (f := fun _ => freed.ing)
  unfold State.marked
  dsimp only
  split
  next =>
    have hRaised := (Works.refl freed).raise (k := .lightShift) (a := r.line) (b := cam.val + 256 * r.flagged)
    exact ⟨hRaised.ing, hRaised.guards, hFreed.works hRaised, hRaised.pos, fun _ _ => State.raise_sets .lightShift _ _ _⟩
  next hNot => exact ⟨rfl, fun _ => rfl, hFreed, rfl, fun hFlood hClear => absurd ⟨hFlood, hClear⟩ hNot⟩

/-- The marked line delivered, in one change of the Ingest Unit. -/
theorem State.marked_deliver (s : State) (cam : Fin 8) (b : Bool) (r : LineResult) (p : Pulse) :
    let c := (s.ing.cams[cam].setBuf b .free).marked r
    (s.marked cam b r).deliver cam p.line r = { s.marked cam b r with ing := { s.ing with
      pulses := s.ing.pulses.map (fun x => if x.line = p.line then { x with status := x.status.set cam (.delivered r) } else x),
      cams := s.ing.cams.set cam
        { c with floodMark := r.flood, counters := { c.counters with delivered := inc32 c.counters.delivered } } } } := by
  obtain ⟨hIng, _⟩ := State.marked_parts s cam b r
  have hSelf : (s.ing.cams.set cam ((s.ing.cams[cam].setBuf b .free).marked r))[cam] = (s.ing.cams[cam].setBuf b .free).marked r :=
    Vector.getElem_set_self cam.isLt
  rw [State.deliver_eq]
  unfold State.delivered
  rw [hIng]
  dsimp only
  rw [hSelf, Vector.set_set]

end

/-- Settles O47. -/
theorem classificationIsDelivered : Obligations.ClassificationIsDelivered := by
  refine ⟨fun cam b s => ?_, fun cam i q s hNe => ?lag⟩
  · intro run
    refine ⟨fun hIdle => ?idle, fun q r hBuf => ?ends⟩
    case idle =>
      change execClassificationDone cam b s = _
      unfold execClassificationDone
      rw [State.endClassification_idle hIdle]
    case ends =>
      intro c marked freed ended none_ held
      have hEnded : s.marked cam b r = ended := rfl
      obtain ⟨hIng, hGuards, hSteady, hPos, hFlood⟩ := State.marked_parts s cam b r
      refine ⟨fun hNone => ?late, fun p hFound => ?found⟩
      case late =>
        have hNo : s.ing.pulses.find? (fun x => x.capture = some q && x.status[cam] = .pending) = none := by
          refine List.find?_eq_none.2 fun x hx hHit => ?_
          obtain ⟨hCapture, hPending⟩ := Bool.and_eq_true_iff.1 hHit
          exact hNone x hx (of_decide_eq_true hCapture) (of_decide_eq_true hPending)
        have hRun : run = .next (ended.reofferFor cam) := exec_classificationDone (State.endClassification_late hBuf hNo)
        refine ⟨fun hFree => ?_, fun w hHeld hFree => ?_⟩
        · rw [hRun, State.reofferFor_none (u := ended) (by rw [← hEnded, hSteady.path]; exact hFree)]
        · obtain ⟨x, ws, hHold, hCapture, hWrites, hCam⟩ := hHeld
          rw [hRun, State.reofferFor_held (u := ended) (hSteady.path ▸ hHold) hCapture (hSteady.path ▸ hWrites) hCam
            fun g hHit => hFree g ((State.hitsGuard_iff_of_guards hGuards w g).1 hHit)]
      case found =>
        intro mine delivered t
        have hDelivered : (s.marked cam b r).deliver cam p.line r = delivered := State.marked_deliver s cam b r p
        have hRun : run = .next (t.reofferFor cam) := by
          refine (exec_classificationDone (State.endClassification_delivers hBuf hFound)).trans ?_
          rw [hDelivered]
        have hAssembled : Assembled (delivered.lagRule cam q) t := State.assemble_assembled _
        have hLagged := State.lagAll_of_not_mem (q := q) (delivered.ing.otherCameras cam)
          (fun h => (Ingest.mem_otherCameras.1 h).2 rfl) delivered
        obtain ⟨_, hLagCols, hLagPos⟩ := State.lagAll_frame (q := q) (delivered.ing.otherCameras cam) delivered
        have hFrom : Steady s delivered := hSteady.modIng (f := fun _ => delivered.ing)
        have hTo : Steady delivered t :=
          (Steady.foldl (fun _ _ k => k.declareLost) (delivered.ing.otherCameras cam) (Steady.refl delivered)).assemble
        have hPath : t.path = s.path := hTo.path.trans hFrom.path
        refine ⟨fun hFree => ?_, fun w hHeld hFree => ?_, ?_, fun hIs hClear => hTo.flags 7 (hFlood hIs hClear),
          (hAssembled.pos.trans hLagPos).trans hPos, hPath, hAssembled.cols.trans hLagCols,
          congrArg CmdProc.binding (hTo.cp.trans hFrom.cp)⟩
        · rw [hRun, State.reofferFor_none (u := t) (by rw [hPath]; exact hFree)]
        · obtain ⟨x, ws, hHold, hCapture, hWrites, hCam⟩ := hHeld
          rw [hRun, State.reofferFor_held (u := t) (hPath ▸ hHold) hCapture (hPath ▸ hWrites) hCam hFree]
        · rw [hAssembled.cams]
          exact hLagged.1.trans (Vector.getElem_set_self cam.isLt)
  case lag =>
    intro t
    obtain ⟨hLines, _, _⟩ := State.lagAll_frame (q := q) (s.ing.otherCameras cam) s
    refine ⟨?_, fun hEnable => ?_, fun hOff => ?_, hLines⟩
    · exact (State.lagAll_of_not_mem (q := q) _ (fun h => (Ingest.mem_otherCameras.1 h).2 rfl) s).1
    · obtain ⟨hLost, hGone, hEvent⟩ := State.lagAll_of_mem (q := q) _ (s.ing.otherCameras_nodup cam)
        (Ingest.mem_otherCameras.2 ⟨hEnable, hNe⟩) s
      rw [Ingest.pendingIn_lagging]
      refine ⟨hLost, fun p hp k hk hBehind hPending => ?_, hEvent⟩
      have hZero := Ingest.lostCount_eq_zero.1 hGone p hp
      exact absurd (Pulse.pendingFor_iff.2 ⟨hPending, k, hk, decide_eq_true hBehind⟩) (by rw [hZero]; decide)
    · refine (State.lagAll_of_not_mem (q := q) _ (fun h => ?_) s).1
      rw [(Ingest.mem_otherCameras.1 h).1] at hOff
      cases hOff

end Sys2Proof.Machine
end
section
/-! PROOFS. An advance of the time of day (R17): the clock, the terminals that it samples, and what follows from them. -/

set_option Elab.async false

namespace Sys2Proof.Machine

/-! ## The inputs of functions -/

theorem Position.inputOf_iff {p : Position} {f : TermFn} :
    p.inputOf f = true ↔ ∃ j : Fin 6, p.terms[j].fn = f ∧ p.terms[j].inputActive = true := by
  unfold Position.inputOf
  rw [List.any_eq_true]
  constructor
  · rintro ⟨t, ht, hActive⟩
    obtain ⟨j, hj, rfl⟩ := Vector.mem_iff_getElem.1 (Vector.mem_toList_iff.1 ht)
    exact ⟨⟨j, hj⟩, by simpa using hActive⟩
  · rintro ⟨j, hFn, hActive⟩
    exact ⟨p.terms[j], Vector.mem_toList_iff.2 (Vector.getElem_mem j.isLt), by simp only [hFn, hActive]; decide⟩

/-- An input depends on the functions of the terminals and on their levels. -/
theorem Position.inputOf_congr {p q : Position} (h : ∀ j : Fin 6, p.terms[j].fn = q.terms[j].fn
    ∧ p.terms[j].inputActive = q.terms[j].inputActive) (f : TermFn) : p.inputOf f = q.inputOf f := by
  refine Bool.eq_iff_iff.2 (Position.inputOf_iff.trans (Iff.trans ?_ Position.inputOf_iff.symm))
  refine exists_congr fun j => ?_
  rw [(h j).1, (h j).2]

/-! ## The reports and the rows -/

/-- The pending report and the close that waits behind it. -/
def State.reports (s : State) : ReportSlot × Option CloseCause := (s.tally.slot, s.tally.deferred)

theorem State.reports_of_tally {s t : State} (h : t.tally = s.tally) : t.reports = s.reports := by
  unfold State.reports
  rw [h]

/-- No row waits to be committed. -/
def Planner.Settled (p : Planner) : Prop := ∀ r ∈ p.rows, r.state ≠ .planned ∧ r.state ≠ .sealed

/-! ## Planning leaves the tallies -/

section
variable (s : State) (i : Fin 2) (c : Campaign) (x : Nat)

theorem State.layOpening_tally (o : Opening) : (s.layOpening o i c).tally = s.tally := by
  unfold State.layOpening
  dsimp only
  split
  · split
    · split <;> rfl
    · rfl
  · split <;> rfl

theorem State.layGap_tally : (s.layGap i c x).tally = s.tally := by
  unfold State.layGap
  exact State.raise_tally ..

theorem State.layPlateRow_tally : (s.layPlateRow i c x).tally = s.tally := by
  unfold State.layPlateRow
  split <;> rfl

theorem State.layFromExtent_tally (fuel : Nat) : (State.layFromExtent i c fuel s).tally = s.tally := by
  induction fuel generalizing s with
  | zero => rfl
  | succ fuel ih =>
    unfold State.layFromExtent
    split
    · rfl
    · split
      · split
        · exact (ih _).trans (State.layGap_tally ..)
        · exact State.layPlateRow_tally ..
      · rfl

theorem State.layLoop_tally (fuel : Nat) : (State.layLoop fuel s).tally = s.tally := by
  induction fuel generalizing s with
  | zero => rfl
  | succ fuel ih =>
    unfold State.layLoop
    split
    · rfl
    · split
      · rfl
      · split
        · exact (ih _).trans (State.layOpening_tally ..)
        · split
          · exact (ih _).trans (State.layFromExtent_tally ..)
          · rfl
        · rfl

theorem State.planClear_tally : s.planClear.tally = s.tally := by
  unfold State.planClear
  split
  · exact State.layLoop_tally _ _
  · rfl

end

/-! ## What readiness leaves -/

/-- The pending report stands, and no row comes to wait to be committed. -/
structure Follows (s t : State) : Prop where
  reports : t.reports = s.reports
  settled : s.plan.Settled → t.plan.Settled

theorem Planner.Settled.recorded {p : Planner} (h : p.Settled) (num : Idx) (res : Resolution) : (p.recorded num res).Settled := by
  intro r hr
  obtain ⟨r', hr', rfl⟩ := List.mem_map.1 hr
  obtain ⟨q, hq, rfl⟩ := List.mem_map.1 hr'
  unfold Row.cutTest
  split
  · exact ⟨by simp, by simp⟩
  · exact h q hq

namespace Follows

variable {s t : State}

theorem refl (s : State) : Follows s s := ⟨rfl, id⟩

theorem of_parts (hTally : t.tally = s.tally) (hPlan : t.plan = s.plan) : Follows s t :=
  ⟨State.reports_of_tally hTally, fun h => hPlan ▸ h⟩

theorem trans {u : State} (h : Follows s t) (k : Follows t u) : Follows s u :=
  ⟨k.reports.trans h.reports, fun hs => k.settled (h.settled hs)⟩

theorem missCut (h : Follows s t) {num : Idx} {cause : MissCause} {reason : Nat} : Follows s (t.missCut num cause reason) := by
  refine h.trans ⟨?_, fun hs => ?_⟩
  · unfold State.missCut State.reportMissed
    dsimp only
    change ((State.raise _ _ _ _).tally.slot, (State.raise _ _ _ _).tally.deferred) = _
    rw [State.raise_tally, State.recordResolution_frame]
    rfl
  · rw [State.missCut_plan]
    exact hs.recorded num .missed

theorem missCuts (h : Follows s t) {nums : List Idx} {cause : MissCause} : Follows s (t.missCuts nums cause) := by
  induction nums using List.reverseRecOn with
  | nil => exact h
  | append_singleton ns n ih =>
    rw [State.missCuts_concat]
    exact ih.missCut

theorem settleLink (h : Follows s t) : Follows s t.settleLink := by
  have hFrame := State.settleLink_frame t
  exact h.trans (of_parts (congrArg (·.tally) hFrame) (congrArg (·.plan) hFrame))

theorem readinessRose (h : Follows s t) : Follows s t.readinessRose := by
  let u := t.modLink (fun l => { l with notReady := false })
  have hMisses : Follows s (u.missCuts (t.pastCutter.map (·.num)) .notReady) :=
    (h.trans (of_parts (t := u) rfl rfl)).missCuts
  have hRequest := State.requestLanes_frame (u.missCuts (t.pastCutter.map (·.num)) .notReady)
  exact (hMisses.trans (of_parts (congrArg (·.tally) hRequest) (congrArg (·.plan) hRequest))).settleLink

theorem readinessFell (h : Follows s t) : Follows s t.readinessFell := by
  let back := (t.link.cuts.filter (fun c => t.link.txq.any (fun f => f.isCut c.num))).map (·.num)
  let v := back.foldl (fun s n => s.heldUnsent n) (t.modLink Link.fellBack)
  have hHeld : v = _ := State.heldUnsents_frame back (t.modLink Link.fellBack)
  have hFilled := (State.fillQueue_filled v).same
  exact h.trans ((of_parts (congrArg (·.tally) hHeld) (congrArg (·.plan) hHeld)).trans
    (of_parts (congrArg (·.tally) hFilled) (congrArg (·.plan) hFilled)))

theorem judgeReadiness (h : Follows s t) {old : Bool} : Follows s (t.judgeReadiness old) := by
  unfold State.judgeReadiness
  split
  · exact h.readinessFell
  · exact h.readinessRose
  · exact h

theorem followPark (h : Follows s t) {cause : Nat} : Follows s (t.followPark cause) := by
  unfold State.followPark
  dsimp only
  split
  · exact h
  · split
    · exact h.trans (of_parts (State.raise_tally ..) (State.raise_plan ..))
    · exact h.trans (of_parts (State.raise_tally ..) (State.raise_plan ..))

end Follows

/-! ## The break (R10, R117) -/

theorem Planner.rows_tidyCarried (p : Planner) : p.tidyCarried.rows = p.rows := by
  unfold Planner.tidyCarried
  split <;> rfl

theorem Planner.rows_discard (q : Row → Bool) (p : Planner) : (p.discard q).rows = p.rows.filter (fun r => !q r) := by
  unfold Planner.discard
  exact Planner.rows_tidyCarried _

theorem Planner.discard_settled (p : Planner) : (p.discard Row.uncommitted).Settled := by
  intro r hr
  rw [Planner.rows_discard] at hr
  have hNot := (List.mem_filter.1 hr).2
  simpa [Row.uncommitted] using hNot

/-- What follows from the input IN_RIBBON_BREAK. -/
theorem State.followBreak_parts (s : State) :
    s.followBreak.reports = s.reports
    ∧ (s.followBreak.pos.broken ≠ s.pos.broken → s.followBreak.ev.pending.getLsbD 16 = true)
    ∧ (s.followBreak.pos.broken = true → (s.pos.broken = true → s.plan.Settled) → s.followBreak.plan.Settled) := by
  let b := s.pos.inputOf .inRibbonBreak
  let u := (s.modPos (fun p => { p with broken := b })).raise .ribbonBreak s.pos.line (mark b)
  have hTally : u.tally = s.tally := State.raise_tally ..
  have hEvent : u.ev.pending.getLsbD 16 = true := State.raise_sets .ribbonBreak _ _ _
  by_cases hSame : b = s.pos.broken
  · have hStays : s.followBreak = s := if_pos hSame
    rw [hStays]
    exact ⟨rfl, fun h => absurd rfl h, fun hBroken hSettled => hSettled hBroken⟩
  · cases hb : b with
    | true =>
      have hBreaks : s.followBreak = u.planBreak := (if_neg hSame).trans (if_pos hb)
      rw [hBreaks]
      exact ⟨State.reports_of_tally hTally, fun _ => (Works.refl u).planBreak.flags 16 hEvent,
        fun _ _ => Planner.discard_settled _⟩
    | false =>
      have hPos : s.followBreak.pos.broken = false := (congrArg Position.broken (State.followBreak_pos s)).trans hb
      have hClears : s.followBreak = if u.planClear.pos.parked then u.planClear else u.planClear.startLearning :=
        (if_neg hSame).trans (if_neg (by rw [show s.pos.inputOf .inRibbonBreak = b from rfl, hb]; exact Bool.false_ne_true))
      have hEnd : ∀ v : State, (v = u.planClear ∨ v = u.planClear.startLearning) →
          v.reports = s.reports ∧ v.ev.pending.getLsbD 16 = true := fun v hv => by
        have hFlag := (Works.refl u).planClear.flags 16 hEvent
        have hSame := State.reports_of_tally ((State.planClear_tally u).trans hTally)
        rcases hv with rfl | rfl
        · exact ⟨hSame, hFlag⟩
        · exact ⟨hSame, hFlag⟩
      obtain ⟨hReports, hFlag⟩ := hEnd s.followBreak (by rw [hClears]; split <;> simp)
      exact ⟨hReports, fun _ => hFlag, fun hBroken => absurd hBroken (by rw [hPos]; exact Bool.false_ne_true)⟩

/-! ## Shift closes -/

/-- A shift has closed since a state, or waits to close. -/
def State.ShiftCloses (s t : State) : Prop :=
  (s.tally.reportInFlight = false → t.ev.pending.getLsbD 27 = true)
    ∧ (s.tally.reportInFlight = true → t.tally.deferred ≠ none)

/-- A close that waits goes on waiting while the report is in flight. -/
structure Waits (s t : State) : Prop where
  inFlight : t.tally.reportInFlight = s.tally.reportInFlight
  deferred : s.tally.deferred ≠ none → t.tally.deferred ≠ none

theorem Tally.reportInFlight_placed (r : Report) (t : Tally) : (t.placed r).reportInFlight = t.reportInFlight ∧
    (t.placed r).deferred = t.deferred := by
  cases h : t.slot with
  | empty =>
    rw [Tally.placed_empty h, Tally.reportInFlight, Tally.reportInFlight, h]
    exact ⟨rfl, rfl⟩
  | waiting w =>
    rw [Tally.placed_waiting h, Tally.reportInFlight, Tally.reportInFlight, h]
    exact ⟨rfl, rfl⟩
  | inFlight p x => rw [Tally.placed_inFlight h]; exact ⟨rfl, rfl⟩

namespace Waits

variable {s t u : State}

theorem refl (s : State) : Waits s s := ⟨rfl, id⟩

theorem trans (h : Waits s t) (k : Waits t u) : Waits s u :=
  ⟨k.inFlight.trans h.inFlight, fun hs => k.deferred (h.deferred hs)⟩

theorem of_reports (h : t.reports = s.reports) : Waits s t := by
  obtain ⟨hSlot, hDeferred⟩ := Prod.mk.inj h
  refine ⟨?_, fun hs => hDeferred ▸ hs⟩
  unfold Tally.reportInFlight
  rw [hSlot]

theorem closeShift (h : Waits s t) {cause : CloseCause} : Waits s (t.closeShift cause) := by
  refine h.trans ?_
  cases hBusy : t.tally.reportInFlight with
  | true =>
    rw [State.closeShift_deferred hBusy]
    exact ⟨rfl, fun _ => Option.some_ne_none _⟩
  | false =>
    obtain ⟨hIn, hDeferred⟩ := Tally.reportInFlight_placed (t.buildReport cause) t.tally
    rw [State.closeShift_performed hBusy]
    refine ⟨?_, fun hs => ?_⟩
    · rw [State.performClose_tally]
      exact hIn
    · rw [State.performClose_tally]
      change (t.tally.placed (t.buildReport cause)).deferred ≠ none
      rwa [hDeferred]

end Waits

theorem State.closeShift_planner (cause : CloseCause) (s : State) : (s.closeShift cause).plan = s.plan := by
  have hPlaced : ∀ r, (s.placeReport r).plan = s.plan := fun r => by
    unfold State.placeReport
    split
    · rfl
    · exact State.raise_plan ..
    · rfl
  unfold State.closeShift
  split
  · rfl
  · exact (State.raise_plan ..).trans (hPlaced _)

theorem State.closeShift_closes (cause : CloseCause) (s : State) : s.ShiftCloses (s.closeShift cause) := by
  refine ⟨fun hFree => ?_, fun hBusy => ?_⟩
  · rw [State.closeShift_performed hFree]
    exact State.performClose_raises cause s
  · rw [State.closeShift_deferred hBusy]
    exact Option.some_ne_none _

theorem State.ShiftCloses.trans {s t u : State} (h : s.ShiftCloses t) (k : Waits t u) (hFlags : Steady t u) : s.ShiftCloses u :=
  ⟨fun hFree => hFlags.flags 27 (h.1 hFree), fun hBusy => k.deferred (h.2 hBusy)⟩

theorem State.ShiftCloses.of_waits {s t u : State} (h : Waits s t) (k : t.ShiftCloses u) : s.ShiftCloses u := by
  unfold State.ShiftCloses at k ⊢
  rwa [h.inFlight] at k

/-! ## The sample of one terminal (R11, R13) -/

/-- A terminal after a sample of its level. -/
def Terminal.sampled (level : Bool) (x : Terminal) : Terminal :=
  { x with sample := some level, filtered := if x.sample = some level then levelOf level else x.filtered }

/-- What the sample of one terminal does. -/
structure Sampled (pins : BitVec 6) (i : Fin 6) (s t : State) : Prop where
  steady : Steady s t
  waits : Waits s t
  pos : t.pos = { s.pos with
    terms := t.pos.terms, broken := t.pos.broken, parked := t.pos.parked, parkTriggers := t.pos.parkTriggers }
  others : ∀ j : Fin 6, j ≠ i → t.pos.terms[j] = s.pos.terms[j]
  input : s.pos.terms[i].fn.isInput = true → t.pos.terms[i] = s.pos.terms[i].sampled (pins.getLsbD i)
  kind : t.pos.terms[i].fn = s.pos.terms[i].fn ∧ t.pos.terms[i].activeLow = s.pos.terms[i].activeLow
    ∧ t.pos.terms[i].genActive = s.pos.terms[i].genActive
  change : s.pos.terms[i].fn.isInput = true → s.pos.terms[i].filtered ≠ .undetermined →
    t.pos.terms[i].filtered ≠ s.pos.terms[i].filtered → t.ev.pending.getLsbD 29 = true
  breakFollows : s.pos.broken = s.pos.inputOf .inRibbonBreak → t.pos.broken = t.pos.inputOf .inRibbonBreak
  breakEvent : t.pos.broken ≠ s.pos.broken → t.ev.pending.getLsbD 16 = true
  breakRows : t.pos.broken = true → (s.pos.broken = true → s.plan.Settled) → t.plan.Settled
  parkFollows : s.pos.parked = s.pos.parkInput → t.pos.parked = t.pos.parkInput
  shift : s.pos.inputOf .inShiftMark = false → t.pos.inputOf .inShiftMark = true → s.ShiftCloses t

section
variable (pins : BitVec 6) (i : Fin 6) (s : State)

theorem State.modTerm_term (f : Terminal → Terminal) : (s.modTerm i f).pos.terms[i] = f s.pos.terms[i] :=
  upd_getElem_self _ _ _

theorem State.modTerm_others (f : Terminal → Terminal) (j : Fin 6) (h : j ≠ i) :
    (s.modTerm i f).pos.terms[j] = s.pos.terms[j] := upd_getElem_of_ne _ _ (Ne.symm h)

/-- A sample that changes no level. -/
theorem State.sampled_keeps (level : Bool) (hLevel : s.pos.terms[i].fn.isInput = true → level = pins.getLsbD i)
    (hKeep : ¬ (s.pos.terms[i].sample = some level ∧ s.pos.terms[i].filtered ≠ levelOf level)) :
    Sampled pins i s (s.modTerm i (fun x => { x with sample := some level })) := by
  let f : Terminal → Terminal := fun x => { x with sample := some level }
  have hOwn := State.modTerm_term i s f
  have hInput : ∀ fn, (s.modTerm i f).pos.inputOf fn = s.pos.inputOf fn := Position.inputOf_congr fun j => by
    by_cases hj : j = i
    · subst hj
      rw [hOwn]
      exact ⟨rfl, rfl⟩
    · rw [State.modTerm_others i s f j hj]
      exact ⟨rfl, rfl⟩
  refine ⟨(Steady.refl s).modTerm, ⟨rfl, id⟩, rfl, State.modTerm_others i s f, fun hIn => ?_, ?_, fun _ _ hNe => ?_,
    fun h => ?_, fun h => absurd rfl h, fun hBroken hRows => hRows hBroken, fun h => ?_, fun hOff hOn => ?_⟩
  · rw [hOwn, ← hLevel hIn]
    refine congrArg (fun x => ({ s.pos.terms[i] with sample := some level, filtered := x } : Terminal)) ?_
    split
    next hSame => exact not_not.1 fun hNe => hKeep ⟨hSame, hNe⟩
    next => rfl
  · rw [hOwn]
    exact ⟨rfl, rfl, rfl⟩
  · rw [hOwn] at hNe
    exact absurd rfl hNe
  · rw [hInput]
    exact h
  · change s.pos.parked = (s.pos.parkCmd || (s.modTerm i f).pos.inputOf .inGantryParked)
    rw [hInput]
    exact h
  · rw [hInput, hOff] at hOn
    cases hOn

/-- What follows from a terminal that changed. -/
theorem State.follow_parts (oldReady oldShift : Bool) :
    let t := s.follow oldReady oldShift
    Waits s t ∧ (t.pos.broken ≠ s.pos.broken → t.ev.pending.getLsbD 16 = true)
    ∧ (t.pos.broken = true → (s.pos.broken = true → s.plan.Settled) → t.plan.Settled)
    ∧ (oldShift = false → t.pos.inputOf .inShiftMark = true → s.ShiftCloses t) := by
  intro t
  let u := (s.followBreak.followPark 1).judgeReadiness oldReady
  obtain ⟨hReports, hEvent, hRows⟩ := State.followBreak_parts s
  have hAfter : Follows s.followBreak u := (Follows.refl s.followBreak).followPark.judgeReadiness
  have hSteady : Steady s.followBreak u := (Steady.refl s.followBreak).followPark.judgeReadiness
  have hWaits : Waits s u := Waits.of_reports (hAfter.reports.trans hReports)
  have hBroken : u.pos.broken = s.followBreak.pos.broken := by
    rw [State.judgeReadiness_pos, State.followPark_pos]
  have hu : (u.pos.broken ≠ s.pos.broken → u.ev.pending.getLsbD 16 = true)
      ∧ (u.pos.broken = true → (s.pos.broken = true → s.plan.Settled) → u.plan.Settled) := by
    rw [hBroken]
    exact ⟨fun h => hSteady.flags 16 (hEvent h), fun h hs => hAfter.settled (hRows h hs)⟩
  by_cases hMark : (!oldShift && u.pos.inputOf .inShiftMark) = true
  · have ht : t = u.closeShift .terminal := if_pos hMark
    have hPlan : (u.closeShift .terminal).plan = u.plan := State.closeShift_planner _ _
    rw [ht, State.closeShift_pos, hPlan]
    exact ⟨hWaits.closeShift, fun h => (Steady.refl u).closeShift.flags 16 (hu.1 h), hu.2,
      fun _ _ => (State.closeShift_closes .terminal u).of_waits hWaits⟩
  · have ht : t = u := if_neg hMark
    rw [ht]
    exact ⟨hWaits, hu.1, hu.2, fun hOld hNew => absurd (by rw [hOld, hNew]; rfl) hMark⟩

/-- A sample that changes the level of a terminal. -/
theorem State.sampled_changes (level : Bool) (hLevel : s.pos.terms[i].fn.isInput = true → level = pins.getLsbD i)
    (hSame : s.pos.terms[i].sample = some level) :
    Sampled pins i s (s.changeTerm i (fun x => { x with sample := some level, filtered := levelOf level })
      (State.termEvent i s.pos.terms[i])) := by
  let f : Terminal → Terminal := fun x => { x with sample := some level, filtered := levelOf level }
  let u := State.termEvent i s.pos.terms[i] (s.modTerm i f)
  let t := u.follow s.readiness (s.pos.inputOf .inShiftMark)
  have hPos : u.pos = (s.modTerm i f).pos := State.termEvent_pos _ _ _
  have hEnd : t.pos = u.pos.followed := State.follow_pos _ _ _
  have hOwn : t.pos.terms[i] = f s.pos.terms[i] := by
    rw [hEnd, hPos]
    exact State.modTerm_term i s f
  obtain ⟨hWaits, hBreak, hRows, hShift⟩ := State.follow_parts u s.readiness (s.pos.inputOf .inShiftMark)
  have hRaised := (Works.refl (s.modTerm i f)).raiseIf
    (c := s.pos.terms[i].fn.isInput && s.pos.terms[i].filtered != .undetermined) (k := .terminalChange) (a := i.val)
    (b := mark ((s.modTerm i f).pos.terms[i]).inputActive)
  have hTally : u.tally = s.tally := congrArg (·.tally) (State.raiseIf_frame (s.modTerm i f) _ _ _ _)
  have hPlan : u.plan = s.plan := congrArg (·.plan) (State.raiseIf_frame (s.modTerm i f) _ _ _ _)
  have hFirst : Waits s u := Waits.of_reports (State.reports_of_tally hTally)
  have hOldBroken : u.pos.broken = s.pos.broken := (congrArg Position.broken hPos :)
  change Sampled pins i s t
  refine ⟨(Steady.refl s).changeTerm fun _ k => k.raiseIf, hFirst.trans hWaits, ?_, fun j hj => ?_, fun hIn => ?_, ?_,
    fun hIn hKnown _ => ?_, fun _ => ?_, fun h => ?_, fun hBroken hSettled => ?_, fun _ => ?_, fun hOff hOn => ?_⟩
  · rw [hEnd, hPos]
    rfl
  · rw [hEnd, hPos]
    exact State.modTerm_others i s f j hj
  · rw [hOwn, ← hLevel hIn, Terminal.sampled, if_pos hSame]
  · rw [hOwn]
    exact ⟨rfl, rfl, rfl⟩
  · refine (Steady.refl u).follow.flags 29 ?_
    have hRaise : u = (s.modTerm i f).raise .terminalChange i.val (mark ((s.modTerm i f).pos.terms[i]).inputActive) :=
      if_pos (by rw [hIn]; simpa using hKnown)
    rw [hRaise]
    exact State.raise_sets .terminalChange _ _ _
  · rw [hEnd]
    rfl
  · exact hBreak (hOldBroken ▸ h)
  · exact hRows hBroken fun hOld => hPlan ▸ hSettled (hOldBroken ▸ hOld)
  · rw [hEnd]
    rfl
  · exact (hShift hOff hOn).of_waits hFirst

theorem State.sampleTerm_sampled : Sampled pins i s (s.sampleTerm pins i) := by
  have hLevel : s.pos.terms[i].fn.isInput = true → s.pinLevel s.pos.terms[i] (pins.getLsbD i) = pins.getLsbD i :=
    fun hIn => if_pos hIn
  unfold State.sampleTerm
  dsimp only
  split
  next hChange => exact State.sampled_changes pins i s _ hLevel hChange.1
  next hKeep => exact State.sampled_keeps pins i s _ hLevel hKeep

end

/-! ## The samples of all terminals -/

/-- What the samples of a list of terminals do, one after the other. -/
structure SampledAll (pins : BitVec 6) (l : List (Fin 6)) (s t : State) : Prop where
  steady : Steady s t
  waits : Waits s t
  pos : t.pos = { s.pos with
    terms := t.pos.terms, broken := t.pos.broken, parked := t.pos.parked, parkTriggers := t.pos.parkTriggers }
  others : ∀ j : Fin 6, j ∉ l → t.pos.terms[j] = s.pos.terms[j]
  input : ∀ j ∈ l, s.pos.terms[j].fn.isInput = true → t.pos.terms[j] = s.pos.terms[j].sampled (pins.getLsbD j)
  kind : ∀ j : Fin 6, t.pos.terms[j].fn = s.pos.terms[j].fn ∧ t.pos.terms[j].activeLow = s.pos.terms[j].activeLow
    ∧ t.pos.terms[j].genActive = s.pos.terms[j].genActive
  change : ∀ j : Fin 6, s.pos.terms[j].fn.isInput = true → s.pos.terms[j].filtered ≠ .undetermined →
    t.pos.terms[j].filtered ≠ s.pos.terms[j].filtered → t.ev.pending.getLsbD 29 = true
  breakFollows : s.pos.broken = s.pos.inputOf .inRibbonBreak → t.pos.broken = t.pos.inputOf .inRibbonBreak
  breakEvent : t.pos.broken ≠ s.pos.broken → t.ev.pending.getLsbD 16 = true
  breakRows : t.pos.broken = true → (s.pos.broken = true → s.plan.Settled) → t.plan.Settled
  parkFollows : s.pos.parked = s.pos.parkInput → t.pos.parked = t.pos.parkInput
  shift : s.pos.inputOf .inShiftMark = false → t.pos.inputOf .inShiftMark = true → s.ShiftCloses t

theorem SampledAll.nil (pins : BitVec 6) (s : State) : SampledAll pins [] s s where
  steady := Steady.refl s
  waits := Waits.refl s
  pos := rfl
  others _ _ := rfl
  input _ h := absurd h List.not_mem_nil
  kind _ := ⟨rfl, rfl, rfl⟩
  change _ _ _ h := absurd rfl h
  breakFollows h := h
  breakEvent h := absurd rfl h
  breakRows hBroken hRows := hRows hBroken
  parkFollows h := h
  shift hOff hOn := absurd (hOff.symm.trans hOn) (by decide)

theorem SampledAll.cons {pins : BitVec 6} {i : Fin 6} {l : List (Fin 6)} {s u t : State} (h : Sampled pins i s u)
    (hi : i ∉ l) (k : SampledAll pins l u t) : SampledAll pins (i :: l) s t where
  steady := h.steady.trans k.steady
  waits := h.waits.trans k.waits
  pos := by
    rw [k.pos, h.pos]
  others j hj := by
    obtain ⟨hNe, hOut⟩ := not_or.1 (mt List.mem_cons.2 hj)
    exact (k.others j hOut).trans (h.others j hNe)
  input j hj hIn := by
    by_cases hji : j = i
    · subst hji
      exact (k.others j hi).trans (h.input hIn)
    · have hSame := h.others j hji
      have hLater := k.input j ((List.mem_cons.1 hj).resolve_left hji)
      rw [hSame] at hLater
      exact hLater hIn
  kind j := by
    obtain ⟨hFn, hLow, hGen⟩ := k.kind j
    by_cases hji : j = i
    · subst hji
      obtain ⟨hFn', hLow', hGen'⟩ := h.kind
      exact ⟨hFn.trans hFn', hLow.trans hLow', hGen.trans hGen'⟩
    · rw [h.others j hji] at hFn hLow hGen
      exact ⟨hFn, hLow, hGen⟩
  change j hIn hKnown hNe := by
    by_cases hji : j = i
    · subst hji
      rw [k.others j hi] at hNe
      exact k.steady.flags 29 (h.change hIn hKnown hNe)
    · have hLater := k.change j
      rw [h.others j hji] at hLater
      exact hLater hIn hKnown hNe
  breakFollows hs := k.breakFollows (h.breakFollows hs)
  breakEvent hNe := by
    by_cases hStep : u.pos.broken = s.pos.broken
    · exact k.breakEvent (hStep ▸ hNe)
    · exact k.steady.flags 16 (h.breakEvent hStep)
  breakRows hBroken hRows := k.breakRows hBroken fun hStep => h.breakRows hStep hRows
  parkFollows hs := k.parkFollows (h.parkFollows hs)
  shift hOff hOn := by
    cases hStep : u.pos.inputOf .inShiftMark with
    | true => exact (h.shift hOff hStep).trans k.waits k.steady
    | false => exact (k.shift hStep hOn).of_waits h.waits

theorem State.sampleList_sampled (pins : BitVec 6) (l : List (Fin 6)) (hNodup : l.Nodup) (s : State) :
    SampledAll pins l s (l.foldl (State.sampleTerm pins) s) := by
  induction l generalizing s with
  | nil => exact SampledAll.nil pins s
  | cons i l ih =>
    obtain ⟨hOut, hRest⟩ := List.nodup_cons.1 hNodup
    exact SampledAll.cons (State.sampleTerm_sampled pins i s) hOut (ih hRest _)

theorem State.sampleAll_sampled (pins : BitVec 6) (s : State) : SampledAll pins (List.finRange 6) s (s.sampleAll pins) :=
  State.sampleList_sampled pins _ (List.nodup_finRange 6) s

/-! ## The clock -/

/-- The part after the clock advanced and the stall timer counted. -/
def State.clocked (s : State) : State :=
  (if s.ready then (s.modPos Position.advance).modPos Position.countStall else s.modPos Position.advance).countAckTimers

theorem State.advanceTime_eq (pins : BitVec 6) (s : State) : s.advanceTime pins = s.clocked.boundaryTest.sampleAll pins := rfl

theorem State.clocked_tally (s : State) : s.clocked.tally = s.tally := by
  unfold State.clocked
  split <;> rfl

theorem Position.advance_eq (p : Position) (h : p.tod < 86400000) : p.advance =
    { p with ticks := 0, tod := if p.tod = 86399999 then 0 else p.tod + 1,
             day := if p.tod = 86399999 then p.day + 1 else p.day } := by
  unfold Position.advance
  by_cases hLast : p.tod = 86399999
  · have hWraps : Config.dayMs ≤ p.tod + 1 := by
      change 86400000 ≤ p.tod + 1
      omega
    rw [if_pos hWraps, if_pos hLast, if_pos hLast]
  · have hStays : ¬ Config.dayMs ≤ p.tod + 1 := by
      change ¬ 86400000 ≤ p.tod + 1
      omega
    rw [if_neg hStays, if_neg hLast, if_neg hLast]

theorem State.clocked_pos (s : State) (h : s.pos.tod < 86400000) : s.clocked.pos =
    { s.pos with
      ticks := 0, tod := if s.pos.tod = 86399999 then 0 else s.pos.tod + 1,
      day := if s.pos.tod = 86399999 then s.pos.day + 1 else s.pos.day,
      stallTimer := if s.cp.binding = .ready then
          (if s.pos.stallRunning then min s.pos.stallTimeout (s.pos.stallTimer + 1) else s.pos.stallTimer)
        else s.pos.stallTimer,
      timeStalled := if s.cp.binding = .ready then (if s.pos.run = .stalled then inc32 s.pos.timeStalled else s.pos.timeStalled)
        else s.pos.timeStalled } := by
  unfold State.clocked
  by_cases hReady : s.cp.binding = .ready
  · rw [if_pos (show s.ready = true from decide_eq_true hReady), if_pos hReady, if_pos hReady]
    change (s.pos.advance).countStall = _
    rw [Position.advance_eq _ h]
    rfl
  · rw [if_neg (show ¬ s.ready = true from fun h => hReady (of_decide_eq_true h)), if_neg hReady, if_neg hReady]
    exact Position.advance_eq _ h

/-- A boundary of the shift plan leaves the planner, and a close that waits goes on waiting. -/
theorem State.boundaryTest_parts (s : State) : Waits s s.boundaryTest ∧ s.boundaryTest.plan = s.plan := by
  unfold State.boundaryTest
  split
  · exact ⟨(Waits.refl s).closeShift, State.closeShift_planner _ _⟩
  · exact ⟨Waits.refl s, rfl⟩

/-- Settles O18. -/
theorem timeOfDayAdvances : Obligations.TimeOfDayAdvances := by
  intro pins s hTod
  let b := s.clocked.boundaryTest
  let t := b.sampleAll pins
  have hSampled : SampledAll pins (List.finRange 6) b t := State.sampleAll_sampled pins b
  have hBase : b.pos = s.clocked.pos := State.boundaryTest_pos _
  have hStart := hBase.trans (State.clocked_pos s hTod)
  have hPos := hSampled.pos
  obtain ⟨hWaits, hPlan⟩ := State.boundaryTest_parts s.clocked
  have hFirst : Waits s b := (Waits.of_reports (State.reports_of_tally (State.clocked_tally s))).trans hWaits
  have hTerms : b.pos.terms = s.pos.terms := (congrArg Position.terms hStart :)
  have hInput : ∀ f, b.pos.inputOf f = s.pos.inputOf f := fun f => by
    unfold Position.inputOf
    rw [hTerms]
  have hBroken : b.pos.broken = s.pos.broken := (congrArg Position.broken hStart :)
  have hReads : ∀ {α : Type} (g : Position → α), g t.pos = g { b.pos with
      terms := t.pos.terms, broken := t.pos.broken, parked := t.pos.parked, parkTriggers := t.pos.parkTriggers } :=
    fun g => congrArg g hPos
  refine ⟨t, rfl, (hReads (·.tod)).trans (congrArg (·.tod) hStart), (hReads (·.day)).trans (congrArg (·.day) hStart),
    (hReads (·.ticks)).trans (congrArg (·.ticks) hStart), (hReads (·.line)).trans (congrArg (·.line) hStart),
    (hReads (·.phase)).trans (congrArg (·.phase) hStart), (hReads (·.run)).trans (congrArg (·.run) hStart),
    fun hReady => ⟨?_, ?_⟩, fun hUnready => ⟨?_, ?_⟩, fun i hIn => ⟨?_, fun hKnown hNe => ?_⟩, fun i => ?_, fun h => ?_,
    fun h => ?_, fun hWhole hBreaks => ?_, fun h => ?_, ?_, fun hOff hOn => ?_, fun hBoundary => ?_⟩
  · rw [hReads (·.stallTimer), hStart]
    exact if_pos hReady
  · rw [hReads (·.timeStalled), hStart]
    exact if_pos hReady
  · rw [hReads (·.stallTimer), hStart]
    exact if_neg hUnready
  · rw [hReads (·.timeStalled), hStart]
    exact if_neg hUnready
  · have hTerm := hSampled.input i (List.mem_finRange i)
    rw [hTerms] at hTerm
    exact hTerm hIn
  · have hChange := hSampled.change i
    rw [hTerms] at hChange
    exact hChange hIn hKnown hNe
  · have hKind := hSampled.kind i
    rwa [hTerms] at hKind
  · exact hSampled.breakFollows (by rw [hBroken, hInput]; exact h)
  · exact hSampled.breakEvent (by rw [hBroken]; exact Ne.symm h)
  · refine hSampled.breakRows hBreaks fun hOld => ?_
    rw [hBroken, hWhole] at hOld
    cases hOld
  · refine hSampled.parkFollows ?_
    rw [Position.parkInput, hInput, congrArg Position.parked hStart]
    exact h.trans (congrArg (· || _) (congrArg Position.parkCmd hStart).symm)
  · exact (hReads (·.parkCmd)).trans (congrArg (·.parkCmd) hStart)
  · exact (hSampled.shift (by rw [hInput]; exact hOff) hOn).of_waits hFirst
  · have hAt : ∃ x ∈ s.clocked.tally.plan, x * 1000 = s.clocked.pos.tod := by
      rw [State.clocked_tally, ← hBase, ← hReads (·.tod)]
      exact hBoundary
    have hCloses := State.closeShift_closes .boundary s.clocked
    rw [← State.boundaryTest_some hAt] at hCloses
    exact (hCloses.of_waits (Waits.of_reports (State.reports_of_tally (State.clocked_tally s)))).trans hSampled.waits
      hSampled.steady

end Sys2Proof.Machine
end
section
/-! PROOFS. Laying rows and the order commands (R94 to R97, R100 to R107). -/

set_option Elab.async false

namespace Sys2Proof.Machine

/-! ## The order book -/

/-- The order book but for its planned counts. -/
def Planner.book (p : Planner) : List Order := p.orders.map Order.unplanned

/-- A change that planning makes to an order is a change of its planned count. -/
theorem modOrder_unplanned {id : Nat} {f : Order → Order} (h : ∀ o, (f o).unplanned = o.unplanned) (os : List Order) :
    (modOrder id f os).map Order.unplanned = os.map Order.unplanned := by
  rw [modOrder, List.map_map]
  refine List.map_congr_left fun o _ => ?_
  simp only [Function.comp_apply]
  split
  · exact h o
  · rfl

theorem fillLanes_unplanned (length : Nat) (lanes : List Nat) (os : List Order) :
    (fillLanes length lanes os).2.map Order.unplanned = os.map Order.unplanned := by
  induction lanes generalizing os with
  | nil => rfl
  | cons i rest ih =>
    unfold fillLanes
    split
    · exact (ih _).trans (modOrder_unplanned (f := fun o => { o with planned := o.planned + 1 }) (fun _ => rfl) os)
    · exact ih os

/-- The lanes of a list that hold an order. -/
def lanesOf (id : Nat) (ls : List LanePlate) : Nat := (ls.filter (fun l => l.order = some id)).length

theorem lanesOf_cons (id : Nat) (l : LanePlate) (ls : List LanePlate) :
    lanesOf id (l :: ls) = (if l.order = some id then 1 else 0) + lanesOf id ls := by
  unfold lanesOf
  by_cases h : l.order = some id
  · rw [List.filter_cons_of_pos (by simpa using h), if_pos h, List.length_cons, Nat.add_comm]
  · rw [List.filter_cons_of_neg (by simpa using h), if_neg h, Nat.zero_add]

theorem unplan_eq (os : List Order) (l : LanePlate) :
    unplan os l = os.map (fun o => { o with planned := o.planned - if l.order = some o.id then 1 else 0 }) := by
  unfold unplan
  cases h : l.order with
  | none => simp
  | some id =>
    refine List.map_congr_left fun o _ => ?_
    by_cases hId : o.id = id
    · rw [if_pos hId, if_pos (congrArg some hId.symm)]
    · rw [if_neg hId, if_neg (fun h => hId (Option.some.inj h).symm)]
      rfl

theorem foldl_unplan (ls : List LanePlate) (os : List Order) :
    ls.foldl unplan os = os.map (fun o => { o with planned := o.planned - lanesOf o.id ls }) := by
  induction ls generalizing os with
  | nil => simp [lanesOf]
  | cons l ls ih =>
    rw [List.foldl_cons, ih, unplan_eq, List.map_map]
    refine List.map_congr_left fun o _ => ?_
    simp only [Function.comp_apply, lanesOf_cons, Nat.sub_sub]

/-! ## Discards (R100) -/

section
variable (q : Row → Bool) (p : Planner)

theorem Planner.tidyCarried_parts : p.tidyCarried = { p with carried := p.tidyCarried.carried } := by
  unfold Planner.tidyCarried
  split <;> rfl

theorem Planner.discard_orders : (p.discard q).orders = p.orders.map (fun o => { o with
    planned := o.planned - lanesOf o.id ((p.rows.filter q).flatMap (·.lanes)) }) := by
  rw [Planner.discard, Planner.tidyCarried_parts, ← foldl_unplan, List.foldl_flatMap]

theorem Planner.discard_book : (p.discard q).book = p.book := by
  rw [Planner.book, Planner.discard_orders, List.map_map]
  rfl

theorem Planner.discard_parts : (p.discard q).rows = p.rows.filter (fun r => !q r)
    ∧ (p.discard q).orders = p.orders.map (fun o => { o with
        planned := o.planned - lanesOf o.id ((p.rows.filter q).flatMap (·.lanes)) })
    ∧ (p.discard q).counters = { p.counters with
        discarded := satAdd Config.max32 p.counters.discarded (p.rows.filter q).length }
    ∧ (p.discard q).slots = p.slots ∧ (p.discard q).nextRow = p.nextRow ∧ (p.discard q).nextCut = p.nextCut := by
  refine ⟨Planner.rows_discard q p, Planner.discard_orders q p, ?_⟩
  rw [Planner.discard, Planner.tidyCarried_parts]
  exact ⟨rfl, rfl, rfl, rfl⟩

end

/-! ## What laying rows leaves -/

/-- Planned rows have been laid behind those that stood, and the planned counts have moved. -/
structure Lays (s t : State) : Prop where
  frame : t = { s with plan := t.plan, map := t.map, ev := t.ev, rings := t.rings }
  book : t.plan.book = s.plan.book
  slots : t.plan.slots = s.plan.slots
  more : ∃ more, t.plan.rows = s.plan.rows ++ more ∧ ∀ r ∈ more, r.state = .planned

namespace Lays

variable {s t u : State}

theorem refl (s : State) : Lays s s := ⟨rfl, rfl, rfl, [], (List.append_nil _).symm, fun _ h => absurd h List.not_mem_nil⟩

theorem trans (h : Lays s t) (k : Lays t u) : Lays s u := by
  obtain ⟨rows, hRows, hPlanned⟩ := h.more
  obtain ⟨rows', hRows', hPlanned'⟩ := k.more
  refine ⟨?_, k.book.trans h.book, k.slots.trans h.slots, rows ++ rows', ?_, List.forall_mem_append.2 ⟨hPlanned, hPlanned'⟩⟩
  · rw [k.frame, h.frame]
  · rw [hRows', hRows, List.append_assoc]

/-- A change of the planner that lays no row. -/
theorem modPlan (h : Lays s t) {f : Planner → Planner} (hBook : (f t.plan).book = t.plan.book)
    (hSlots : (f t.plan).slots = t.plan.slots) (hRows : (f t.plan).rows = t.plan.rows) : Lays s (t.modPlan f) :=
  h.trans ⟨rfl, hBook, hSlots, [], hRows.trans (List.append_nil _).symm, fun _ hr => absurd hr List.not_mem_nil⟩

theorem layRow (h : Lays s t) {kind : RowKind} {slot : Fin 2} {start stop : Nat} {lanes : List LanePlate} :
    Lays s (t.layRow kind slot start stop lanes) :=
  h.trans ⟨rfl, rfl, rfl, _, rfl, fun _ hr => (List.mem_singleton.1 hr) ▸ rfl⟩

theorem raise (h : Lays s t) {k : EventKind} {a b : Nat} : Lays s (t.raise k a b) := by
  have hFrame : t.raise k a b = _ := State.raise_frame
  have hPlan := State.raise_plan t k a b
  refine h.trans ⟨?_, congrArg Planner.book hPlan, congrArg Planner.slots hPlan, [], ?_, fun _ hr => absurd hr List.not_mem_nil⟩
  · rw [hFrame]
  · rw [hPlan, List.append_nil]

theorem giveRetire (h : Lays s t) : Lays s t.giveRetire :=
  h.trans ⟨rfl, rfl, rfl, [], (List.append_nil _).symm, fun _ hr => absurd hr List.not_mem_nil⟩

theorem layOpening (h : Lays s t) {o : Opening} {i : Fin 2} {c : Campaign} : Lays s (t.layOpening o i c) := by
  have hOpened : Lays s (t.modPlan (fun p => { p with opening := none })) := h.modPlan rfl rfl rfl
  unfold State.layOpening
  dsimp only
  split
  · split
    · split
      · exact hOpened.layRow
      · exact hOpened
    · exact hOpened.layRow
  · split
    · exact hOpened.layRow.giveRetire
    · exact hOpened.layRow.giveRetire

theorem layGap (h : Lays s t) {i : Fin 2} {c : Campaign} {x : Nat} : Lays s (t.layGap i c x) := by
  unfold State.layGap
  exact h.layRow.raise.modPlan rfl rfl rfl

theorem layPlateRow (h : Lays s t) {i : Fin 2} {c : Campaign} {x : Nat} : Lays s (t.layPlateRow i c x) := by
  unfold State.layPlateRow
  split
  next o _ =>
    have hFilled := fillLanes_unplanned o.length (List.range c.lanes.length) t.plan.orders
    exact (h.modPlan (f := fun p =>
      { p with orders := (fillLanes o.length (List.range c.lanes.length) t.plan.orders).2 }) hFilled rfl rfl).layRow
  next => exact h.layRow

theorem layFromExtent {i : Fin 2} {c : Campaign} (fuel : Nat) (h : Lays s t) : Lays s (State.layFromExtent i c fuel t) := by
  induction fuel generalizing t with
  | zero => exact h
  | succ fuel ih =>
    unfold State.layFromExtent
    split
    · exact h
    · split
      · split
        · exact ih h.layGap
        · exact h.layPlateRow
      · exact h

theorem layLoop (fuel : Nat) (h : Lays s t) : Lays s (State.layLoop fuel t) := by
  induction fuel generalizing t with
  | zero => exact h
  | succ fuel ih =>
    unfold State.layLoop
    split
    · exact h
    · split
      · exact h
      · split
        · exact ih h.layOpening
        · split
          · exact ih (h.layFromExtent _)
          · exact h
        · exact h

theorem runPlanning (h : Lays s t) : Lays s t.runPlanning := h.layLoop _

end Lays

/-! ## The ACTIVE campaign -/

theorem Planner.active_isSome {p : Planner} : p.active.isSome = true ↔ ∃ i c, p.active = some (i, c) := by
  rw [Option.isSome_iff_exists]
  exact ⟨fun ⟨⟨i, c⟩, h⟩ => ⟨i, c, h⟩, fun ⟨i, c, h⟩ => ⟨(i, c), h⟩⟩

/-! ## Replanning (R107) -/

/-- A PLANNED row that starts above the ribbon line number. -/
def State.ahead (s : State) (r : Row) : Bool := r.state = .planned && s.pos.line < r.start

theorem State.replan_idle {s : State} (h : ∀ i c, s.plan.active ≠ some (i, c)) : s.replan = s :=
  if_neg fun hSome => by
    obtain ⟨i, c, hActive⟩ := Planner.active_isSome.1 hSome
    exact h i c hActive

theorem State.replan_active {s : State} {i : Fin 2} {c : Campaign} (h : s.plan.active = some (i, c)) :
    s.replan = ((({ s with plan := s.plan.discard s.ahead } : State).runPlanning).giveRetire) :=
  if_pos (Planner.active_isSome.2 ⟨i, c, h⟩)

/-- What replanning leaves: the rows that stay are followed by planned ones. -/
theorem State.replan_lays {s : State} {i : Fin 2} {c : Campaign} (h : s.plan.active = some (i, c)) :
    Lays { s with plan := s.plan.discard s.ahead } s.replan := by
  rw [State.replan_active h]
  exact (Lays.refl _).runPlanning.giveRetire

/-- Replanning changes no order but for its planned count, no campaign, and nothing outside the planner, the Map Unit and
the events. -/
theorem State.replan_parts (s : State) : s.replan.plan.book = s.plan.book ∧ s.replan.plan.slots = s.plan.slots
    ∧ s.replan.pos = s.pos ∧ s.replan.ing = s.ing ∧ s.replan.cp = s.cp := by
  by_cases hActive : ∃ i c, s.plan.active = some (i, c)
  · obtain ⟨i, c, h⟩ := hActive
    have hLays := State.replan_lays h
    have hFrame := hLays.frame
    exact ⟨hLays.book.trans (Planner.discard_book _ _), hLays.slots.trans (Planner.discard_parts _ _).2.2.2.1,
      (congrArg (·.pos) hFrame :), (congrArg (·.ing) hFrame :), (congrArg (·.cp) hFrame :)⟩
  · rw [State.replan_idle fun i c h => hActive ⟨i, c, h⟩]
    exact ⟨rfl, rfl, rfl, rfl, rfl⟩

/-! ## ORDER_ADD -/

section
variable (lp : Nat) (plan : Planner) (p : List Byte)

/-- The relations of R94 and R95 for the fields of an order. -/
def orderInRange : Prop :=
  1 ≤ field p 0 2 ∧ (1 ≤ byteAt p 2 ∧ byteAt p 2 ≤ 15) ∧ (200 ≤ field p 4 2 ∧ field p 4 2 ≤ 9000)
    ∧ 1 ≤ field p 6 2 ∧ byteAt p 3 ≤ 2 ∧ byteAt p 8 ≤ 7 ∧ ((byteAt p 9).testBit 1 = true → 1 ≤ field p 10 2)
    ∧ ∀ i c, plan.active = some (i, c) → c.minCut ≤ mmToLines lp (field p 4 2)

theorem orderFallback_of_given (h : (byteAt p 9).testBit 1 = true) : orderFallback p = some (field p 10 2) := if_pos h

theorem orderFallback_of_not_given (h : ¬ (byteAt p 9).testBit 1 = true) : orderFallback p = none := if_neg h

/-- The fallback's id is in range. -/
theorem orderRanges_iff : orderRanges p = true ↔ 1 ≤ field p 0 2 ∧ (1 ≤ byteAt p 2 ∧ byteAt p 2 ≤ 15)
    ∧ (200 ≤ field p 4 2 ∧ field p 4 2 ≤ 9000) ∧ 1 ≤ field p 6 2 ∧ byteAt p 3 ≤ 2 ∧ byteAt p 8 ≤ 7
    ∧ ((byteAt p 9).testBit 1 = true → 1 ≤ field p 10 2) := by
  unfold orderRanges
  by_cases hGiven : (byteAt p 9).testBit 1 = true
  · rw [orderFallback_of_given p hGiven]
    simp only [Bool.and_eq_true, within_iff, decide_eq_true_eq, and_assoc, hGiven, forall_const]
  · rw [orderFallback_of_not_given p hGiven]
    simp only [Bool.and_eq_true, within_iff, decide_eq_true_eq, and_assoc, hGiven, Bool.false_eq_true, false_imp_iff]

/-- Whether the length of an order suits the ACTIVE campaign. -/
def orderLongEnough : Bool :=
  match plan.active with
  | some (_, c) => c.minCut ≤ (orderFrom lp p).length
  | none => true

theorem orderLongEnough_iff : orderLongEnough lp plan p = true ↔
    ∀ i c, plan.active = some (i, c) → c.minCut ≤ mmToLines lp (field p 4 2) := by
  unfold orderLongEnough
  cases h : plan.active with
  | none => simp
  | some x =>
    obtain ⟨i, c⟩ := x
    refine decide_eq_true_iff.trans ⟨fun hLong j d hSame => ?_, fun hLong => hLong i c rfl⟩
    obtain ⟨-, rfl⟩ := Prod.mk.inj (Option.some.inj hSame)
    exact hLong

theorem orderCheck_eq : orderCheck lp plan p = firstFailure
    ([(orderRanges p, .range), (orderLongEnough lp plan p, .range)] ++
      [(decide (plan.orders.length < 32), .full), (!plan.orders.any (fun x => x.id = (orderFrom lp p).id), .conflict),
       (fallbackOk plan.orders (orderFrom lp p), .conflict)]) := rfl

/-- A given fallback names an order of the book with the same length and lanes. -/
theorem fallbackOk_iff : fallbackOk plan.orders (orderFrom lp p) = true ↔ ((byteAt p 9).testBit 1 = true →
    ∃ x ∈ plan.orders, x.id = field p 10 2 ∧ x.length = mmToLines lp (field p 4 2)
      ∧ x.laneMask = BitVec.ofNat 4 (byteAt p 2)) := by
  unfold fallbackOk
  change (match orderFallback p with
    | none => true
    | some f => plan.orders.any (fun x => x.id = f && x.length = (orderFrom lp p).length
        && x.laneMask = (orderFrom lp p).laneMask)) = true ↔ _
  by_cases hGiven : (byteAt p 9).testBit 1 = true
  · rw [orderFallback_of_given p hGiven]
    simp only [List.any_eq_true, Bool.and_eq_true, decide_eq_true_eq, hGiven, and_assoc, forall_const]
    rfl
  · rw [orderFallback_of_not_given p hGiven]
    simp [hGiven]

end

/-! ## The commands on an order -/

section
variable {p : List Byte} {s : State} {o : Order}

theorem State.moveOrder_unknown {id : Nat} (hReady : s.cp.binding = .ready) (h : findOrder id s.plan.orders = none)
    (old new : OrderState) : s.moveOrder id old new = s.finish .notFound false := by
  refine (State.readyOnly_takes hReady _).trans ?_
  rw [h]
  rfl

theorem State.moveOrder_refused {id : Nat} (hReady : s.cp.binding = .ready) (h : findOrder id s.plan.orders = some o)
    {old : OrderState} (hState : o.state ≠ old) (new : OrderState) : s.moveOrder id old new = s.finish .state false := by
  refine (State.readyOnly_takes hReady _).trans ?_
  rw [h]
  exact if_neg hState

theorem State.moveOrder_taken {id : Nat} (hReady : s.cp.binding = .ready) (h : findOrder id s.plan.orders = some o)
    {old : OrderState} (hState : o.state = old) (new : OrderState) : s.moveOrder id old new =
      ((s.modPlan (fun x => { x with orders := modOrder id (fun o => { o with state := new }) x.orders })).replan).finish
        .ok false := by
  refine (State.readyOnly_takes hReady _).trans ?_
  rw [h]
  exact if_pos hState

theorem State.orderCancel_unknown (hReady : s.cp.binding = .ready) (h : findOrder (orderId p) s.plan.orders = none) :
    s.orderCancel p = s.finish .notFound false := by
  refine (State.readyOnly_takes hReady _).trans ?_
  rw [h]
  rfl

theorem State.orderCancel_cancelled (hReady : s.cp.binding = .ready) (h : findOrder (orderId p) s.plan.orders = some o)
    (hState : o.state = .cancelled) : s.orderCancel p = s.finish .state false := by
  refine (State.readyOnly_takes hReady _).trans ?_
  rw [h]
  dsimp only
  rw [hState]
  rfl

theorem State.orderCancel_done (hReady : s.cp.binding = .ready) (h : findOrder (orderId p) s.plan.orders = some o)
    (hState : o.state = .done) :
    s.orderCancel p = ((s.modPlan (Planner.removeOrder o.id)).replan).finish .ok false := by
  refine (State.readyOnly_takes hReady _).trans ?_
  rw [h]
  dsimp only
  rw [hState]
  rfl

theorem State.orderCancel_live (hReady : s.cp.binding = .ready) (h : findOrder (orderId p) s.plan.orders = some o)
    (hState : o.state = .active ∨ o.state = .held) : s.orderCancel p = (s.cancelOrder o).finish .ok false := by
  refine (State.readyOnly_takes hReady _).trans ?_
  rw [h]
  dsimp only
  rcases hState with h | h
  · rw [h]
    rfl
  · rw [h]
    rfl

end

theorem findOrder_id {id : Nat} {os : List Order} {o : Order} (h : findOrder id os = some o) : o.id = id :=
  of_decide_eq_true (List.find?_some (p := fun o : Order => decide (o.id = id)) h)

/-! ## The book after a command -/

theorem filter_unplanned (id : Nat) (os : List Order) :
    (os.filter (fun x => x.id ≠ id)).map Order.unplanned = (os.map Order.unplanned).filter (fun x => x.id ≠ id) := by
  rw [List.filter_map]
  rfl

/-- A change of an order's own fields, in a book and in the same book without its planned counts. -/
theorem modOrder_map_unplanned {f : Order → Order} (h : ∀ o, (f o).unplanned = f o.unplanned) (id : Nat) (os : List Order) :
    (modOrder id f os).map Order.unplanned = modOrder id f (os.map Order.unplanned) := by
  rw [modOrder, modOrder, List.map_map, List.map_map]
  refine List.map_congr_left fun o _ => ?_
  simp only [Function.comp_apply, apply_ite Order.unplanned, h]
  rfl

theorem Planner.spareOrder_book (id : Nat) (p : Planner) : (p.spareOrder id).book = p.book :=
  modOrder_unplanned (f := fun o => { o with
    planned := o.planned - (((p.rows.filter Row.uncommitted).flatMap (·.lanes)).filter (fun l => l.order = some id)).length })
    (fun _ => rfl) p.orders

theorem Planner.removeOrder_book (id : Nat) (p : Planner) : (p.removeOrder id).book = p.book.filter (fun x => x.id ≠ id) :=
  filter_unplanned id p.orders

/-- An order is CANCELLED in the book. -/
def Planner.markCancelled (id : Nat) (p : Planner) : Planner :=
  { p with orders := modOrder id (fun o => { o with state := .cancelled }) p.orders }

theorem Planner.markCancelled_book (id : Nat) (p : Planner) :
    (p.markCancelled id).book = modOrder id (fun o => { o with state := .cancelled }) p.book :=
  modOrder_map_unplanned (f := fun o => { o with state := .cancelled }) (fun _ => rfl) id p.orders

theorem State.cancelOrder_free {o : Order} {s : State} (h : o.reserved = 0) :
    s.cancelOrder o = (s.modPlan (fun p => (p.spareOrder o.id).removeOrder o.id)).replan := by
  unfold State.cancelOrder
  simp only [h, if_true]

theorem State.cancelOrder_reserved {o : Order} {s : State} (h : o.reserved ≠ 0) :
    s.cancelOrder o = (s.modPlan (fun p => (p.spareOrder o.id).markCancelled o.id)).replan := by
  unfold State.cancelOrder
  simp only [h, if_false]
  rfl

/-- The run of a command that leaves the order book as given, but for its planned counts. -/
def State.Books (s : State) (run : Host.Outcome State Fault Refusal) (os : List Order) : Prop :=
  ∃ t, run = .next t ∧ s.answeredWith .ok t ∧ t.plan.orders.map Order.unplanned = os.map Order.unplanned
    ∧ t.plan.slots = s.plan.slots ∧ t.pos = s.pos ∧ t.ing = s.ing ∧ t.cp.binding = .ready

/-- A change of the order book that replanning and the answer follow. -/
theorem State.books {k : CmdKind} {p : List Byte} {s : State} (hGiven : s.given k p) (hReady : s.cp.binding = .ready)
    {f : Planner → Planner} {os : List Order} (hBook : (f s.plan).book = os.map Order.unplanned)
    (hSlots : (f s.plan).slots = s.plan.slots) :
    s.Books (.next (((s.modPlan f).replan).finish .ok false)) os := by
  obtain ⟨c, hDispatched⟩ := State.given_dispatched hGiven
  obtain ⟨hReBook, hReSlots, hPos, hIng, hCp⟩ := State.replan_parts (s.modPlan f)
  have hSame : (s.modPlan f).replan.cp = s.cp := hCp
  have hAnswer := State.finish_answered (s := (s.modPlan f).replan) (hSame ▸ hDispatched) .ok false
  have hFrame := State.finish_frame .ok false (s.modPlan f).replan
  refine ⟨_, rfl, by rwa [State.answeredWith, hSame] at hAnswer, ?_, ?_, ?_, ?_, ?_⟩
  · rw [hFrame]
    exact hReBook.trans hBook
  · rw [hFrame]
    exact hReSlots.trans hSlots
  · rw [hFrame]
    exact hPos
  · rw [hFrame]
    exact hIng
  · rw [State.finish_cp (s := (s.modPlan f).replan) (hSame ▸ hDispatched), hSame]
    exact hReady

/-- Settles O53. -/
theorem orderCommandsTakeEffect : Obligations.OrderCommandsTakeEffect := by
  refine ⟨fun p s hReady => ⟨fun hGiven => ⟨fun code hFails => ?addFails, fun hOk => ?add⟩,
    fun hNone => ⟨fun hGiven => ?holdNone, fun hGiven => ?releaseNone, fun hGiven => ?cancelNone⟩,
    fun o hFound => ⟨fun hGiven => ⟨fun hState => ?hold, fun hState => ?holdNot⟩,
      fun hGiven => ⟨fun hState => ?release, fun hState => ?releaseNot⟩,
      fun hGiven => ⟨fun hState => ?cancelNot, fun hState => ?cancel, fun hState hReserved => ?cancelReserved⟩⟩⟩,
    fun p lp plan => ?check, fun s => ?replan, fun q p => Planner.discard_parts q p⟩
  case addFails =>
    exact State.command_acts hGiven ((State.readyOnly_takes hReady _).trans (State.unlessFails_some hFails _))
  case add =>
    have hBook := State.books hGiven hReady (f := fun x => { x with orders := x.orders ++ [orderFrom s.lp p] })
      (os := s.plan.orders ++ [orderFrom s.lp p]) rfl rfl
    obtain ⟨t, hRun, hRest⟩ := hBook
    exact ⟨t, (State.command_acts hGiven ((State.readyOnly_takes hReady _).trans (State.unlessFails_none hOk _))).trans hRun,
      hRest⟩
  case holdNone => exact State.command_acts hGiven (State.moveOrder_unknown hReady hNone _ _)
  case releaseNone => exact State.command_acts hGiven (State.moveOrder_unknown hReady hNone _ _)
  case cancelNone => exact State.command_acts hGiven (State.orderCancel_unknown hReady hNone)
  case hold =>
    obtain ⟨t, hRun, hRest⟩ := State.books hGiven hReady
      (f := fun x => { x with orders := modOrder (orderId p) (fun o => { o with state := .held }) x.orders }) rfl rfl
    exact ⟨t, (State.command_acts hGiven (State.moveOrder_taken hReady hFound hState _)).trans hRun, hRest⟩
  case holdNot => exact State.command_acts hGiven (State.moveOrder_refused hReady hFound hState _)
  case release =>
    obtain ⟨t, hRun, hRest⟩ := State.books hGiven hReady
      (f := fun x => { x with orders := modOrder (orderId p) (fun o => { o with state := .active }) x.orders }) rfl rfl
    exact ⟨t, (State.command_acts hGiven (State.moveOrder_taken hReady hFound hState _)).trans hRun, hRest⟩
  case releaseNot => exact State.command_acts hGiven (State.moveOrder_refused hReady hFound hState _)
  case cancelNot => exact State.command_acts hGiven (State.orderCancel_cancelled hReady hFound hState)
  case cancel =>
    have hId : o.id = orderId p := findOrder_id hFound
    by_cases hDone : o.state = .done
    · obtain ⟨t, hRun, hRest⟩ := State.books hGiven hReady (f := Planner.removeOrder o.id)
        (os := s.plan.orders.filter (fun x => x.id ≠ o.id)) rfl rfl
      rw [hId] at hRest
      exact ⟨t, (State.command_acts hGiven (State.orderCancel_done hReady hFound hDone)).trans hRun, hRest⟩
    · obtain ⟨hLive, hFree⟩ := hState.resolve_left hDone
      have hOn : o.state = .active ∨ o.state = .held := by
        cases h : o.state <;> simp_all
      obtain ⟨t, hRun, hRest⟩ := State.books hGiven hReady (f := fun p => (p.spareOrder o.id).removeOrder o.id)
        (os := s.plan.orders.filter (fun x => x.id ≠ o.id))
        (by rw [Planner.removeOrder_book, Planner.spareOrder_book, filter_unplanned, Planner.book]) rfl
      rw [hId] at hRest
      exact ⟨t, (State.command_acts hGiven ((State.orderCancel_live hReady hFound hOn).trans
        (congrArg (State.finish .ok false) (State.cancelOrder_free hFree)))).trans hRun, hRest⟩
  case cancelReserved =>
    have hId : o.id = orderId p := findOrder_id hFound
    obtain ⟨t, hRun, hRest⟩ := State.books hGiven hReady (f := fun p => (p.spareOrder o.id).markCancelled o.id)
      (os := modOrder o.id (fun o => { o with state := .cancelled }) s.plan.orders)
      (by rw [Planner.markCancelled_book, Planner.spareOrder_book, Planner.book,
        modOrder_map_unplanned (f := fun o => { o with state := .cancelled }) fun _ => rfl]) rfl
    rw [hId] at hRest
    exact ⟨t, (State.command_acts hGiven ((State.orderCancel_live hReady hFound hState).trans
      (congrArg (State.finish .ok false) (State.cancelOrder_reserved hReserved)))).trans hRun, hRest⟩
  case check =>
    intro id length given check inRange taken named
    have hCheck : check = _ := orderCheck_eq lp plan p
    have hRange : (∀ x ∈ [(orderRanges p, ResultCode.range), (orderLongEnough lp plan p, .range)], x.1 = true) ↔ inRange := by
      simp only [List.forall_mem_cons, orderRanges_iff, orderLongEnough_iff, List.not_mem_nil, false_imp_iff, implies_true,
        and_true, and_assoc, inRange]
      rfl
    have hTaken : (!plan.orders.any (fun x => x.id = (orderFrom lp p).id)) = true ↔ ¬ taken := by
      rw [Bool.not_eq_true', ← Bool.not_eq_true, List.any_eq_true]
      simp only [decide_eq_true_eq]
      rfl
    have hNamed : fallbackOk plan.orders (orderFrom lp p) = true ↔ (given = true → named) := fallbackOk_iff lp plan p
    have hAfter : inRange → check = firstFailure [(decide (plan.orders.length < 32), .full),
        (!plan.orders.any (fun x => x.id = (orderFrom lp p).id), .conflict),
        (fallbackOk plan.orders (orderFrom lp p), .conflict)] := fun hIn => by
      rw [hCheck, firstFailure_append, firstFailure_iff.2 (hRange.2 hIn)]
      rfl
    refine ⟨fun hOut => ?_, fun hIn hFull => ?_, fun hIn hRoom hClash => ?_, fun hIn hRoom hFree hGiven => ?_, rfl, fun hGrade => ?_⟩
    · rw [hCheck, firstFailure_append, firstFailure_same (c := .range) (by simp) (mt hRange.1 hOut)]
      rfl
    · rw [hAfter hIn, decide_eq_false (not_lt.2 hFull)]
      rfl
    · rw [hAfter hIn, decide_eq_true hRoom]
      change firstFailure [(!plan.orders.any (fun x => x.id = (orderFrom lp p).id), .conflict),
        (fallbackOk plan.orders (orderFrom lp p), .conflict)] = _
      refine firstFailure_same (by simp) fun hAll => ?_
      obtain ⟨hAlone, hRest⟩ := List.forall_mem_cons.1 hAll
      exact hClash.elim (hTaken.1 hAlone) fun ⟨hIs, hNot⟩ => hNot (hNamed.1 (hRest _ List.mem_cons_self) hIs)
    · rw [hAfter hIn, decide_eq_true hRoom, hTaken.2 hFree, hNamed.2 hGiven]
      rfl
    · change ((Grade.ofCode (byteAt p 3)).getD .c).code = byteAt p 3
      interval_cases byteAt p 3 <;> rfl
  case replan =>
    intro ahead t
    refine ⟨State.replan_idle, fun i c hActive => ⟨State.replan_active hActive, ?_⟩⟩
    obtain ⟨more, hRows, hPlanned⟩ := (State.replan_lays hActive).more
    refine ⟨more, ?_, hPlanned⟩
    rw [hRows]
    exact congrArg (· ++ more) (Planner.rows_discard _ _)

end Sys2Proof.Machine
end
section
/-! PROOFS. The campaign commands and the laying of rows (R90 to R94, R101 to R106, R128). -/

set_option Elab.async false

namespace Sys2Proof.Machine

/-! ## The best order (R94) -/

/-- An order of the book that satisfies a test: those before it that do have a lower priority, and those after it no higher. -/
def Best (p : Order → Bool) (os : List Order) (o : Order) : Prop :=
  ∃ before after, os = before ++ o :: after ∧ p o = true ∧ (∀ y ∈ before, p y = true → y.priority < o.priority)
    ∧ ∀ y ∈ after, p y = true → y.priority ≤ o.priority

section
variable {p : Order → Bool} {os : List Order} {o b : Order}

theorem bestOrder_append (p : Order → Bool) (os : List Order) (o : Order) : bestOrder p (os ++ [o]) =
    if p o then
      match bestOrder p os with
      | none => some o
      | some b => if b.priority < o.priority then some o else some b
    else bestOrder p os := by
  unfold bestOrder
  rw [List.foldl_append]
  rfl

theorem Best.le (h : Best p os b) {y : Order} (hy : y ∈ os) (hFits : p y = true) : y.priority ≤ b.priority := by
  obtain ⟨before, after, rfl, -, hBefore, hAfter⟩ := h
  rcases List.mem_append.1 hy with hy | hy
  · exact (hBefore y hy hFits).le
  · rcases List.mem_cons.1 hy with rfl | hy
    · exact le_rfl
    · exact hAfter y hy hFits

theorem Best.append (h : Best p os b) (hLow : p o = true → o.priority ≤ b.priority) : Best p (os ++ [o]) b := by
  obtain ⟨before, after, rfl, hFits, hBefore, hAfter⟩ := h
  refine ⟨before, after ++ [o], by simp, hFits, hBefore, fun y hy => ?_⟩
  rcases List.mem_append.1 hy with hy | hy
  · exact hAfter y hy
  · exact (List.mem_singleton.1 hy) ▸ hLow

/-- What the choice of an order finds. -/
theorem bestOrder_cases (p : Order → Bool) (os : List Order) :
    (bestOrder p os = none ∧ ∀ o ∈ os, p o = false) ∨ ∃ b, bestOrder p os = some b ∧ Best p os b := by
  induction os using List.reverseRecOn with
  | nil => exact .inl ⟨rfl, fun _ h => absurd h List.not_mem_nil⟩
  | append_singleton os o ih =>
    cases hFits : p o with
    | false =>
      have hSame : bestOrder p (os ++ [o]) = bestOrder p os := by
        rw [bestOrder_append, hFits]
        exact if_neg Bool.false_ne_true
      rw [hSame]
      refine ih.imp (fun ⟨hNone, hAll⟩ => ⟨hNone, fun y hy => ?_⟩) fun ⟨b, hSome, hBest⟩ => ⟨b, hSome, hBest.append fun h => ?_⟩
      · exact (List.mem_append.1 hy).elim (hAll y) fun hy => (List.mem_singleton.1 hy) ▸ hFits
      · rw [hFits] at h
        cases h
    | true =>
      refine .inr ?_
      rcases ih with ⟨hNone, hAll⟩ | ⟨b, hSome, hBest⟩
      · refine ⟨o, by rw [bestOrder_append, hFits, hNone]; rfl, os, [], rfl, hFits, fun y hy h => ?_,
          fun _ h => absurd h List.not_mem_nil⟩
        rw [hAll y hy] at h
        cases h
      · by_cases hLess : b.priority < o.priority
        · refine ⟨o, by rw [bestOrder_append, hFits, hSome]; exact if_pos hLess, os, [], rfl, hFits, fun y hy h => ?_,
            fun _ h => absurd h List.not_mem_nil⟩
          exact (hBest.le hy h).trans_lt hLess
        · exact ⟨b, by rw [bestOrder_append, hFits, hSome]; exact if_neg hLess, hBest.append fun _ => not_lt.1 hLess⟩

theorem bestOrder_eq_none : bestOrder p os = none ↔ ∀ o ∈ os, p o = false := by
  rcases bestOrder_cases p os with ⟨hNone, hAll⟩ | ⟨b, hSome, before, after, hSplit, hFits, -⟩
  · exact ⟨fun _ => hAll, fun _ => hNone⟩
  · refine ⟨fun h => ?_, fun h => ?_⟩
    · rw [hSome] at h
      cases h
    · have hNot := h b (by rw [hSplit]; exact List.mem_append_right _ List.mem_cons_self)
      rw [hFits] at hNot
      cases hNot

theorem bestOrder_best (h : bestOrder p os = some o) : Best p os o := by
  rcases bestOrder_cases p os with ⟨hNone, -⟩ | ⟨b, hSome, hBest⟩
  · rw [hNone] at h
    cases h
  · rw [hSome] at h
    cases h
    exact hBest

theorem Best.bestOrder_eq (h : Best p os o) : bestOrder p os = some o := by
  obtain ⟨before, after, rfl, hFits, hBefore, hAfter⟩ := h
  induction after using List.reverseRecOn with
  | nil =>
    rw [bestOrder_append, hFits]
    rcases bestOrder_cases p before with ⟨hNone, -⟩ | ⟨b, hSome, hBest⟩
    · rw [hNone]
      rfl
    · rw [hSome]
      obtain ⟨x, y, hSplit, hFit, -⟩ := hBest
      exact if_pos (hBefore b (by rw [hSplit]; exact List.mem_append_right _ List.mem_cons_self) hFit)
  | append_singleton after y ih =>
    have hSplit : before ++ o :: (after ++ [y]) = (before ++ o :: after) ++ [y] := by simp
    rw [hSplit, bestOrder_append, ih fun z hz => hAfter z (List.mem_append_left _ hz)]
    split
    next hFit => exact if_neg (not_lt.2 (hAfter y (List.mem_append_right _ (List.mem_singleton_self y)) hFit))
    next => rfl

end

/-! ## One turn of the laying of rows (R103) -/

section
variable {s : State} {i : Fin 2} {c : Campaign} {fuel : Nat}

theorem State.layLoop_inactive (h : s.plan.active = none) : State.layLoop fuel s = s := by
  cases fuel with
  | zero => rfl
  | succ fuel => simp only [State.layLoop, h]

theorem State.layLoop_stopped (h : s.pos.broken = true ∨ 64 ≤ s.plan.rows.length) : State.layLoop fuel s = s := by
  cases fuel with
  | zero => rfl
  | succ fuel =>
    unfold State.layLoop
    split
    · rfl
    · exact if_pos h

theorem State.layLoop_tableEmpty (hOpening : s.plan.opening = none) (hRows : s.plan.rows = []) : State.layLoop fuel s = s := by
  have hExtent : s.plan.extent = none := by rw [Planner.extent, hRows]; rfl
  cases fuel with
  | zero => rfl
  | succ fuel =>
    unfold State.layLoop
    split
    · rfl
    · split
      · rfl
      · rw [hOpening, hExtent]

variable (hActive : s.plan.active = some (i, c)) (hWhole : s.pos.broken = false) (hRoom : s.plan.rows.length < 64)

include hActive hWhole hRoom

theorem State.layLoop_opens {o : Opening} (h : s.plan.opening = some o) :
    State.layLoop (fuel + 1) s = State.layLoop fuel (s.layOpening o i c) := by
  have hGoes : ¬ (s.pos.broken = true ∨ Config.rowMax ≤ s.plan.rows.length) := by
    rw [hWhole]
    exact not_or.2 ⟨Bool.false_ne_true, not_le.2 hRoom⟩
  rw [State.layLoop, hActive]
  dsimp only
  rw [if_neg hGoes, h]

theorem State.layLoop_extends {x : Nat} (hOpening : s.plan.opening = none) (hExtent : s.plan.extent = some x) :
    State.layLoop (fuel + 1) s =
      if x < s.pos.line + c.planAhead then State.layLoop fuel (State.layFromExtent i c 3 s) else s := by
  have hGoes : ¬ (s.pos.broken = true ∨ Config.rowMax ≤ s.plan.rows.length) := by
    rw [hWhole]
    exact not_or.2 ⟨Bool.false_ne_true, not_le.2 hRoom⟩
  rw [State.layLoop, hActive]
  dsimp only
  rw [if_neg hGoes, hOpening, hExtent]

end

theorem Planner.extent_of_last {p : Planner} {r : Row} (h : p.rows.getLast? = some r) : p.extent = some r.stop := by
  rw [Planner.extent, h]
  rfl

theorem State.layFromExtent_takes {s : State} {i : Fin 2} {c : Campaign} {x : Nat} (fuel : Nat)
    (hExtent : s.plan.extent = some x) (hRoom : s.plan.rows.length < 64) : State.layFromExtent i c (fuel + 1) s =
      if x ≤ s.pos.line then State.layFromExtent i c fuel (s.layGap i c x) else s.layPlateRow i c x := by
  rw [State.layFromExtent, hExtent]
  exact if_pos hRoom

theorem Planner.active_eq_none_iff {p : Planner} : p.active = none ↔ ∀ j d, p.active ≠ some (j, d) := by
  rw [Option.eq_none_iff_forall_ne_some]
  exact ⟨fun h j d => h (j, d), fun h ⟨j, d⟩ => h j d⟩

/-- The order that leads a plate row (R94, R106). -/
theorem Order.eligible_iff {o : Order} {c : Campaign} : o.eligible c = true ↔
    o.state = .active ∧ 1 ≤ o.remaining - o.planned ∧ c.minCut ≤ o.length
      ∧ ∃ j, j < c.lanes.length ∧ o.laneMask.getLsbD j = true := by
  unfold Order.eligible
  simp only [Bool.and_eq_true, decide_eq_true_eq, List.any_eq_true, List.mem_range, and_assoc]
  rfl

theorem State.layPlateRow_none {s : State} {i : Fin 2} {c : Campaign} {x : Nat}
    (h : bestOrder (fun o => o.eligible c) s.plan.orders = none) :
    s.layPlateRow i c x = s.layRow .plate i x (x + c.spare) (c.lanes.map (fun _ => LanePlate.laid none)) := by
  unfold State.layPlateRow
  rw [h]

theorem State.layPlateRow_some {s : State} {i : Fin 2} {c : Campaign} {x : Nat} {o : Order}
    (h : bestOrder (fun o => o.eligible c) s.plan.orders = some o) :
    s.layPlateRow i c x = (s.modPlan (fun p =>
      { p with orders := (fillLanes o.length (List.range c.lanes.length) s.plan.orders).2 })).layRow .plate i x (x + o.length)
        (fillLanes o.length (List.range c.lanes.length) s.plan.orders).1 := by
  unfold State.layPlateRow
  rw [h]

/-- The test that a lane is filled by. -/
def Order.fillsLane (length lane : Nat) (o : Order) : Bool :=
  o.state = .active && 1 ≤ o.available && o.length = length && o.allows lane

theorem Order.fillsLane_iff {length lane : Nat} {o : Order} : o.fillsLane length lane = true ↔
    o.state = .active ∧ 1 ≤ o.remaining - o.planned ∧ o.length = length ∧ o.laneMask.getLsbD lane = true := by
  unfold Order.fillsLane
  simp only [Bool.and_eq_true, decide_eq_true_eq, and_assoc]
  rfl

section
variable {length lane : Nat} {rest : List Nat} {os : List Order}

theorem fillLanes_none (h : bestOrder (Order.fillsLane length lane) os = none) : fillLanes length (lane :: rest) os =
    (LanePlate.laid none :: (fillLanes length rest os).1, (fillLanes length rest os).2) := by
  rw [fillLanes]
  change (match bestOrder (Order.fillsLane length lane) os with | some o => _ | none => _) = _
  rw [h]

theorem fillLanes_some {o : Order} (h : bestOrder (Order.fillsLane length lane) os = some o) :
    fillLanes length (lane :: rest) os =
      (LanePlate.laid (some o.id) ::
        (fillLanes length rest (modOrder o.id (fun o => { o with planned := o.planned + 1 }) os)).1,
       (fillLanes length rest (modOrder o.id (fun o => { o with planned := o.planned + 1 }) os)).2) := by
  rw [fillLanes]
  change (match bestOrder (Order.fillsLane length lane) os with | some o => _ | none => _) = _
  rw [h]

end

/-! ## CAMPAIGN_BEGIN: checks and fields -/

/-- A list ascends where each of its ranges ends below the next. -/
theorem ascending_iff_next {l : List (Nat × Nat)} :
    ascending l = true ↔ ∀ i (h : i + 1 < l.length), (l[i]).2 < (l[i + 1]).1 := by
  induction l with
  | nil => simp [ascending]
  | cons a rest ih =>
    cases rest with
    | nil => simp [ascending]
    | cons b rest =>
      rw [ascending, Bool.and_eq_true, decide_eq_true_eq, ih]
      refine ⟨fun ⟨hFirst, hRest⟩ i h => ?_, fun h => ⟨h 0 (by simp), fun i hi => h (i + 1) (Nat.succ_lt_succ hi)⟩⟩
      cases i with
      | zero => exact hFirst
      | succ i => exact hRest i (Nat.lt_of_succ_lt_succ h)

section
variable (lp : Nat) (p : List Byte)

theorem campLanes_length : (campLanes p).length = min 4 (byteAt p 0) := by
  rw [campLanes, List.length_map, List.length_range]

theorem campLanes_lane {i : Nat} (hFour : i < 4) (h : i < byteAt p 0) :
    (campLanes p)[i]? = some { first := field p (4 + 4 * i) 2, last := field p (6 + 4 * i) 2 } := by
  have hIn : i < min 4 (byteAt p 0) := lt_min hFour h
  rw [campLanes, List.getElem?_map, List.getElem?_range hIn]
  rfl

theorem campLanes_ok (h : byteAt p 0 ≤ 4) : (campLanes p).all (fun l => l.first ≤ l.last && l.last ≤ 32767) = true ↔
    ∀ i, i < byteAt p 0 → field p (4 + 4 * i) 2 ≤ field p (6 + 4 * i) 2 ∧ field p (6 + 4 * i) 2 ≤ 32767 := by
  simp only [campLanes, min_eq_right h, List.all_map, List.all_eq_true, List.mem_range, Function.comp_apply,
    Bool.and_eq_true, decide_eq_true_eq]

theorem campLanes_ascend (h : byteAt p 0 ≤ 4) : ascending ((campLanes p).map (fun l => (l.first, l.last))) = true ↔
    ∀ i, i + 1 < byteAt p 0 → field p (6 + 4 * i) 2 < field p (4 + 4 * (i + 1)) 2 := by
  rw [ascending_iff_next]
  simp only [campLanes, min_eq_right h, List.length_map, List.length_range, List.getElem_map, List.getElem_range]

theorem campCheck_eq : campCheck lp p = firstFailure ([(campRelations p && campLeadOk lp p, .range)] ++
    [(ascending ((campLanes p).map (fun l => (l.first, l.last))), .conflict)]) := rfl

/-- The relations that the numbers of a CAMPAIGN_BEGIN satisfy. -/
theorem campRelations_iff : (campRelations p && campLeadOk lp p) = true ↔
    1 ≤ byteAt p 0 ∧ byteAt p 0 ≤ 4
      ∧ (∀ i, i < byteAt p 0 → field p (4 + 4 * i) 2 ≤ field p (6 + 4 * i) 2 ∧ field p (6 + 4 * i) 2 ≤ 32767)
      ∧ (2000 ≤ campMm p 0 ∧ campMm p 0 ≤ 60000) ∧ (200 ≤ campMm p 1 ∧ campMm p 1 ≤ 10000) ∧ campMm p 1 < campMm p 0
      ∧ (100 ≤ campMm p 2 ∧ campMm p 2 ≤ 2000) ∧ (50 ≤ campMm p 3 ∧ campMm p 3 ≤ 2000) ∧ campMm p 4 ≤ 500
      ∧ campMm p 5 ≤ 20000 ∧ campMm p 5 < campMm p 6 ∧ (1000 ≤ campMm p 6 ∧ campMm p 6 ≤ 30000)
      ∧ (200 ≤ campMm p 7 ∧ campMm p 7 ≤ 9000) ∧ campMm p 2 ≤ campMm p 7 ∧ (1 ≤ campMm p 8 ∧ campMm p 8 ≤ 50)
      ∧ 8 * campMm p 8 ≤ campMm p 2 ∧ (100 ≤ campMm p 9 ∧ campMm p 9 ≤ 5000) ∧ campMm p 10 ≤ 200
      ∧ (1 ≤ byteAt p 2 ∧ byteAt p 2 ≤ 3) ∧ mmToLines lp (campMm p 1) < mmToLines lp (campMm p 0) := by
  unfold campRelations campLeadOk
  by_cases hFour : byteAt p 0 ≤ 4
  · simp only [Bool.and_eq_true, within_iff, decide_eq_true_eq, campLanes_ok p hFour, and_assoc]
  · simp only [Bool.and_eq_true, within_iff, decide_eq_true_eq, hFour, false_and, and_false]

theorem Grade.ofCode_code_of_le {n : Nat} (h : n ≤ 3) (g : Grade) : ((Grade.ofCode n).getD g).code = n := by
  interval_cases n <;> rfl

/-- The nearest number of lines. -/
theorem mmToLines_nearest (d : Nat) (h : 0 < lp) :
    2 * lp * mmToLines lp d ≤ 2000 * d + lp ∧ 2000 * d + lp < 2 * lp * (mmToLines lp d + 1) := by
  have hSum : 2 * (d * 1000) + lp = 2000 * d + lp := by omega
  unfold mmToLines
  rw [hSum]
  exact ⟨Nat.mul_div_le _ _, Nat.lt_mul_div_succ _ (by omega)⟩

end

/-! ## The campaign commands taken -/

theorem Planner.active_of_slot {p : Planner} {i : Fin 2} {c : Campaign} (h : p.slots[i] = .active c)
    (hOther : ∀ j : Fin 2, j ≠ i → ∀ d, p.slots[j] ≠ .active d) : p.active = some (i, c) := by
  cases hActive : p.active with
  | none => exact absurd h (Planner.active_eq_none hActive i c)
  | some x =>
    obtain ⟨j, d⟩ := x
    have hSlot := Planner.active_eq_some hActive
    by_cases hji : j = i
    · subst hji
      rw [h] at hSlot
      cases hSlot
      rfl
    · exact absurd hSlot (hOther j hji d)

theorem Planner.freeCampSlot_none {p : Planner} (h : ∀ i : Fin 2, p.slots[i] ≠ .none) : p.freeCampSlot = none := by
  refine List.find?_eq_none.2 fun i _ => ?_
  have hNot := h i
  cases hSlot : p.slots[i] with
  | none => exact absurd hSlot hNot
  | active c => simp [CampSlot.isNone]
  | draining c => simp [CampSlot.isNone]

theorem Planner.freeCampSlot_some {p : Planner} {i : Fin 2} (h : p.slots[i] = .none)
    (hFirst : ∀ j : Fin 2, j < i → p.slots[j] ≠ .none) : p.freeCampSlot = some i := by
  have hTaken : ∀ x : CampSlot, x ≠ .none → x.isNone = false := by
    intro x hx
    cases x with
    | none => exact absurd rfl hx
    | active c => rfl
    | draining c => rfl
  match i with
  | 0 => exact List.find?_cons_of_pos (p := fun i : Fin 2 => p.slots[i].isNone) (l := [1]) (congrArg CampSlot.isNone h :)
  | 1 =>
    have hZero : ¬ (p.slots[(0 : Fin 2)]).isNone = true := by
      rw [hTaken _ (hFirst 0 (by decide))]
      exact Bool.false_ne_true
    exact (List.find?_cons_of_neg (p := fun i : Fin 2 => p.slots[i].isNone) (l := [1]) hZero).trans
      (List.find?_cons_of_pos (p := fun i : Fin 2 => p.slots[i].isNone) (l := []) (congrArg CampSlot.isNone h :))

/-- The end of the ACTIVE campaign. -/
theorem State.endCampaign_active {s : State} {i : Fin 2} {c : Campaign} (h : s.plan.active = some (i, c)) :
    let t := s.endCampaign
    let rows := s.plan.rows.filter (fun r => !r.uncommitted)
    t = { s with plan := t.plan, link := t.link, map := t.map } ∧ t.plan.rows = rows ∧ t.plan.opening = none
    ∧ t.link.lanesPending = none
    ∧ t.plan.slots = s.plan.slots.set i (if rows.any (fun r => r.slot = i) then .draining c else .none) := by
  intro t rows
  have hRows : (s.plan.discard Row.uncommitted).rows = rows := Planner.rows_discard _ _
  have ht : t = State.giveRetire { s with
      plan := { s.plan.discard Row.uncommitted with
        opening := none,
        slots := (s.plan.discard Row.uncommitted).slots.set i
          (if (s.plan.discard Row.uncommitted).rows.any (fun r => r.slot = i) then .draining c else .none) },
      link := { s.link with lanesPending := none } } := by
    change s.endCampaign = _
    unfold State.endCampaign
    rw [h]
    rfl
  rw [ht]
  refine ⟨rfl, hRows, rfl, rfl, ?_⟩
  rw [← hRows]
  change (s.plan.discard Row.uncommitted).slots.set i _ = _
  rw [Planner.discard_slots]

theorem State.endCampaign_idle {s : State} (h : s.plan.active = none) : s.endCampaign = s := by
  unfold State.endCampaign
  rw [h]

theorem State.requestLanes_takes {s : State} {i : Fin 2} {c : Campaign} (h : s.plan.active = some (i, c)) :
    s.requestLanes = { s with link := { s.link with lanesPending := some (laneEdges s.ing.pp c.lanes) } } := by
  unfold State.requestLanes
  rw [h]
  rfl

/-- What the taking of a CAMPAIGN_BEGIN leaves. -/
theorem State.beginCampaign_parts {s : State} {i : Fin 2} {p : List Byte} (hFree : s.plan.slots[i] = .none) :
    let t := s.beginCampaign i p
    t.plan.slots[i] = .active (campaignFrom s.lp p) ∧ (∀ j : Fin 2, j ≠ i → ∀ c, t.plan.slots[j] ≠ .active c)
    ∧ t.ing = s.startLearning.ing
    ∧ (t.link.lanesPending = some (laneEdges s.ing.pp (campLanes p))
        ∨ TxFrame.lanes (laneEdges s.ing.pp (campLanes p)) ∈ t.link.txq)
    ∧ t.pos = s.pos ∧ t.cp = s.cp := by
  intro t
  let b : State := s.endCampaign.modPlan (fun x =>
    { x with slots := x.slots.set i (.active (campaignFrom s.lp p)), opening := some .change })
  let u : State := b.startLearning.requestLanes
  have hWorks : Works s s.endCampaign := (Works.refl s).endCampaign
  have hOne : s.oneActive := fun c d ⟨h0, h1⟩ => by
    match i with
    | 0 => exact CampSlot.noConfusion (h0.symm.trans hFree)
    | 1 => exact CampSlot.noConfusion (h1.symm.trans hFree)
  have hOwn : b.plan.slots[i] = .active (campaignFrom s.lp p) := Vector.getElem_set_self i.isLt
  have hOthers : ∀ j : Fin 2, j ≠ i → ∀ c, b.plan.slots[j] ≠ .active c := fun j hj c h =>
    State.endCampaign_slots hOne j c ((Vector.getElem_set_ne i.isLt j.isLt fun h => hj (Fin.ext h.symm)).symm.trans h)
  have hActive : b.plan.active = some (i, campaignFrom s.lp p) := Planner.active_of_slot hOwn hOthers
  have hu : u = _ := State.requestLanes_takes (s := b.startLearning) hActive
  have hPp : b.startLearning.ing.pp = s.ing.pp := (congrArg Ingest.pp hWorks.ing :)
  have hPending : u.link.lanesPending = some (laneEdges s.ing.pp (campLanes p)) := by
    rw [hu, hPp]
    rfl
  have hFilled := State.fillQueue_filled u
  have hLays : Lays u.fillQueue t := (Lays.refl u.fillQueue).giveRetire.runPlanning
  have hSame : t.plan.slots = b.plan.slots := hLays.slots.trans
    ((congrArg (·.plan.slots) hFilled.same :).trans (congrArg (·.plan.slots) hu :))
  have hRest : ∀ {α : Type} (g : State → α), (∀ v pl m e r, g { v with plan := pl, map := m, ev := e, rings := r } = g v) →
      (∀ v l, g { v with link := l } = g v) → g t = g b.startLearning := fun g hg hl => by
    rw [hLays.frame, hg, hFilled.same, hl, hu, hl]
  refine ⟨hSame ▸ hOwn, hSame ▸ hOthers, (hRest (·.ing) (fun _ _ _ _ _ => rfl) fun _ _ => rfl).trans ?_, ?_,
    (hRest (·.pos) (fun _ _ _ _ _ => rfl) fun _ _ => rfl).trans hWorks.pos,
    (hRest (·.cp) (fun _ _ _ _ _ => rfl) fun _ _ => rfl).trans hWorks.cp⟩
  · exact congrArg (fun g : Ingest => { g with cams := Vector.ofFn (fun k =>
      if g.cams[k].cfg.enable then { g.cams[k] with learn := .start, startCapture := g.captures } else g.cams[k]) }) hWorks.ing
  · have hLink : t.link = u.fillQueue.link := (congrArg (·.link) hLays.frame :)
    rw [hLink]
    exact hFilled.lanes _ hPending

theorem State.startLearning_cam (s : State) (k : Fin 8) : s.startLearning.ing.cams[k] =
    if s.ing.cams[k].cfg.enable then { s.ing.cams[k] with learn := .start, startCapture := s.ing.captures }
    else s.ing.cams[k] := by
  unfold State.startLearning
  simp [State.modIng]

section
variable {p : List Byte} {s : State}

theorem State.campaignBegin_taken (hReady : s.cp.binding = .ready) {i : Fin 2} (h : s.plan.freeCampSlot = some i) :
    s.campaignBegin p = s.unlessFails (campCheck s.lp p) (State.beginCampaign i p) := by
  refine (State.readyOnly_takes hReady _).trans ?_
  rw [h]

theorem State.campaignBegin_busy (hReady : s.cp.binding = .ready) (h : s.plan.freeCampSlot = none) :
    s.campaignBegin p = s.finish .busy false := by
  refine (State.readyOnly_takes hReady _).trans ?_
  rw [h]
  rfl

end

/-- Settles O52. -/
theorem campaignCommandsTakeEffect : Obligations.CampaignCommandsTakeEffect := by
  refine ⟨fun p s hReady => ⟨fun hGiven => ⟨fun hTaken => ?busy, fun i hFree hFirst => ⟨fun code hFails => ?refused,
    fun hOk => ?begun⟩⟩, fun hGiven => ⟨fun hNone => ?noCampaign, fun i c hActive hOther => ?ended⟩⟩, fun p lp => ?check,
    fun i c s => ?plan, fun length lane rest os => ?fill⟩
  case busy => exact State.command_acts hGiven (State.campaignBegin_busy hReady (Planner.freeCampSlot_none hTaken))
  case refused =>
    exact State.command_acts hGiven ((State.campaignBegin_taken hReady (Planner.freeCampSlot_some hFree hFirst)).trans
      (State.unlessFails_some hFails _))
  case begun =>
    obtain ⟨c, hDispatched⟩ := State.given_dispatched hGiven
    obtain ⟨hOwn, hOthers, hIng, hLanes, hPos, hCp⟩ := State.beginCampaign_parts (p := p) hFree
    have hAnswer := State.finish_answered (s := s.beginCampaign i p) (hCp ▸ hDispatched) .ok false
    have hFrame := State.finish_frame .ok false (s.beginCampaign i p)
    have hBinding : ((s.beginCampaign i p).finish .ok false).cp.binding = .ready := by
      rw [State.finish_cp (s := s.beginCampaign i p) (hCp ▸ hDispatched), hCp]
      exact hReady
    refine ⟨_, State.command_acts hGiven ((State.campaignBegin_taken hReady (Planner.freeCampSlot_some hFree hFirst)).trans
      (State.unlessFails_none hOk _)), by rwa [State.answeredWith, hCp] at hAnswer, ?_, ?_, fun k hOn => ?_, fun k hOff => ?_,
      ?_, ?_, ?_, hBinding⟩
    · rw [hFrame]
      exact hOwn
    · rw [hFrame]
      exact hOthers
    · rw [hFrame]
      exact (congrArg (fun g : Ingest => g.cams[k]) hIng).trans ((State.startLearning_cam s k).trans (if_pos hOn))
    · rw [hFrame]
      exact (congrArg (fun g : Ingest => g.cams[k]) hIng).trans
        ((State.startLearning_cam s k).trans (if_neg (by rw [hOff]; exact Bool.false_ne_true)))
    · rw [hFrame]
      exact hLanes
    · rw [hFrame]
      exact hPos
    · rw [hFrame]
      exact (congrArg Ingest.cols hIng :)
  case noCampaign =>
    have hIdle : s.plan.active = none := Planner.active_eq_none_iff.2 fun j d h => hNone j d (Planner.active_eq_some h)
    refine State.command_acts hGiven ((State.readyOnly_takes hReady _).trans (if_neg ?_))
    rw [hIdle]
    exact Bool.false_ne_true
  case ended =>
    obtain ⟨x, hDispatched⟩ := State.given_dispatched hGiven
    have hIs : s.plan.active = some (i, c) := Planner.active_of_slot hActive hOther
    obtain ⟨hEnd, hRows, hOpening, hLanes, hSlots⟩ := State.endCampaign_active hIs
    have hCp : s.endCampaign.cp = s.cp := (congrArg (·.cp) hEnd :)
    have hAnswer := State.finish_answered (s := s.endCampaign) (hCp ▸ hDispatched) .ok false
    have hFrame := State.finish_frame .ok false s.endCampaign
    have hPlan : (s.endCampaign.finish .ok false).plan = s.endCampaign.plan := (congrArg (·.plan) hFrame :)
    refine ⟨s.endCampaign.finish .ok false, State.command_acts hGiven ((State.readyOnly_takes hReady _).trans (if_pos (Planner.active_isSome.2 ⟨i, c, hIs⟩))),
      by rwa [State.answeredWith, hCp] at hAnswer, ?_, ?_, ?_, fun hSome => ?_, fun hAll => ?_, fun j hj => ?_, ?_, ?_, ?_⟩
    · rw [hPlan]
      exact hRows
    · rw [hPlan]
      exact hOpening
    · rw [hFrame]
      exact hLanes
    · rw [hPlan, hRows] at hSome
      rw [hPlan, hSlots]
      refine (Vector.getElem_set_self i.isLt).trans (if_pos (List.any_eq_true.2 ?_))
      simpa using hSome
    · rw [hPlan, hRows] at hAll
      rw [hPlan, hSlots]
      refine (Vector.getElem_set_self i.isLt).trans (if_neg fun hAny => ?_)
      obtain ⟨r, hr, hSlot⟩ := List.any_eq_true.1 hAny
      exact hAll r hr (of_decide_eq_true hSlot)
    · rw [hPlan, hSlots]
      exact Vector.getElem_set_ne i.isLt j.isLt fun h => hj (Fin.ext h.symm)
    · rw [hFrame]
      exact (congrArg (·.pos) hEnd :)
    · rw [hFrame]
      exact (congrArg (·.ing) hEnd :)
    · rw [State.finish_cp (s := s.endCampaign) (hCp ▸ hDispatched), hCp]
      exact hReady
  case check =>
    intro n mm first last inRange apart x ln
    have hRange : (campRelations p && campLeadOk lp p) = true ↔ inRange := campRelations_iff lp p
    rw [campCheck_eq]
    refine ⟨fun hOut => ?_, fun hIn hClose => ?_, fun hIn hApart => ?_, campLanes_length p, fun i hFour hi => campLanes_lane p hFour hi,
      rfl, rfl, rfl, rfl, rfl, rfl, rfl, rfl, rfl, rfl, rfl, rfl, rfl, rfl, fun hCap => Grade.ofCode_code_of_le hCap _,
      fun d hLp => mmToLines_nearest lp d hLp⟩
    · rw [firstFailure_append, firstFailure_same (c := .range) (by simp) (by simpa using mt hRange.1 hOut)]
      rfl
    · have hLanes := campLanes_ascend p hIn.2.1
      rw [hRange.2 hIn]
      change firstFailure [(ascending ((campLanes p).map (fun l => (l.first, l.last))), .conflict)] = _
      exact firstFailure_same (by simp) (by simpa using mt hLanes.1 hClose)
    · have hLanes := campLanes_ascend p hIn.2.1
      rw [hRange.2 hIn, hLanes.2 hApart]
      rfl
  case plan =>
    intro line laid opened
    refine ⟨fun hStops => ?_, fun hOpening hRows => State.layLoop_tableEmpty hOpening hRows,
      fun hActive hWhole hRoom => ⟨fun o hOpening => State.layLoop_opens hActive hWhole hRoom hOpening,
        fun r hOpening hLast => ?_⟩, fun r hLast => ?_, fun hRows => ?_, fun x => ?_, fun x => ?_⟩
    · rcases hStops with hNone | hStops
      · exact State.layLoop_inactive (Planner.active_eq_none_iff.2 hNone)
      · exact State.layLoop_stopped hStops
    · have hExtent := Planner.extent_of_last hLast
      have hTurn := State.layLoop_extends (fuel := 65) hActive hWhole hRoom hOpening hExtent
      have hLay := State.layFromExtent_takes (i := i) (c := c) 2 hExtent hRoom
      refine ⟨fun hFar => hTurn.trans (if_neg (not_lt.2 hFar)), fun hNear hAhead => ?_, fun hNear hBehind => ?_⟩
      · rw [State.runPlanning, Config.rowMax, hTurn, if_pos hNear, hLay, if_neg (not_le.2 hAhead)]
      · rw [State.runPlanning, Config.rowMax, hTurn, if_pos hNear, hLay, if_pos hBehind]
    · intro x
      have hExtent : s.plan.extent = some x := Planner.extent_of_last hLast
      refine ⟨fun hNear => ?_, fun hFar => ?_, ?_⟩
      · have hMax : max x (line + c.startGap) = line + c.startGap := max_eq_right hNear.le
        unfold State.layOpening
        rw [hExtent]
        dsimp only
        rw [hMax, if_pos hNear]
        rfl
      · have hMax : max x (line + c.startGap) = x := max_eq_left hFar
        unfold State.layOpening
        rw [hExtent]
        dsimp only
        rw [hMax, if_neg (lt_irrefl x)]
        rfl
      · unfold State.layOpening
        rw [hExtent]
        rfl
    · have hExtent : s.plan.extent = none := by rw [Planner.extent, hRows]; rfl
      unfold State.layOpening
      rw [hExtent]
      exact ⟨rfl, rfl⟩
    · intro t stop
      let u := s.layRow .gap i x stop []
      have ht : t = (u.raise .planStarved x (min Config.max32 (stop - x))).modPlan (fun p =>
          { p with counters := { p.counters with starved := inc32 p.counters.starved } }) := rfl
      have hPlan := State.raise_plan u .planStarved x (min Config.max32 (stop - x))
      have hFrame : u.raise .planStarved x (min Config.max32 (stop - x)) = _ := State.raise_frame
      refine ⟨?_, State.raise_sets .planStarved _ _ u, ?_⟩
      · rw [ht]
        change ({ (u.raise .planStarved x (min Config.max32 (stop - x))).plan with
          counters := _ } : Planner) = _
        rw [hPlan]
        rfl
      · rw [ht]
        change ({ u.raise .planStarved x (min Config.max32 (stop - x)) with plan := _ } : State) = _
        rw [hFrame]
        rfl
    · intro fits spare
      refine ⟨fun hNone => ?_, fun before o after hSplit hFits hBefore hAfter => ?_⟩
      · have hBest : bestOrder (fun o => o.eligible c) s.plan.orders = none :=
          bestOrder_eq_none.2 fun o ho => Bool.eq_false_iff.2 (mt Order.eligible_iff.1 (hNone o ho))
        rw [State.layPlateRow_none hBest, List.map_const']
        rfl
      · have hBest : bestOrder (fun o => o.eligible c) s.plan.orders = some o := Best.bestOrder_eq
          ⟨before, after, hSplit, Order.eligible_iff.2 hFits, fun y hy h => hBefore y hy (Order.eligible_iff.1 h),
            fun y hy h => hAfter y hy (Order.eligible_iff.1 h)⟩
        exact State.layPlateRow_some hBest
  case fill =>
    intro fits laid
    refine ⟨rfl, fun hNone => ?_, fun before o after hSplit hFits hBefore hAfter => ?_⟩
    · exact fillLanes_none (bestOrder_eq_none.2 fun o ho => Bool.eq_false_iff.2 (mt Order.fillsLane_iff.1 (hNone o ho)))
    · exact fillLanes_some (Best.bestOrder_eq ⟨before, after, hSplit, Order.fillsLane_iff.2 hFits,
        fun y hy h => hBefore y hy (Order.fillsLane_iff.1 h), fun y hy h => hAfter y hy (Order.fillsLane_iff.1 h)⟩)

end Sys2Proof.Machine
end
section
/-! PROOFS. Committing, sealing, shifting and reassigning rows (R108 to R115, R129). -/

set_option Elab.async false

namespace Sys2Proof.Machine

/-! ## Resolutions (R114, R115) -/

theorem recordIn_eq (num : Idx) (res : Resolution) (k : Option CutRef) :
    recordIn num res k = k.map (fun x => if x.num = num then { x with res := res } else x) := by
  cases k with
  | none => rfl
  | some c =>
    unfold recordIn
    dsimp only [Option.map_some]
    split <;> rfl

theorem resolved_eq (k : Option CutRef) : resolved k = k.any (fun x => x.res ≠ .unresolved) := by
  cases k <;> rfl

/-- A row after a resolution. -/
theorem Row.cutTest_eq (r : Row) : r.cutTest = { r with
    state := if r.state = .committed ∧ resolved r.trailing = true ∧ (r.leading = none ∨ resolved r.leading = true)
      then .cut else r.state } := by
  unfold Row.cutTest
  simp only [Option.isNone_iff_eq_none]
  split <;> rfl

theorem Planner.recorded_rows (num : Idx) (res : Resolution) (p : Planner) : (p.recorded num res).rows = p.rows.map (fun r =>
    ({ r with leading := recordIn num res r.leading, trailing := recordIn num res r.trailing } : Row).cutTest) :=
  List.map_map ..

section
variable {s : State}

theorem State.handToGrader_busy (h : s.grader.waiting ≠ none) : s.handToGrader = s := by
  unfold State.handToGrader
  split
  next hNone _ => exact absurd hNone h
  next => rfl

theorem State.handToGrader_allFinal (h : ∀ r ∈ s.plan.rows, r.state = .final) : s.handToGrader = s := by
  have hFind : s.plan.rows.find? (fun r => r.state ≠ .final) = none :=
    List.find?_eq_none.2 fun r hr => by simpa using h r hr
  unfold State.handToGrader
  rw [hFind]
  cases s.grader.waiting <;> rfl

theorem find?_split {α : Type} {p : α → Bool} {before after : List α} {x : α} (hBefore : ∀ y ∈ before, p y = false)
    (hx : p x = true) : (before ++ x :: after).find? p = some x := by
  rw [List.find?_append, List.find?_eq_none.2 fun y hy => by simpa using hBefore y hy, List.find?_cons_of_pos hx]
  rfl

theorem State.testWaiting_waiting {w : Waiting} (t : State) (h : t.grader.waiting = some w) :
    ∃ x, t.testWaiting.grader.waiting = some x ∧ x.row = w.row ∧ x.need = w.need := by
  unfold State.testWaiting
  rw [h]
  dsimp only
  split
  · exact ⟨w, h, rfl, rfl⟩
  · exact ⟨{ w with counted := true }, rfl, rfl, rfl⟩

variable {before after : List Row} {r : Row} (hRows : s.plan.rows = before ++ r :: after)
  (hBefore : ∀ x ∈ before, x.state = .final)

include hRows hBefore

theorem State.handToGrader_uncut (hNot : r.state ≠ .final) (h : r.state ≠ .cut) : s.handToGrader = s := by
  have hFind : s.plan.rows.find? (fun r => r.state ≠ .final) = some r := by
    rw [hRows]
    exact find?_split (fun y hy => by simpa using hBefore y hy) (by simpa using hNot)
  unfold State.handToGrader
  rw [hFind]
  split
  next hSome =>
    cases hSome
    exact if_neg h
  next => rfl

theorem State.handToGrader_cut (hFree : s.grader.waiting = none) (h : r.state = .cut) :
    ∃ w, s.handToGrader.grader.waiting = some w ∧ w.row = r.num ∧ w.need = r.need := by
  have hFind : s.plan.rows.find? (fun r => r.state ≠ .final) = some r := by
    rw [hRows]
    exact find?_split (fun y hy => by simpa using hBefore y hy) (by rw [h]; rfl)
  have hHands : s.handToGrader = (s.modGrader (fun g =>
      { g with waiting := some { row := r.num, need := r.need, counted := false } })).testWaiting := by
    unfold State.handToGrader
    rw [hFree, hFind]
    exact if_pos h
  rw [hHands]
  exact State.testWaiting_waiting (w := { row := r.num, need := r.need, counted := false }) _ rfl

end

/-! ## The counts of a committing row (R112) -/

theorem commitLane_eq (os : List Order) (l : LanePlate) : commitLane os l = os.map (fun o =>
    let n := if l.order = some o.id then 1 else 0
    { o with planned := o.planned - n, remaining := o.remaining - n, reserved := o.reserved + n }) := by
  unfold commitLane
  cases h : l.order with
  | none => simp
  | some id =>
    refine List.map_congr_left fun o _ => ?_
    by_cases hId : o.id = id
    · rw [if_pos hId, if_pos (congrArg some hId.symm)]
    · rw [if_neg hId, if_neg (fun h => hId (Option.some.inj h).symm)]
      rfl

theorem foldl_commitLane (ls : List LanePlate) (os : List Order) : ls.foldl commitLane os = os.map (fun o =>
    { o with
      planned := o.planned - lanesOf o.id ls, remaining := o.remaining - lanesOf o.id ls,
      reserved := o.reserved + lanesOf o.id ls }) := by
  induction ls generalizing os with
  | nil => simp [lanesOf]
  | cons l ls ih =>
    rw [List.foldl_cons, ih, commitLane_eq, List.map_map]
    refine List.map_congr_left fun o _ => ?_
    simp only [Function.comp_apply, lanesOf_cons, Nat.sub_sub, Nat.add_assoc]

/-! ## Handing on a cut (R129) -/

/-- What the handing on of a cut changes of the planner and of the tallies. -/
structure State.HandsOn (s t : State) : Prop where
  frame : t = { s with plan := t.plan, link := t.link, grader := t.grader, tally := t.tally, ev := t.ev, rings := t.rings }
  plan : t.plan = { s.plan with rows := t.plan.rows, counters := { s.plan.counters with cut := t.plan.counters.cut } }
  committed : t.tally.live.committed = s.tally.live.committed
  flags : ∀ k, s.ev.pending.getLsbD k = true → t.ev.pending.getLsbD k = true

theorem State.reportMissed_handsOn (num : Idx) (cause : MissCause) (reason : Nat) (s : State) :
    s.HandsOn (s.reportMissed num cause reason) := by
  obtain ⟨-, hPlan, hLive, -⟩ := State.reportMissed_parts num cause reason s
  let u := (s.recordResolution num .missed).modLink (fun l =>
    { l with counters := { l.counters with missed := upd l.counters.missed cause.code inc32 } })
  let v := u.raise .cutMissed num.toNat (cause.code.val + 256 * reason)
  have ht : s.reportMissed num cause reason = v.tallied (fun t => { t with missed := tallyAdd t.missed 1 }) := rfl
  have hv : v = _ := State.raise_frame
  have hu : u = _ := congrArg (State.modLink _) (State.recordResolution_frame num .missed s)
  have hSteady : Steady s u := by
    rw [hu]
    exact ⟨rfl, rfl, fun _ hk => hk⟩
  refine ⟨?_, ?_, ?_, hSteady.raise.flags⟩
  · rw [ht, hv, hu]
    rfl
  · rw [hPlan]
    rfl
  · rw [hLive]

section
variable {s : State} {num : Idx} {line : Nat} {plateEnd : Bool} {gc scoreLate tolerance : Nat}

/-- The cut list takes the cut. -/
theorem State.handOn_room (hRoom : s.link.cuts.length < 16) (hOver : s.link.overflow = false) :
    let t := s.handOn num line plateEnd gc scoreLate tolerance
    s.HandsOn t ∧ t.plan = s.plan ∧ t.link.cuts.map (·.num) = s.link.cuts.map (·.num) ++ [num]
    ∧ ∃ x, t.link.cuts.getLast? = some x ∧ x.line = line ∧ x.plateEnd = plateEnd ∧ x.tolerance = tolerance
        ∧ (x.status = .unsent ∨ x.status = .queued) := by
  intro t
  let c : Cut := { num := num, line := line, plateEnd := plateEnd, gc := gc, scoreLate := scoreLate,
                   tolerance := tolerance, status := .unsent, repeats := 0, timer := none, actual := 0, offset := false,
                   cause := none, reason := 0 }
  let u := s.modLink (fun l => { l with next := num + 1, cuts := l.cuts ++ [c] })
  have ht : t = (u.heldUnsent num).fillQueue := by
    refine if_neg (not_or.2 ⟨not_le.2 hRoom, ?_⟩)
    rw [hOver]
    exact Bool.false_ne_true
  have hHeld := State.heldUnsent_frame num u
  have hFilled := State.fillQueue_filled (u.heldUnsent num)
  rw [← ht] at hFilled
  have hSame := hFilled.same
  have hPlan : t.plan = s.plan := by
    rw [hSame, hHeld]
    rfl
  have hSteady : Steady u t := by
    rw [ht]
    exact ((Works.refl u).heldUnsent.fillQueue).steady
  obtain ⟨g, hCuts, hMay⟩ := hFilled.cuts
  have hList : (u.heldUnsent num).link.cuts = s.link.cuts ++ [c] := by
    rw [hHeld]
    rfl
  rw [hList] at hCuts
  refine ⟨⟨?_, ?_, ?_, hSteady.flags⟩, hPlan, ?_, g c, ?_, ?_⟩
  · rw [hSame, hHeld]
    rfl
  · rw [hPlan]
  · rw [hSame, hHeld]
    rfl
  · rw [hCuts, List.map_map, List.map_append]
    refine congrArg₂ (· ++ ·) (List.map_congr_left fun x _ => (hMay x).num_eq) ?_
    exact congrArg (fun n => [n]) (hMay c).num_eq
  · rw [hCuts, List.map_append]
    exact List.getLast?_concat
  · rcases hMay c with h | ⟨h, -⟩
    · rw [h]
      exact ⟨rfl, rfl, rfl, .inl rfl⟩
    · rw [h]
      exact ⟨rfl, rfl, rfl, .inr rfl⟩

/-- The cut is MISSED at once. -/
theorem State.handOn_full (hFull : 16 ≤ s.link.cuts.length ∨ s.link.overflow = true) :
    let t := s.handOn num line plateEnd gc scoreLate tolerance
    s.HandsOn t ∧ t.plan = s.plan.recorded num .missed ∧ t.link.cuts = s.link.cuts ∧ t.link.next = num + 1
    ∧ t.link.counters.fullMisses = inc32 s.link.counters.fullMisses
    ∧ t.link.counters.missed[0] = inc32 s.link.counters.missed[0] ∧ t.ev.pending.getLsbD 21 = true
    ∧ (t.link.overflow = true ↔ s.link.cuts ≠ []) ∧ t.tally.live.missed = tallyAdd s.tally.live.missed 1 := by
  intro t
  let u := s.modLink (fun l => { l with
    next := num + 1, overflow := !l.cuts.isEmpty,
    counters := { l.counters with fullMisses := inc32 l.counters.fullMisses } })
  have ht : t = u.reportMissed num .full 0 := if_pos hFull
  have hHands := State.reportMissed_handsOn num .full 0 u
  obtain ⟨hLink, hPlan, hLive, hFlag⟩ := State.reportMissed_parts num .full 0 u
  rw [← ht] at hHands hPlan hLive hLink hFlag
  refine ⟨⟨hHands.frame.trans rfl, hHands.plan, hHands.committed, hHands.flags⟩, hPlan, ?_, ?_, ?_, ?_, hFlag, ?_, by rw [hLive]; rfl⟩
  · rw [hLink]
    rfl
  · rw [hLink]
    rfl
  · rw [hLink]
    rfl
  · rw [hLink]
    exact upd_getElem_self _ (0 : Fin 7) _
  · rw [hLink]
    change (!s.link.cuts.isEmpty) = true ↔ _
    rw [Bool.not_eq_true', List.isEmpty_eq_false_iff]

end

/-! ## The committing row (R112, R113) -/

/-- A row that commits with a trailing cut. -/
def Row.committing (cut : CutRef) (r : Row) : Row :=
  { r with
    state := .committed, unsealed := r.state = .planned,
    lanes := if r.state = .planned then r.lanes.map (fun l => { l with unsealed := true }) else r.lanes, trailing := some cut }

/-- The trailing cut of a row that commits. -/
def Planner.newCut (p : Planner) (c : Campaign) : CutRef := { num := p.nextCut, tolerance := c.tolerance, res := .unresolved }

/-- The part once a row is committed, before its cut is handed on. -/
def State.commits (r : Row) (c : Campaign) (s : State) : State :=
  let late : Bool := r.state = .planned && decide (r.kind = .plate)
  ((s.modPlan (fun p =>
    { p with
      rows := giveLeading r.num (s.plan.newCut c)
        (p.rows.map (fun x => if x.num = r.num then r.committing (s.plan.newCut c) else x)),
      orders := r.lanes.foldl commitLane p.orders, nextCut := p.nextCut + 1,
      counters := { p.counters with unsealed := if late then inc32 p.counters.unsealed else p.counters.unsealed } })
    ).raiseIf late .rowUnsealed r.num r.stop).tallied (fun t => { t with committed := tallyAdd t.committed 1 })

theorem State.commitRow_eq (r : Row) (c : Campaign) (s : State) : s.commitRow r c =
    (s.commits r c).handOn s.plan.nextCut r.stop (r.kind = .plate) c.gc c.scoreLate c.tolerance := by
  unfold State.commitRow State.commits Row.committing Planner.newCut
  simp only [decide_eq_true_eq]

theorem State.commits_parts (r : Row) (c : Campaign) (s : State) :
    let t := s.commits r c
    t = { s with plan := t.plan, tally := t.tally, ev := t.ev, rings := t.rings }
    ∧ t.plan.rows = giveLeading r.num (s.plan.newCut c)
        (s.plan.rows.map (fun x => if x.num = r.num then r.committing (s.plan.newCut c) else x))
    ∧ t.plan.orders = r.lanes.foldl commitLane s.plan.orders ∧ t.plan.nextCut = s.plan.nextCut + 1
    ∧ t.plan.slots = s.plan.slots
    ∧ t.tally.live.committed = tallyAdd s.tally.live.committed 1 ∧ t.tally.live.missed = s.tally.live.missed
    ∧ (r.state = .planned → r.kind = .plate →
        t.plan.counters.unsealed = inc32 s.plan.counters.unsealed ∧ t.ev.pending.getLsbD 18 = true) := by
  intro t
  let late : Bool := r.state = .planned && decide (r.kind = .plate)
  let u : State := s.modPlan (fun p =>
    { p with
      rows := giveLeading r.num (s.plan.newCut c)
        (p.rows.map (fun x => if x.num = r.num then r.committing (s.plan.newCut c) else x)),
      orders := r.lanes.foldl commitLane p.orders, nextCut := p.nextCut + 1,
      counters := { p.counters with unsealed := if late then inc32 p.counters.unsealed else p.counters.unsealed } })
  let v := u.raiseIf late .rowUnsealed r.num r.stop
  have hv : v = _ := State.raiseIf_frame u late .rowUnsealed r.num r.stop
  have hPlan : t.plan = u.plan := (congrArg (·.plan) hv :)
  have hTally : v.tally = s.tally := (congrArg (·.tally) hv :)
  refine ⟨?_, ?_, ?_, ?_, ?_, ?_, ?_, fun hPlanned hPlate => ?_⟩
  · rw [hPlan]
    have hCounted : t = { v with tally := t.tally } := rfl
    exact hCounted.trans (by rw [hv]; rfl)
  · rw [hPlan]
    rfl
  · rw [hPlan]
    rfl
  · rw [hPlan]
    rfl
  · rw [hPlan]
    rfl
  · change tallyAdd v.tally.live.committed 1 = _
    rw [hTally]
  · change v.tally.live.missed = _
    rw [hTally]
  · have hLate : late = true := by
      change (decide (r.state = .planned) && decide (r.kind = .plate)) = true
      rw [hPlanned, hPlate]
      rfl
    refine ⟨?_, ?_⟩
    · rw [hPlan]
      exact if_pos hLate
    · have hRaised : v = u.raise .rowUnsealed r.num r.stop := if_pos hLate
      change v.ev.pending.getLsbD 18 = true
      rw [hRaised]
      exact State.raise_sets .rowUnsealed _ _ _

/-- What is said of every row whatever its leading cut holds once a leading cut is given. -/
theorem forall_giveLeading {P : Row → Prop} (hP : ∀ r k, P r → P { r with leading := k }) (num : Nat) (cut : CutRef)
    (rows : List Row) (h : ∀ x ∈ rows, P x) : ∀ x ∈ giveLeading num cut rows, P x := by
  induction rows with
  | nil => exact h
  | cons r rest ih =>
    cases rest with
    | nil => exact h
    | cons q rest =>
      obtain ⟨hFirst, hRest⟩ := List.forall_mem_cons.1 h
      obtain ⟨hSecond, hTail⟩ := List.forall_mem_cons.1 hRest
      unfold giveLeading
      split
      · exact List.forall_mem_cons.2 ⟨hFirst, List.forall_mem_cons.2 ⟨hP q _ hSecond, hTail⟩⟩
      · exact List.forall_mem_cons.2 ⟨hFirst, ih hRest⟩

/-- The rows with the number of the committing row. -/
theorem State.commits_row (r : Row) (c : Campaign) (s : State) : ∀ x ∈ (s.commits r c).plan.rows, x.num = r.num →
    x.state = .committed ∧ x.trailing = some (s.plan.newCut c) ∧ (x.unsealed = true ↔ r.state = .planned) := by
  obtain ⟨-, hRows, -⟩ := State.commits_parts r c s
  rw [hRows]
  refine forall_giveLeading (P := fun x => x.num = r.num →
    x.state = .committed ∧ x.trailing = some (s.plan.newCut c) ∧ (x.unsealed = true ↔ r.state = .planned))
    (fun _ _ h => h) r.num (s.plan.newCut c) _ fun x hx hNum => ?_
  obtain ⟨y, -, rfl⟩ := List.mem_map.1 hx
  by_cases hy : y.num = r.num
  · rw [if_pos hy]
    exact ⟨rfl, rfl, decide_eq_true_iff⟩
  · rw [if_neg hy] at hNum
    exact absurd hNum hy

section
variable {r : Row} {c : Campaign} {s : State}

theorem State.commitTest_waits (hRow : s.plan.rows.find? Row.uncommitted = some r)
    (hCampaign : s.plan.slots[r.slot].campaign = some c) (h : s.pos.line < r.stop + c.commitOffset) : s.commitTest = s := by
  unfold State.commitTest Config.rowMax State.commitLoop
  rw [hRow]
  dsimp only
  rw [State.campaignOf, hCampaign]
  exact if_neg (not_le.2 h)

theorem State.commitTest_commits (hRow : s.plan.rows.find? Row.uncommitted = some r)
    (hCampaign : s.plan.slots[r.slot].campaign = some c) (h : r.stop + c.commitOffset ≤ s.pos.line) :
    s.commitTest = State.commitLoop 63 (s.commitRow r c) := by
  unfold State.commitTest Config.rowMax
  rw [State.commitLoop, hRow]
  dsimp only
  rw [State.campaignOf, hCampaign]
  exact if_pos h

end

/-! ## Shifts (R110) -/

/-- The fatal last line of a lane that holds an order. -/
def fatalOf (x : LanePlate × PlateResult) : Option Nat := if x.1.order ≠ none then x.2.fatalLast else none

theorem fatalOf_eq {x : LanePlate × PlateResult} {m : Nat} : fatalOf x = some m ↔ x.1.order ≠ none ∧ x.2.fatalLast = some m := by
  unfold fatalOf
  split
  next h => exact ⟨fun hm => ⟨h, hm⟩, fun hm => hm.2⟩
  next h => exact ⟨fun hm => (by cases hm), fun hm => absurd hm.1 h⟩

/-- The higher of two lines. -/
def higherOf (acc : Option Nat) (n : Option Nat) : Option Nat :=
  match n with
  | none => acc
  | some n => some (match acc with
    | none => n
    | some m => max m n)

theorem fatalLine_eq (lanes : List LanePlate) (res : List PlateResult) :
    fatalLine lanes res = (lanes.zip res).foldl (fun acc x => higherOf acc (fatalOf x)) none := by
  unfold fatalLine
  refine congrArg (fun f => (lanes.zip res).foldl f none) (funext₂ fun acc x => ?_)
  obtain ⟨l, r⟩ := x
  unfold fatalOf higherOf
  dsimp only
  cases hOrder : l.order with
  | none => rfl
  | some id => cases hFatal : r.fatalLast <;> rfl

theorem foldl_higherOf (l : List (LanePlate × PlateResult)) :
    (l.foldl (fun acc x => higherOf acc (fatalOf x)) none = none ∧ ∀ x ∈ l, fatalOf x = none)
    ∨ ∃ m, l.foldl (fun acc x => higherOf acc (fatalOf x)) none = some m ∧ (∃ x ∈ l, fatalOf x = some m)
        ∧ ∀ x ∈ l, ∀ k, fatalOf x = some k → k ≤ m := by
  induction l using List.reverseRecOn with
  | nil => exact .inl ⟨rfl, fun _ h => absurd h List.not_mem_nil⟩
  | append_singleton l x ih =>
    have hLast : ∀ {P : LanePlate × PlateResult → Prop}, (∀ y ∈ l, P y) → P x → ∀ y ∈ l ++ [x], P y := fun hAll hx =>
      List.forall_mem_append.2 ⟨hAll, List.forall_mem_singleton.2 hx⟩
    rw [List.foldl_append, List.foldl_cons, List.foldl_nil]
    cases hx : fatalOf x with
    | none =>
      refine ih.imp (fun ⟨hNone, hAll⟩ => ⟨hNone, hLast hAll hx⟩) fun ⟨m, hSome, ⟨y, hy, hAt⟩, hMax⟩ => ?_
      exact ⟨m, hSome, ⟨y, List.mem_append_left _ hy, hAt⟩, hLast hMax fun k hk => by rw [hx] at hk; cases hk⟩
    | some n =>
      refine .inr ?_
      rcases ih with ⟨hNone, hAll⟩ | ⟨m, hSome, ⟨y, hy, hAt⟩, hMax⟩
      · refine ⟨n, by rw [hNone]; rfl, ⟨x, List.mem_append_right _ (List.mem_singleton_self x), hx⟩,
          hLast (fun y hy k hk => ?_) fun k hk => ?_⟩
        · rw [hAll y hy] at hk
          cases hk
        · rw [hx] at hk
          cases hk
          exact le_rfl
      · refine ⟨max m n, by rw [hSome]; rfl, ?_, hLast (fun y hy k hk => (hMax y hy k hk).trans (le_max_left m n))
          fun k hk => ?_⟩
        · rcases le_total m n with h | h
          · exact ⟨x, List.mem_append_right _ (List.mem_singleton_self x), by rw [hx, max_eq_right h]⟩
          · exact ⟨y, List.mem_append_left _ hy, by rw [hAt, max_eq_left h]⟩
        · rw [hx] at hk
          cases hk
          exact le_max_right m n

theorem fatalLine_iff {lanes : List LanePlate} {res : List PlateResult} {m : Nat} : fatalLine lanes res = some m ↔
    (∃ x ∈ lanes.zip res, x.1.order ≠ none ∧ x.2.fatalLast = some m)
      ∧ ∀ k, (∃ x ∈ lanes.zip res, x.1.order ≠ none ∧ x.2.fatalLast = some k) → k ≤ m := by
  simp only [← fatalOf_eq]
  rw [fatalLine_eq]
  rcases foldl_higherOf (lanes.zip res) with ⟨hNone, hAll⟩ | ⟨n, hSome, hAt, hMax⟩
  · rw [hNone]
    refine ⟨fun h => (by cases h), fun ⟨⟨x, hx, hFatal⟩, _⟩ => ?_⟩
    rw [hAll x hx] at hFatal
    cases hFatal
  · rw [hSome]
    refine ⟨fun h => ?_, fun ⟨⟨x, hx, hFatal⟩, hTop⟩ => ?_⟩
    · cases h
      exact ⟨hAt, fun k ⟨x, hx, hk⟩ => hMax x hx k hk⟩
    · exact congrArg some (le_antisymm (hTop n hAt) (hMax x hx m hFatal))

section
variable {r : Row} {c : Campaign} {res : List PlateResult} {s : State} {start : Nat}

theorem State.shiftStart_iff : s.shiftStart r c res = some start ↔ ∃ m, fatalLine r.lanes res = some m ∧ c.avoidShift = true
    ∧ m < r.start + c.strip ∧ r.shifts < 3 ∧ start = max (m + 1 + c.clearance) (r.start + c.minCut)
    ∧ s.pos.line < start + c.commitOffset ∧ (s.plan.rows.takeWhile (fun x => x.num ≠ r.num)).length + 2 ≤ 64 := by
  unfold State.shiftStart
  cases hFatal : fatalLine r.lanes res with
  | none =>
    exact ⟨fun h => (by cases h), fun ⟨m, hm, _⟩ => (by cases hm)⟩
  | some m =>
    dsimp only
    rw [Option.ite_none_right_eq_some]
    simp only [Bool.and_eq_true, decide_eq_true_eq, and_assoc, Option.some.injEq]
    constructor
    · rintro ⟨hAvoid, hStrip, hShifts, hLine, hTable, rfl⟩
      exact ⟨m, rfl, hAvoid, hStrip, hShifts, rfl, hLine, hTable⟩
    · rintro ⟨n, hn, hAvoid, hStrip, hShifts, rfl, hLine, hTable⟩
      cases hn
      exact ⟨hAvoid, hStrip, hShifts, hLine, hTable, rfl⟩

end

/-- The part once a row is shifted, before the event. -/
def State.shifted (r : Row) (start : Nat) (s : State) : State :=
  let s1 := s.modPlan (fun p => p.discard (fun x => x.state = .planned && r.start < x.start))
  let cullet : Row :=
    { num := s1.plan.nextRow, kind := .shift, slot := r.slot, start := r.start, stop := start, state := .planned,
      unsealed := false, shifts := 0, lanes := [], leading := r.leading, trailing := none, extremes := r.extremes }
  let moved : Row :=
    { r with start := start, stop := start + (r.stop - r.start), state := .planned, shifts := r.shifts + 1, leading := none }
  s1.modPlan (fun p =>
    { p with rows := insertBefore cullet moved p.rows, nextRow := nextNumber p.nextRow,
             counters := { p.counters with laid := inc32 p.counters.laid, shifted := inc32 p.counters.shifted } })

theorem State.shiftRow_eq (r : Row) (start : Nat) (s : State) : s.shiftRow r start =
    (((s.shifted r start).raise .rowShifted r.num start).runPlanning).commitTest := rfl

theorem State.shifted_parts (r : Row) (start : Nat) (s : State) :
    let u := s.shifted r start
    u = { s with plan := u.plan } ∧ u.plan.slots = s.plan.slots ∧ u.plan.nextRow = nextNumber s.plan.nextRow
    ∧ u.plan.counters.shifted = inc32 s.plan.counters.shifted
    ∧ u.plan.rows = (s.plan.rows.filter (fun x => !(x.state = .planned && r.start < x.start))).flatMap (fun y =>
        if y.num = r.num then
          [{ num := s.plan.nextRow, kind := .shift, slot := r.slot, start := r.start, stop := start, state := .planned,
             unsealed := false, shifts := 0, lanes := [], leading := r.leading, trailing := none, extremes := r.extremes },
           { r with
             start := start, stop := start + (r.stop - r.start), state := .planned, shifts := r.shifts + 1, leading := none }]
        else [y]) := by
  intro u
  obtain ⟨hRows, -, hCounters, hSlots, hNext, -⟩ :=
    Planner.discard_parts (fun x => x.state = .planned && r.start < x.start) s.plan
  refine ⟨rfl, hSlots, congrArg nextNumber hNext, ?_, ?_⟩
  · exact congrArg inc32 (congrArg PlanCounters.shifted hCounters :)
  · change insertBefore _ _ (s.plan.discard (fun x => x.state = .planned && r.start < x.start)).rows = _
    rw [hRows]
    unfold insertBefore
    change (List.filter _ _).flatMap (fun y => if y.num = r.num then
      [({ num := (s.plan.discard (fun x => x.state = .planned && r.start < x.start)).nextRow,
          kind := .shift, slot := r.slot, start := r.start, stop := start, state := .planned, unsealed := false, shifts := 0,
          lanes := [], leading := r.leading, trailing := none, extremes := r.extremes } : Row), _] else [y]) = _
    rw [hNext]

/-! ## Reassignment (R111) -/

/-- The test that an order takes over a lane by. -/
def Order.takesOver (length lane : Nat) (g : Grade) (o : Order) : Bool :=
  o.state = .active && o.length = length && o.allows lane && 1 ≤ o.available && g.meets o.grade

theorem Grade.meets_iff {g required : Grade} : g.meets required = true ↔ g ≠ .reject ∧ g.code ≤ required.code := by
  unfold Grade.meets
  rw [Bool.and_eq_true, decide_eq_true_eq, decide_eq_true_eq]

theorem Order.takesOver_iff {length lane : Nat} {g : Grade} {o : Order} : o.takesOver length lane g = true ↔
    o.state = .active ∧ o.length = length ∧ o.laneMask.getLsbD lane = true ∧ 1 ≤ o.remaining - o.planned ∧ g ≠ .reject
      ∧ g.code ≤ o.grade.code := by
  unfold Order.takesOver
  simp only [Bool.and_eq_true, decide_eq_true_eq, Grade.meets_iff, and_assoc]
  rfl

theorem reassignTo_eq (length lane : Nat) (g : Grade) (os : List Order) :
    reassignTo length lane g os = bestOrder (Order.takesOver length lane g) os := rfl

section
variable {length lane id : Nat} {g : Grade} {os : List Order} {l : LanePlate} {o x : Order} {rest : List (LanePlate × Nat)}
  (hOrder : l.order = some id) (hGrade : l.provisional = some g) (hFound : findOrder id os = some o)

include hOrder hGrade hFound

theorem reassignLanes_keeps (h : g.meets o.grade = true ∨ reassignTo length lane g os = none) :
    reassignLanes length ((l, lane) :: rest) os = (l :: (reassignLanes length rest os).1,
      (reassignLanes length rest os).2.1, (reassignLanes length rest os).2.2) := by
  rw [reassignLanes, hOrder, hGrade]
  dsimp only
  rw [hFound]
  dsimp only
  split
  · rfl
  next hFails =>
    rw [h.resolve_left hFails]

theorem reassignLanes_moves (hFails : ¬ g.meets o.grade = true) (hTo : reassignTo length lane g os = some x) :
    reassignLanes length ((l, lane) :: rest) os =
      let os1 := modOrder x.id (fun y => { y with planned := y.planned + 1 })
        (modOrder id (fun y => { y with planned := y.planned - 1 }) os)
      ({ l with order := some x.id, reassigned := true } :: (reassignLanes length rest os1).1,
        (reassignLanes length rest os1).2.1, (reassignLanes length rest os1).2.2 + 1) := by
  rw [reassignLanes, hOrder, hGrade]
  dsimp only
  rw [hFound]
  dsimp only
  rw [if_neg hFails, hTo]

end

/-! ## Sealing (R108 to R111) -/

/-- An open blob that no carry keeps and that starts below a line. -/
def State.openBelow (s : State) (f : Nat) : Prop := ∃ b ∈ s.blobs.entries, b.carried = false ∧ b.first < f

theorem Blobs.oldestOpen_ge (t : Blobs) (f : Nat) :
    (∀ x, t.oldestOpen = some x → f ≤ x) ↔ ∀ b ∈ t.entries, b.carried = false → f ≤ b.first := by
  unfold Blobs.oldestOpen
  have hFold : ∀ (l : List Blob) (acc : Option Nat), (∀ x, l.foldl (fun acc b =>
      if b.carried then acc
      else match acc with
        | none => some b.first
        | some f => some (min f b.first)) acc = some x → f ≤ x) ↔
      (∀ x, acc = some x → f ≤ x) ∧ ∀ b ∈ l, b.carried = false → f ≤ b.first := by
    intro l
    induction l with
    | nil => exact fun acc => ⟨fun h => ⟨h, fun _ hb => absurd hb List.not_mem_nil⟩, fun h => h.1⟩
    | cons b l ih =>
      intro acc
      rw [List.foldl_cons, ih, List.forall_mem_cons, ← and_assoc]
      refine and_congr_left fun _ => ?_
      cases hCarried : b.carried with
      | true => simp
      | false =>
        cases acc with
        | none => simp
        | some a => simp
  exact (hFold t.entries none).trans ⟨fun h => h.2, fun h => ⟨fun x hx => (by cases hx), h⟩⟩

theorem sealsAt_iff {lg n : Nat} {f : Option Nat} {r : Row} :
    sealsAt lg n f r = true ↔ r.stop + lg + 1 ≤ n ∧ ∀ x, f = some x → r.stop ≤ x := by
  unfold sealsAt
  cases f with
  | none => simp
  | some x => simp

theorem State.sealsAt_iff {s : State} {n : Nat} {r : Row} : sealsAt s.ing.detect.lg n s.blobs.oldestOpen r = true ↔
    r.stop + s.ing.detect.lg + 1 ≤ n ∧ ¬ s.openBelow r.stop := by
  rw [Machine.sealsAt_iff, Blobs.oldestOpen_ge]
  refine and_congr_right fun _ => ?_
  unfold State.openBelow
  push Not
  rfl

section
variable {n fuel : Nat} {f : Option Nat} {s : State} {r : Row} {c : Campaign}

theorem State.sealLoop_none (h : s.plan.rows.find? (fun x => x.state = .planned) = none) : State.sealLoop n f fuel s = s := by
  cases fuel with
  | zero => rfl
  | succ fuel =>
    unfold State.sealLoop
    rw [h]

variable (hRow : s.plan.rows.find? (fun x => x.state = .planned) = some r) (hCampaign : s.plan.slots[r.slot].campaign = some c)

include hRow hCampaign

theorem State.sealLoop_row : State.sealLoop n f (fuel + 1) s =
    if sealsAt s.ing.detect.lg n f r = true then
      if (s.sealRow r c).2 = true then State.sealLoop n f fuel (s.sealRow r c).1 else (s.sealRow r c).1
    else s := by
  rw [State.sealLoop, hRow]
  dsimp only
  rw [State.campaignOf, hCampaign]
  dsimp only
  split
  · obtain ⟨t, goes⟩ := s.sealRow r c
    cases goes <;> rfl
  · rfl

end

/-- The row with the provisional grades of its lanes. -/
def Row.gradedBy (r : Row) (res : List PlateResult) : Row :=
  { r with lanes := (r.lanes.zip res).map (fun (l, g) => { l with provisional := some g.grade }) }

/-- The part once a plate row is graded. -/
def State.judged (s : State) (r : Row) (c : Campaign) : State :=
  (s.modGrader (fun g => { g with counters := { g.counters with provisional := inc32 g.counters.provisional } })).setRow
    (r.gradedBy (c.lanes.map (s.gradeProvisional c r)))

section
variable {r : Row} {c : Campaign} {s : State}

theorem State.sealRow_cullet (h : r.kind ≠ .plate) : s.sealRow r c = (s.setRow { r with state := .sealed }, true) := if_pos h

theorem State.sealRow_plate (h : r.kind = .plate) : s.sealRow r c =
    let res := c.lanes.map (s.gradeProvisional c r)
    match (s.judged r c).shiftStart (r.gradedBy res) c res with
    | some start => ((s.judged r c).shiftRow (r.gradedBy res) start, false)
    | none => ((s.judged r c).acceptRow (r.gradedBy res) c, true) :=
  if_neg (not_not.2 h)

theorem State.acceptRow_plain (h : c.avoidReassign = false) : s.acceptRow r c = s.setRow { r with state := .sealed } :=
  if_neg (by rw [h]; exact Bool.false_ne_true)

end

/-- Settles O51. -/
theorem rowCommitsAtCommitLine : Obligations.RowCommitsAtCommitLine := by
  refine ⟨fun r c s hCampaign => ?commit, fun n s => ?done, fun r c res s start => ?shift, fun length lane g os => ?reassign,
    fun r c s hAvoid => ?accept, fun num res s => ?resolve⟩
  case commit =>
    intro t
    obtain ⟨hFrame, -, hOrders, hNext, hSlots, hCommitted, hMissed, hUnsealed⟩ := State.commits_parts r c s
    have ht : t = _ := State.commitRow_eq r c s
    have hLink : (s.commits r c).link = s.link := (congrArg (·.link) hFrame :)
    have hCommits := State.commits_row r c s
    have hHands : (s.commits r c).HandsOn t := by
      rw [ht]
      by_cases hFull : 16 ≤ s.link.cuts.length ∨ s.link.overflow = true
      · exact (State.handOn_full (hLink ▸ hFull)).1
      · obtain ⟨hRoom, hOver⟩ := not_or.1 hFull
        exact (State.handOn_room (hLink ▸ not_le.1 hRoom) (hLink ▸ Bool.eq_false_iff.2 hOver)).1
    have hPlan := hHands.plan
    have hBook : t.plan.orders = r.lanes.foldl commitLane s.plan.orders := (congrArg Planner.orders hPlan).trans hOrders
    have hKeeps : ∀ {α : Type} (g : State → α),
        (∀ v pl l gr ta e ri, g { v with plan := pl, link := l, grader := gr, tally := ta, ev := e, rings := ri } = g v) →
        g t = g s := fun g hg =>
      ((congrArg g hHands.frame).trans (hg _ _ _ _ _ _ _)).trans ((congrArg g hFrame).trans (hg s _ s.link s.grader _ _ _))
    refine ⟨fun hRow => ⟨State.commitTest_waits hRow hCampaign, State.commitTest_commits hRow hCampaign⟩,
      (congrArg Planner.nextCut hPlan).trans hNext, hHands.committed.trans hCommitted, fun hPlanned hPlate => ?_,
      hBook.trans (foldl_commitLane _ _), fun hNone => ?_, fun l id hOne hId => ?_, fun hRoom hOver => ?_, fun hFull => ?_,
      hKeeps (·.pos) fun _ _ _ _ _ _ _ => rfl, hKeeps (·.path) fun _ _ _ _ _ _ _ => rfl,
      hKeeps (·.ing) fun _ _ _ _ _ _ _ => rfl, (congrArg Planner.slots hPlan).trans hSlots⟩
    · obtain ⟨hCount, hFlag⟩ := hUnsealed hPlanned hPlate
      exact ⟨(congrArg (fun p : Planner => p.counters.unsealed) hPlan).trans hCount, hHands.flags 18 hFlag⟩
    · rw [hBook, hNone]
      rfl
    · rw [hBook, hOne, List.foldl_cons, List.foldl_nil, commitLane, hId]
    · obtain ⟨-, hSame, hNums, x, hLast, hCut⟩ := State.handOn_room (s := s.commits r c) (num := s.plan.nextCut)
        (line := r.stop) (plateEnd := r.kind = .plate) (gc := c.gc) (scoreLate := c.scoreLate) (tolerance := c.tolerance)
        (hLink ▸ hRoom) (hLink ▸ hOver)
      rw [← ht] at hSame hNums hLast
      rw [hLink] at hNums
      refine ⟨fun y hy hNum => ?_, hNums, x, hLast, hCut⟩
      rw [hSame] at hy
      exact hCommits y hy hNum
    · obtain ⟨-, hSame, hCuts, hAfter, hCount, hFirst, hFlag, hOver, hTally⟩ := State.handOn_full (s := s.commits r c)
        (num := s.plan.nextCut) (line := r.stop) (plateEnd := r.kind = .plate) (gc := c.gc) (scoreLate := c.scoreLate)
        (tolerance := c.tolerance) (hLink ▸ hFull)
      rw [← ht] at hSame hCuts hAfter hCount hFirst hFlag hOver hTally
      rw [hLink] at hCuts hCount hFirst hOver
      rw [hMissed] at hTally
      refine ⟨hCuts, hAfter, hCount, hFirst, hFlag, hOver, hTally, fun y hy hNum => ?_⟩
      rw [hSame, Planner.recorded_rows] at hy
      obtain ⟨x, hx, rfl⟩ := List.mem_map.1 hy
      rw [Row.cutTest_eq] at hNum ⊢
      obtain ⟨-, hTrailing, -⟩ := hCommits x hx hNum
      change recordIn s.plan.nextCut .missed x.trailing = _
      rw [hTrailing]
      exact if_pos rfl
  case done =>
    intro open_
    refine ⟨fun hNone => State.sealLoop_none (List.find?_eq_none.2 fun r hr => by simpa using hNone r hr),
      fun r c hRow hCampaign => ⟨fun hWaits => ?_, fun hBehind hClosed => ?_⟩⟩
    · refine (State.sealLoop_row hRow hCampaign).trans (if_neg fun hSeals => ?_)
      obtain ⟨hBehind, hClosed⟩ := State.sealsAt_iff.1 hSeals
      exact hWaits.elim (fun h => absurd hBehind (not_le.2 h)) hClosed
    · intro sealed res graded put judged
      have hTurn : s.lineDone n = _ :=
        (State.sealLoop_row hRow hCampaign).trans (if_pos (State.sealsAt_iff.2 ⟨hBehind, hClosed⟩))
      refine ⟨fun hStops => ?_, fun hGoes => ?_, fun hCullet => State.sealRow_cullet hCullet, fun hPlate => ?_⟩
      · exact hTurn.trans (if_neg (by rw [show (s.sealRow r c).2 = false from hStops]; exact Bool.false_ne_true))
      · exact hTurn.trans (if_pos hGoes)
      · have hSealed : sealed = _ := State.sealRow_plate hPlate
        refine ⟨fun start hShift => ?_, fun hStays => ?_⟩
        · have hShift' : (s.judged r c).shiftStart (r.gradedBy res) c res = some start := hShift
          rw [hSealed]
          dsimp only
          rw [hShift']
          rfl
        · have hStays' : (s.judged r c).shiftStart (r.gradedBy res) c res = none := hStays
          have hAccepts : sealed = (judged.acceptRow graded c, true) := by
            rw [hSealed]
            dsimp only
            rw [hStays']
            rfl
          refine ⟨hAccepts, fun hPlain => ?_⟩
          rw [hAccepts]
          exact State.acceptRow_plain hPlain
  case shift =>
    intro fatal
    refine ⟨State.shiftStart_iff.trans ⟨fun ⟨m, hFatal, hRest⟩ => ?_, fun ⟨m, hFatal, hMax, hRest⟩ => ?_⟩,
      s.shifted r start, State.shiftRow_eq r start s, State.shifted_parts r start s⟩
    · obtain ⟨hAt, hMax⟩ := fatalLine_iff.1 hFatal
      exact ⟨m, hAt, hMax, hRest⟩
    · exact ⟨m, fatalLine_iff.2 ⟨hFatal, hMax⟩, hRest⟩
  case reassign =>
    intro fits
    rw [reassignTo_eq]
    refine ⟨bestOrder_eq_none.trans (forall₂_congr fun o _ => Bool.eq_false_iff.trans (not_congr Order.takesOver_iff)),
      fun o hSome => ?_, fun l id o rest hOrder hGrade hFound => ?_⟩
    · obtain ⟨before, after, hSplit, hFits, hBefore, hAfter⟩ := bestOrder_best hSome
      exact ⟨before, after, hSplit, Order.takesOver_iff.1 hFits, fun x hx h => hBefore x hx (Order.takesOver_iff.2 h),
        fun x hx h => hAfter x hx (Order.takesOver_iff.2 h)⟩
    · refine ⟨fun hKeeps => reassignLanes_keeps hOrder hGrade hFound (hKeeps.imp_left Grade.meets_iff.2), fun x hFails hTo => ?_⟩
      exact reassignLanes_moves hOrder hGrade hFound (mt Grade.meets_iff.1 hFails) hTo
  case accept => exact if_pos hAvoid
  case resolve =>
    intro t told over_
    have hTold : ∀ k, recordIn num res k = told k := recordIn_eq num res
    have hOver : ∀ k, resolved k = over_ k := resolved_eq
    let u : State := { s with plan := s.plan.recorded num res }
    have ht : t = u.handToGrader := rfl
    have hFrame : t = _ := State.recordResolution_frame num res s
    have hPlan : t.plan = s.plan.recorded num res := (congrArg (·.plan) hFrame :)
    rw [hPlan]
    refine ⟨?_, rfl, ?_, fun hBusy => ?_, fun hFree hFinal => ?_, fun before r after hFree hRows hBefore =>
      ⟨fun hNot hUncut => ?_, fun hCut => ?_⟩⟩
    · exact hFrame
    · rw [Planner.recorded_rows]
      refine List.map_congr_left fun r _ => ?_
      rw [Row.cutTest_eq]
      simp only [hTold, hOver]
    · exact congrArg (·.grader) (ht.trans (State.handToGrader_busy hBusy))
    · exact congrArg (·.grader) (ht.trans (State.handToGrader_allFinal hFinal))
    · exact congrArg (·.grader) (ht.trans (State.handToGrader_uncut (s := u) hRows hBefore hNot hUncut))
    · rw [ht]
      exact State.handToGrader_cut (s := u) hRows hBefore hFree hCut

end Sys2Proof.Machine
end
section
/-! PROOFS. The final grading of the waiting row (R98, R99, R116, R152 to R157, R161). -/

set_option Elab.async false

namespace Sys2Proof.Machine

/-! ## What leaves the tallies, the PLATE ring and the plate numbers -/

/-- The tallies, the PLATE ring and the counts of plates stand. -/
structure Untold (s t : State) : Prop where
  tally : t.tally = s.tally
  ring : t.rings[plateRing] = s.rings[plateRing]
  next : t.grader.nextPlate = s.grader.nextPlate
  plates : t.grader.counters.plates = s.grader.counters.plates
  cullet : t.grader.counters.cullet = s.grader.counters.cullet

namespace Untold

variable {s t u : State}

theorem refl (s : State) : Untold s s := ⟨rfl, rfl, rfl, rfl, rfl⟩

theorem trans (h : Untold s t) (k : Untold t u) : Untold s u :=
  ⟨k.tally.trans h.tally, k.ring.trans h.ring, k.next.trans h.next, k.plates.trans h.plates, k.cullet.trans h.cullet⟩

theorem modPlan (h : Untold s t) {f : Planner → Planner} : Untold s (t.modPlan f) := { h with }
theorem modLink (h : Untold s t) {f : Link → Link} : Untold s (t.modLink f) := { h with }
theorem giveRetire (h : Untold s t) : Untold s t.giveRetire := { h with }

theorem raise (h : Untold s t) {k : EventKind} {a b : Nat} : Untold s (t.raise k a b) := by
  have hFrame : t.raise k a b = _ := State.raise_frame
  have hGrader : (t.raise k a b).grader = t.grader := congrArg (·.grader) hFrame
  exact h.trans ⟨State.raise_tally .., State.raise_rings_of_ne (by decide), congrArg (·.nextPlate) hGrader,
    congrArg (·.counters.plates) hGrader, congrArg (·.counters.cullet) hGrader⟩

theorem layOpening (h : Untold s t) {o : Opening} {i : Fin 2} {c : Campaign} : Untold s (t.layOpening o i c) := by
  unfold State.layOpening
  dsimp only
  split
  · split
    · split
      · exact h.modPlan.modPlan
      · exact h.modPlan
    · exact h.modPlan.modPlan
  · split
    · exact h.modPlan.modPlan.giveRetire
    · exact h.modPlan.modPlan.giveRetire

theorem layGap (h : Untold s t) {i : Fin 2} {c : Campaign} {x : Nat} : Untold s (t.layGap i c x) := by
  unfold State.layGap
  exact modPlan (raise h.modPlan)

theorem layPlateRow (h : Untold s t) {i : Fin 2} {c : Campaign} {x : Nat} : Untold s (t.layPlateRow i c x) := by
  unfold State.layPlateRow
  split
  · exact h.modPlan.modPlan
  · exact h.modPlan

theorem layFromExtent {i : Fin 2} {c : Campaign} (fuel : Nat) (h : Untold s t) :
    Untold s (State.layFromExtent i c fuel t) := by
  induction fuel generalizing t with
  | zero => exact h
  | succ fuel ih =>
    unfold State.layFromExtent
    split
    · exact h
    · split
      · split
        · exact ih h.layGap
        · exact h.layPlateRow
      · exact h

theorem layLoop (fuel : Nat) (h : Untold s t) : Untold s (State.layLoop fuel t) := by
  induction fuel generalizing t with
  | zero => exact h
  | succ fuel ih =>
    unfold State.layLoop
    split
    · exact h
    · split
      · exact h
      · split
        · exact ih h.layOpening
        · split
          · exact ih (h.layFromExtent _)
          · exact h
        · exact h

theorem runPlanning (h : Untold s t) : Untold s t.runPlanning := h.layLoop _

theorem retireLoop (fuel : Nat) (h : Untold s t) : Untold s (State.retireLoop fuel t) := by
  induction fuel generalizing t with
  | zero => exact h
  | succ fuel ih =>
    unfold State.retireLoop
    split
    · split
      · exact ih h.modPlan.giveRetire.runPlanning
      · exact h
    · exact h

theorem testWaiting (h : Untold s t) : Untold s t.testWaiting := by
  unfold State.testWaiting
  split
  · exact h
  · split
    · exact h
    · exact { h with }

theorem handToGrader (h : Untold s t) : Untold s t.handToGrader := by
  unfold State.handToGrader
  split
  · split
    · exact testWaiting { h with }
    · exact h
  · exact h

theorem rowDone (h : Untold s t) {num : Nat} : Untold s (t.rowDone num) :=
  handToGrader (retireLoop Config.rowMax { h with })

end Untold

/-! ## The order accounting (R98, R99) -/

/-- The accounting for an order: no tally, no record, and no row more. -/
structure Accounts (s t : State) : Prop where
  untold : Untold s t
  rows : t.plan.rows.length ≤ s.plan.rows.length

namespace Accounts

variable {s t u : State}

theorem refl (s : State) : Accounts s s := ⟨Untold.refl s, le_rfl⟩

theorem trans (h : Accounts s t) (k : Accounts t u) : Accounts s u := ⟨h.untold.trans k.untold, k.rows.trans h.rows⟩

/-- A change of the order book. -/
theorem book (h : Accounts s t) {f : Planner → Planner} (hRows : (f t.plan).rows = t.plan.rows) : Accounts s (t.modPlan f) :=
  h.trans ⟨(Untold.refl t).modPlan, (congrArg List.length hRows).le⟩

theorem raise (h : Accounts s t) {k : EventKind} {a b : Nat} : Accounts s (t.raise k a b) :=
  h.trans ⟨(Untold.refl t).raise, (congrArg (·.rows.length) (State.raise_plan t k a b)).le⟩

theorem endCampaign (h : Accounts s t) : Accounts s t.endCampaign := by
  cases hActive : t.plan.active with
  | none => rwa [State.endCampaign_idle hActive]
  | some x =>
    obtain ⟨i, c⟩ := x
    obtain ⟨hFrame, hRows, -⟩ := State.endCampaign_active hActive
    refine h.trans ⟨?_, ?_⟩
    · rw [hFrame]
      exact ⟨rfl, rfl, rfl, rfl, rfl⟩
    · rw [hRows]
      exact List.length_filter_le _ _

theorem doneTest (h : Accounts s t) {id : Nat} : Accounts s (t.doneTest id) := by
  unfold State.doneTest
  split
  · exact h
  · split
    · dsimp only
      split
      · exact endCampaign (raise (h.book rfl))
      · exact raise (h.book rfl)
    · split
      · exact h.book rfl
      · exact h

theorem settle (h : Accounts s t) {id : Nat} {g : Grade} : Accounts s (t.settle id g).1 := by
  unfold State.settle
  split
  · exact h
  · split
    · exact doneTest (h.book rfl)
    · dsimp only
      split
      · exact doneTest (doneTest (h.book rfl))
      · exact doneTest (h.book rfl)

theorem laneOutcome (h : Accounts s t) {l : LanePlate} {g : Grade} : Accounts s (t.laneOutcome l g).1 := by
  unfold State.laneOutcome
  split
  · exact h.settle
  · exact h

theorem outcomes (ls : List (LanePlate × PlateResult)) (h : Accounts s t) : Accounts s (t.outcomes ls).1 := by
  induction ls generalizing t with
  | nil => exact h
  | cons x ls ih =>
    obtain ⟨l, g⟩ := x
    exact ih h.laneOutcome

end Accounts

theorem State.outcomes_length (ls : List (LanePlate × PlateResult)) (s : State) : (s.outcomes ls).2.length = ls.length := by
  induction ls generalizing s with
  | nil => rfl
  | cons x ls ih =>
    obtain ⟨l, g⟩ := x
    exact congrArg Nat.succ (ih _)

section
variable {s : State} {id : Nat} {g : Grade} {x o f : Order}

theorem State.settle_met (h : findOrder id s.plan.orders = some x) (hMeets : g.meets x.grade = true) : s.settle id g =
    ((s.modPlan (fun p => { p with orders := modOrder id (fun o =>
      { o with reserved := o.reserved - 1, made := o.made + 1 }) p.orders })).doneTest id, .made) := by
  unfold State.settle
  rw [h]
  exact if_pos hMeets

/-- The order whose plate failed takes its plate back. -/
def giveBack (id : Nat) (os : List Order) : List Order :=
  modOrder id (fun o => { o with reserved := o.reserved - 1, remaining := o.remaining + 1 }) os

theorem State.settle_fallback (h : findOrder id s.plan.orders = some x) (hFails : ¬ g.meets x.grade = true)
    (hFallback : fallbackFor g x s.plan.orders = some f) : s.settle id g =
      (((s.modPlan (fun p => { p with orders := modOrder f.id (fun o =>
        { o with remaining := o.remaining - 1, made := o.made + 1 }) (giveBack id p.orders) })).doneTest id).doneTest f.id,
       .fallback) := by
  unfold State.settle
  rw [h]
  refine (if_neg hFails).trans ?_
  rw [hFallback] <;> rfl

theorem State.settle_failed (h : findOrder id s.plan.orders = some x) (hFails : ¬ g.meets x.grade = true)
    (hNone : fallbackFor g x s.plan.orders = none) : s.settle id g =
      ((s.modPlan (fun p => { p with orders := giveBack id p.orders })).doneTest id, .failed) := by
  unfold State.settle
  rw [h]
  refine (if_neg hFails).trans ?_
  rw [hNone] <;> rfl

theorem fallbackFor_iff : fallbackFor g x s.plan.orders = some f ↔
    ∃ n, x.fallback = some n ∧ findOrder n s.plan.orders = some f ∧ f.state = .active ∧ 1 ≤ f.remaining - f.planned
      ∧ g ≠ .reject ∧ g.code ≤ f.grade.code := by
  unfold fallbackFor
  cases hFallback : x.fallback with
  | none => simp
  | some n =>
    cases hFound : findOrder n s.plan.orders with
    | none => simp [hFound]
    | some y =>
      have hQualifies : (y.state = .active && 1 ≤ y.available && g.meets y.grade) = true ↔
          y.state = .active ∧ 1 ≤ y.remaining - y.planned ∧ g ≠ .reject ∧ g.code ≤ y.grade.code := by
        simp only [Bool.and_eq_true, decide_eq_true_eq, Grade.meets_iff, and_assoc]
        rfl
      dsimp only
      rw [hFound]
      dsimp only
      rw [Option.ite_none_right_eq_some, hQualifies]
      simp only [Option.some.injEq, exists_eq_left']
      constructor
      · rintro ⟨hMeets, rfl⟩
        exact ⟨hFound, hMeets⟩
      · rintro ⟨hSame, hMeets⟩
        rw [hFound] at hSame
        cases hSame
        exact ⟨hMeets, rfl⟩

theorem State.doneTest_over (h : findOrder id s.plan.orders = some o)
    (hOver : (o.state = .active ∨ o.state = .held) ∧ o.remaining = 0 ∧ o.reserved = 0) : s.doneTest id =
      let ended := (s.modPlan (fun p => { p with orders := modOrder id (fun o => { o with state := .done }) p.orders })).raise
        .orderDone id o.made
      if o.endCampaign then ended.endCampaign else ended := by
  unfold State.doneTest
  rw [h]
  exact if_pos hOver

theorem State.doneTest_cancelled (h : findOrder id s.plan.orders = some o) (hState : o.state = .cancelled)
    (hFree : o.reserved = 0) :
    s.doneTest id = s.modPlan (fun p => { p with orders := p.orders.filter (fun o => o.id ≠ id) }) := by
  have hNot : ¬ ((o.state = .active ∨ o.state = .held) ∧ o.remaining = 0 ∧ o.reserved = 0) := by
    rw [hState]
    simp
  unfold State.doneTest
  rw [h]
  exact (if_neg hNot).trans (if_pos ⟨hState, hFree⟩)

theorem State.doneTest_open (h : findOrder id s.plan.orders = some o)
    (hNot : ¬ ((o.state = .active ∨ o.state = .held) ∧ o.remaining = 0 ∧ o.reserved = 0))
    (hKept : ¬ (o.state = .cancelled ∧ o.reserved = 0)) : s.doneTest id = s := by
  unfold State.doneTest
  rw [h]
  exact (if_neg hNot).trans (if_neg hKept)

end

/-! ## Retirement (R116) -/

theorem Planner.freeSlot_rows (i : Fin 2) (p : Planner) : (p.freeSlot i).rows = p.rows := by
  unfold Planner.freeSlot
  split
  · split <;> rfl
  · rfl
  · rfl

/-- The rows of a table that are FINAL. -/
def Planner.finals (p : Planner) : Nat := (p.rows.filter (fun r => r.state = .final)).length

/-- Once as many rows were tested as are FINAL, the oldest row is not FINAL. -/
theorem State.retireLoop_head (fuel : Nat) (s : State) (h : s.plan.finals ≤ fuel) :
    ∀ y ∈ (State.retireLoop fuel s).plan.rows.head?, y.state ≠ .final := by
  induction fuel generalizing s with
  | zero =>
    intro y hy hFinal
    have hMem : y ∈ s.plan.rows.filter (fun r => r.state = .final) :=
      List.mem_filter.2 ⟨List.mem_of_mem_head? hy, decide_eq_true hFinal⟩
    rw [List.length_eq_zero_iff.1 (Nat.le_zero.1 h)] at hMem
    cases hMem
  | succ fuel ih =>
    unfold State.retireLoop
    split
    next r rest hRows =>
      split
      next hFinal =>
        refine ih _ ?_
        obtain ⟨more, hMore, hPlanned⟩ := (Lays.refl ((s.modPlan (fun p =>
          ({ p with rows := rest, counters := { p.counters with retired := inc32 p.counters.retired } } : Planner).freeSlot
            r.slot |>.tidyCarried)).giveRetire)).runPlanning.more
        have hRest : ((s.modPlan (fun p =>
          ({ p with rows := rest, counters := { p.counters with retired := inc32 p.counters.retired } } : Planner).freeSlot
            r.slot |>.tidyCarried)).giveRetire).plan.rows = rest :=
          (Planner.rows_tidyCarried _).trans (Planner.freeSlot_rows _ _)
        rw [hRest] at hMore
        have hNone : more.filter (fun r => r.state = .final) = [] :=
          List.filter_eq_nil_iff.2 fun x hx => by rw [hPlanned x hx]; decide
        unfold Planner.finals at h ⊢
        rw [hRows, List.filter_cons_of_pos (p := fun r : Row => decide (r.state = .final)) (decide_eq_true hFinal),
          List.length_cons] at h
        rw [hMore, List.filter_append, hNone, List.append_nil]
        exact Nat.le_of_succ_le_succ h
      next hNot =>
        rw [hRows]
        intro y hy
        cases hy
        exact hNot
    next hEmpty =>
      rw [hEmpty]
      intro y hy
      cases hy

/-- The oldest row is not FINAL once a row is done. -/
theorem State.rowDone_head (num : Nat) (s : State) (h : s.plan.rows.length ≤ 64) :
    ∀ y ∈ (s.rowDone num).plan.rows.head?, y.state ≠ .final := by
  let s1 := (s.modGrader (fun g => { g with waiting := none, stagingFull := false })).modPlan (fun p =>
    { p with rows := p.rows.map (fun r => if r.num = num then { r with state := .final } else r) })
  have hHead := State.retireLoop_head Config.rowMax s1 ((List.length_filter_le _ _).trans
    ((List.length_map _).le.trans h))
  have hPlan : (s.rowDone num).plan = (State.retireLoop Config.rowMax s1).plan :=
    (congrArg (·.plan) (State.handToGrader_frame (State.retireLoop Config.rowMax s1)) :)
  rwa [hPlan]

/-! ## The lanes of a plate row (R153) -/

section
variable (s : State) (row : Row) (c : Campaign)

/-- The lanes with their final grades. -/
def State.gradedLanes : List (LanePlate × PlateResult) :=
  (row.lanes.zip c.lanes).map (fun (l, lane) => (l, s.gradeFinal c row lane l))

/-- What the lanes bring to their records. -/
def State.finalLanes : List LaneFinal :=
  let pairs := (row.lanes.zip c.lanes).map (fun (l, lane) => (l, lane, s.gradeFinal c row lane l))
  (pairs.zip (s.outcomes (s.gradedLanes row c)).2).zipIdx.map (fun (((l, lane, g), k), i) =>
    { index := i, plate := l, lane := lane, result := g, outcome := k : LaneFinal })

theorem State.gradePlateRow_eq : s.gradePlateRow row c =
    ((s.finalLanes row c).zip (numbersFrom s.grader.nextPlate (s.finalLanes row c).length)).foldl (State.rejectEvent row)
      ((s.finalLanes row c).foldl (State.finishPlate row) (s.outcomes (s.gradedLanes row c)).1) := by
  unfold State.gradePlateRow State.finalLanes State.gradedLanes
  simp only [List.map_map]
  rfl

theorem State.gradedLanes_length : (s.gradedLanes row c).length = min row.lanes.length c.lanes.length := by
  rw [State.gradedLanes, List.length_map, List.length_zip]

theorem State.finalLanes_length : (s.finalLanes row c).length = min row.lanes.length c.lanes.length := by
  simp [State.finalLanes, State.outcomes_length, State.gradedLanes_length]

theorem State.finalLanes_lane {i : Nat} (h : i < (s.finalLanes row c).length) (hRow : i < row.lanes.length)
    (hCamp : i < c.lanes.length) (hOut : i < (s.outcomes (s.gradedLanes row c)).2.length) :
    (s.finalLanes row c)[i] =
      { index := i, plate := row.lanes[i], lane := c.lanes[i], result := s.gradeFinal c row c.lanes[i] row.lanes[i],
        outcome := (s.outcomes (s.gradedLanes row c)).2[i] } := by
  simp [State.finalLanes]

/-- A list that has the lanes' values in their order. -/
theorem State.finalLanes_map {α : Type} {f : LaneFinal → α} {l : List α}
    (hLen : l.length = min row.lanes.length c.lanes.length)
    (h : ∀ i (hRow : i < row.lanes.length) (hCamp : i < c.lanes.length)
      (hOut : i < (s.outcomes (s.gradedLanes row c)).2.length) (hl : i < l.length),
      f { index := i, plate := row.lanes[i], lane := c.lanes[i], result := s.gradeFinal c row c.lanes[i] row.lanes[i],
          outcome := (s.outcomes (s.gradedLanes row c)).2[i] } = l[i]) :
    (s.finalLanes row c).map f = l := by
  refine List.ext_getElem (by rw [List.length_map, State.finalLanes_length, hLen]) fun i hi hl => ?_
  have hLane : i < (s.finalLanes row c).length := by rwa [List.length_map] at hi
  have hMin : i < min row.lanes.length c.lanes.length := by rwa [State.finalLanes_length] at hLane
  have hOut : i < (s.outcomes (s.gradedLanes row c)).2.length := by
    rwa [State.outcomes_length, State.gradedLanes_length]
  obtain ⟨hRow, hCamp⟩ := lt_min_iff.1 hMin
  rw [List.getElem_map, State.finalLanes_lane s row c hLane hRow hCamp hOut]
  exact h i hRow hCamp hOut hl

theorem State.finalLanes_results : (s.finalLanes row c).map (fun x => (x.plate, x.result)) = s.gradedLanes row c :=
  State.finalLanes_map s row c (State.gradedLanes_length s row c) fun i _ _ _ _ => by simp [State.gradedLanes]

theorem State.finalLanes_outcomes : (s.finalLanes row c).map (·.outcome) = (s.outcomes (s.gradedLanes row c)).2 :=
  State.finalLanes_map s row c (by rw [State.outcomes_length, State.gradedLanes_length]) fun _ _ _ _ _ => rfl

theorem State.finalLanes_index :
    (s.finalLanes row c).map (fun x => some x.index) = (List.range (min row.lanes.length c.lanes.length)).map some :=
  State.finalLanes_map s row c (by simp) fun i _ _ _ _ => by simp

theorem State.finalLanes_orders : (s.finalLanes row c).map (·.plate.order) =
    (row.lanes.take (min row.lanes.length c.lanes.length)).map (·.order) :=
  State.finalLanes_map s row c (by simp) fun i _ _ _ _ => by simp

theorem State.finalLanes_areas : (s.finalLanes row c).map (fun x => (row.actualStop - row.actualStart) * x.lane.cols) =
    (row.lanes.zip c.lanes).map (fun (_, lane) => (row.actualStop - row.actualStart) * (lane.last + 1 - lane.first)) :=
  State.finalLanes_map s row c (by simp) fun i _ _ _ _ => by simp [Lane.cols]

end

/-! ## Counts -/

theorem repeat_succ {α : Type} (f : α → α) (n : Nat) (a : α) : Nat.repeat f n (f a) = Nat.repeat f (n + 1) a := by
  induction n with
  | zero => rfl
  | succ n ih => exact congrArg f ih

theorem Grade.index_val (g : Grade) : g.index.val = g.code := by cases g <;> rfl

theorem OutcomeKind.index_eq (k : OutcomeKind) (i : Fin 4) : k.index = some i ↔ k.code = i.val := by
  cases k with
  | cullet => exact ⟨fun h => (by cases h), fun h => by
      have hFour : 4 = i.val := h
      omega⟩
  | _ => exact Option.some_inj.trans Fin.ext_iff

/-- The tallies of a plate, place by place. -/
theorem Tallies.plate_grades (g : Grade) (o : OutcomeKind) (area : Nat) (t : Tallies) (i : Fin 4) :
    (Tallies.plate g o area t).grades[i] = if g.code = i.val then tallyAdd t.grades[i] 1 else t.grades[i] := by
  change (upd t.grades g.index (tallyAdd · 1))[i] = _
  by_cases h : g.index = i
  · subst h
    rw [if_pos (Grade.index_val g).symm]
    exact upd_getElem_self _ _ _
  · rw [if_neg fun hCode => h (Fin.ext ((Grade.index_val g).trans hCode))]
    exact upd_getElem_of_ne _ _ h

theorem Tallies.plate_outcomes (g : Grade) (o : OutcomeKind) (area : Nat) (t : Tallies) (i : Fin 4) :
    (Tallies.plate g o area t).outcomes[i] = if o.code = i.val then tallyAdd t.outcomes[i] 1 else t.outcomes[i] := by
  unfold Tallies.plate
  dsimp only
  split
  next j hj =>
    by_cases h : j = i
    · subst h
      rw [if_pos ((OutcomeKind.index_eq o j).1 hj)]
      exact upd_getElem_self _ _ _
    · have hNot : ¬ o.code = i.val := fun hCode => h (Option.some.inj (hj.symm.trans ((OutcomeKind.index_eq o i).2 hCode)))
      rw [if_neg hNot]
      exact upd_getElem_of_ne _ _ h
  next hNone =>
    have hNot : ¬ o.code = i.val := fun hCode => by
      have hSome := (OutcomeKind.index_eq o i).2 hCode
      rw [hNone] at hSome
      cases hSome
    rw [if_neg hNot]

/-- A plate in the tallies. -/
def LaneFinal.tallied (area : LaneFinal → Nat) (t : Tallies) (x : LaneFinal) : Tallies :=
  Tallies.plate x.result.grade x.outcome (area x) t

/-- The tallies of a list of plates. -/
theorem foldl_tallied (area : LaneFinal → Nat) (l : List LaneFinal) (t : Tallies) :
    let u := l.foldl (LaneFinal.tallied area) t
    (∀ i : Fin 4, u.grades[i] = Nat.repeat (tallyAdd · 1) (l.filter (fun x => x.result.grade.code = i.val)).length t.grades[i]
      ∧ u.outcomes[i] = Nat.repeat (tallyAdd · 1) (l.filter (fun x => x.outcome.code = i.val)).length t.outcomes[i])
    ∧ u.gradedArea = (l.map area).foldl (satAdd Config.max64) t.gradedArea
    ∧ u.goodArea = ((l.filter (fun x => x.result.grade ≠ .reject)).map area).foldl (satAdd Config.max64) t.goodArea
    ∧ u = { t with grades := u.grades, outcomes := u.outcomes, gradedArea := u.gradedArea, goodArea := u.goodArea } := by
  induction l generalizing t with
  | nil => exact ⟨fun _ => ⟨rfl, rfl⟩, rfl, rfl, rfl⟩
  | cons x l ih =>
    obtain ⟨hCounts, hGraded, hGood, hRest⟩ := ih (LaneFinal.tallied area t x)
    refine ⟨fun i => ⟨?_, ?_⟩, hGraded, ?_, hRest⟩
    · rw [List.foldl_cons, (hCounts i).1, LaneFinal.tallied, Tallies.plate_grades]
      by_cases h : x.result.grade.code = i.val
      · rw [if_pos h, repeat_succ (tallyAdd · 1),
          List.filter_cons_of_pos (p := fun x : LaneFinal => decide (x.result.grade.code = i.val)) (decide_eq_true h),
          List.length_cons]
      · rw [if_neg h, List.filter_cons_of_neg (p := fun x : LaneFinal => decide (x.result.grade.code = i.val))
          (by simpa using h)]
    · rw [List.foldl_cons, (hCounts i).2, LaneFinal.tallied, Tallies.plate_outcomes]
      by_cases h : x.outcome.code = i.val
      · rw [if_pos h, repeat_succ (tallyAdd · 1),
          List.filter_cons_of_pos (p := fun x : LaneFinal => decide (x.outcome.code = i.val)) (decide_eq_true h),
          List.length_cons]
      · rw [if_neg h, List.filter_cons_of_neg (p := fun x : LaneFinal => decide (x.outcome.code = i.val))
          (by simpa using h)]
    · rw [List.foldl_cons, hGood]
      by_cases h : x.result.grade = .reject
      · rw [List.filter_cons_of_neg (p := fun x : LaneFinal => decide (x.result.grade ≠ .reject)) (by simpa using h)]
        exact congrArg (List.foldl _ · _) (if_pos h)
      · rw [List.filter_cons_of_pos (p := fun x : LaneFinal => decide (x.result.grade ≠ .reject)) (by simpa using h),
          List.map_cons, List.foldl_cons]
        exact congrArg (List.foldl _ · _) (if_neg h)

/-! ## The records of a plate row (R154) -/

/-- The records of plates that take numbers one after the other. -/
def recordsFrom (row : Row) (num : Nat) (day : BitVec 16) (tod : Nat) (l : List LaneFinal) : List PlateRec :=
  ((numbersFrom num l.length).zip l).map (fun (k, x) => plateRecord row k day tod x)

theorem numbersFrom_length (num n : Nat) : (numbersFrom num n).length = n := by
  induction n generalizing num with
  | zero => rfl
  | succ n ih => exact congrArg Nat.succ (ih _)

theorem recordsFrom_map {α : Type} (f : LaneFinal → α) {g : PlateRec → α} (row : Row) (num : Nat) (day : BitVec 16) (tod : Nat)
    (l : List LaneFinal) (h : ∀ k x, g (plateRecord row k day tod x) = f x) :
    (recordsFrom row num day tod l).map g = l.map f := by
  have hSnd := List.map_snd_zip (l₁ := numbersFrom num l.length) (l₂ := l) (numbersFrom_length num l.length).ge
  rw [recordsFrom, List.map_map]
  calc ((numbersFrom num l.length).zip l).map _
      = (((numbersFrom num l.length).zip l).map Prod.snd).map f := by
        rw [List.map_map]
        exact List.map_congr_left fun x _ => h x.1 x.2
    _ = l.map f := by rw [hSnd]

theorem recordsFrom_num (row : Row) (num : Nat) (day : BitVec 16) (tod : Nat) (l : List LaneFinal) :
    (recordsFrom row num day tod l).map (·.num) = numbersFrom num l.length := by
  rw [recordsFrom, List.map_map]
  exact List.map_fst_zip (numbersFrom_length num l.length).le

section
variable (row : Row)

/-- What a record leaves of everything but the Grader and the PLATE ring. -/
theorem State.placePlate_parts (p : PlateRec) (s : State) :
    let t := s.placePlate p
    t = { s with grader := { s.grader with nextPlate := nextNumber s.grader.nextPlate }, rings := t.rings }
    ∧ t.rings[plateRing].state = s.rings[plateRing].state
    ∧ (s.rings[plateRing].state = .unset → t.rings[plateRing].staging = s.rings[plateRing].staging)
    ∧ (s.rings[plateRing].state ≠ .unset → t.rings[plateRing].staging =
        s.rings[plateRing].staging ++ [{ record := .plate p, issued := none }]) := by
  intro t
  by_cases hUnset : s.rings[plateRing].state = .unset
  · have ht : t = s.modGrader (fun g => { g with nextPlate := nextNumber g.nextPlate }) := if_pos hUnset
    rw [ht]
    exact ⟨rfl, rfl, fun _ => rfl, fun h => absurd hUnset h⟩
  · have ht : t = (s.modGrader (fun g => { g with nextPlate := nextNumber g.nextPlate })).modRing plateRing
        (fun g => { g with staging := g.staging ++ [{ record := .plate p, issued := none }] }) := if_neg hUnset
    have hRing : t.rings[plateRing] =
        { s.rings[plateRing] with staging := s.rings[plateRing].staging ++ [{ record := .plate p, issued := none }] } := by
      rw [ht]
      exact upd_getElem_self _ _ _
    refine ⟨?_, ?_, fun h => absurd h hUnset, fun _ => ?_⟩
    · rw [ht]
      rfl
    · rw [hRing]
    · rw [hRing]

/-- The plates of a row, one after the other. -/
theorem State.finishPlates_parts (l : List LaneFinal) (s : State) :
    let t := l.foldl (State.finishPlate row) s
    t = { s with grader := t.grader, tally := t.tally, rings := t.rings }
    ∧ t.grader.nextPlate = Nat.repeat nextNumber l.length s.grader.nextPlate
    ∧ t.grader.counters.plates = Nat.repeat inc32 l.length s.grader.counters.plates
    ∧ t.tally.live = l.foldl (LaneFinal.tallied (fun x => (row.actualStop - row.actualStart) * x.lane.cols)) s.tally.live
    ∧ t.rings[plateRing].state = s.rings[plateRing].state
    ∧ (s.rings[plateRing].state = .unset → t.rings[plateRing].staging = s.rings[plateRing].staging)
    ∧ (s.rings[plateRing].state ≠ .unset → t.rings[plateRing].staging = s.rings[plateRing].staging ++
        (recordsFrom row s.grader.nextPlate s.pos.day s.pos.tod l).map (fun x => { record := .plate x, issued := none })) := by
  induction l generalizing s with
  | nil => exact ⟨rfl, rfl, rfl, rfl, rfl, fun _ => rfl, fun _ => (List.append_nil _).symm⟩
  | cons x l ih =>
    let u := s.finishPlate row x
    obtain ⟨hPlaced, hState, hOff, hOn⟩ :=
      State.placePlate_parts (plateRecord row s.grader.nextPlate s.pos.day s.pos.tod x) s
    have hu : u = { s with grader := u.grader, tally := u.tally, rings := u.rings } := by
      have hBase : u = { s.placePlate (plateRecord row s.grader.nextPlate s.pos.day s.pos.tod x) with
        grader := u.grader, tally := u.tally } := rfl
      exact hBase.trans (by rw [hPlaced]; rfl)
    have hNext : u.grader.nextPlate = nextNumber s.grader.nextPlate := by
      change (s.placePlate (plateRecord row s.grader.nextPlate s.pos.day s.pos.tod x)).grader.nextPlate = _
      rw [hPlaced]
    have hCount : u.grader.counters.plates = inc32 s.grader.counters.plates := by
      change inc32 (s.placePlate (plateRecord row s.grader.nextPlate s.pos.day s.pos.tod x)).grader.counters.plates = _
      rw [hPlaced]
    have hLive : u.tally.live =
        LaneFinal.tallied (fun x => (row.actualStop - row.actualStart) * x.lane.cols) s.tally.live x := by
      change Tallies.plate _ _ _ (s.placePlate (plateRecord row s.grader.nextPlate s.pos.day s.pos.tod x)).tally.live = _
      rw [hPlaced]
      rfl
    have hPos : u.pos = s.pos := (congrArg (·.pos) hu :)
    have hRing : u.rings[plateRing].state = s.rings[plateRing].state := hState
    obtain ⟨hFrame, hNexts, hCounts, hLives, hStates, hOffs, hOns⟩ := ih u
    rw [List.foldl_cons]
    refine ⟨?_, hNexts.trans ?_, hCounts.trans ?_, hLives.trans ?_, hStates.trans hRing,
      fun hUnset => (hOffs (hRing.trans hUnset)).trans (hOff hUnset), fun hSet => ?_⟩
    · rw [hFrame, hu]
    · rw [hNext]
      exact repeat_succ _ _ _
    · rw [hCount]
      exact repeat_succ _ _ _
    · rw [hLive]
      rfl
    · have hFirst : u.rings[plateRing].staging = _ := hOn hSet
      rw [hOns (by rw [hRing]; exact hSet), hFirst, hNext, hPos, List.append_assoc]
      rfl

/-- The events of the rejected plates. -/
theorem State.rejectEvents_parts (l : List (LaneFinal × Nat)) (s : State) :
    let t := l.foldl (State.rejectEvent row) s
    Untold s t ∧ t.plan = s.plan ∧ (∀ k, s.ev.pending.getLsbD k = true → t.ev.pending.getLsbD k = true)
    ∧ ((∃ x ∈ l, x.1.result.grade = .reject) → t.ev.pending.getLsbD 26 = true) := by
  induction l generalizing s with
  | nil => exact ⟨Untold.refl s, rfl, fun _ h => h, fun ⟨_, h, _⟩ => absurd h List.not_mem_nil⟩
  | cons x l ih =>
    obtain ⟨hUntold, hPlan, hFlags, hReject⟩ := ih (s.rejectEvent row x)
    have hStep : Untold s (s.rejectEvent row x) ∧ (s.rejectEvent row x).plan = s.plan
        ∧ (∀ k, s.ev.pending.getLsbD k = true → (s.rejectEvent row x).ev.pending.getLsbD k = true)
        ∧ (x.1.result.grade = .reject → (s.rejectEvent row x).ev.pending.getLsbD 26 = true) := by
      by_cases h : x.1.result.grade = .reject
      · have hEvent : s.rejectEvent row x = (s.raise .plateReject x.2 row.num).modGrader (fun g =>
            { g with counters := { g.counters with rejects := inc32 g.counters.rejects } }) := if_pos h
        rw [hEvent]
        have hRaise : Untold s (s.raise .plateReject x.2 row.num) := (Untold.refl s).raise
        exact ⟨{ hRaise with }, State.raise_plan .., (Steady.refl s).raise.flags, fun _ => State.raise_sets .plateReject _ _ s⟩
      · have hNone : s.rejectEvent row x = s := if_neg h
        rw [hNone]
        exact ⟨Untold.refl s, rfl, fun _ hk => hk, fun hIs => absurd hIs h⟩
    obtain ⟨hUntold', hPlan', hFlags', hReject'⟩ := hStep
    refine ⟨hUntold'.trans hUntold, hPlan.trans hPlan', fun k hk => hFlags k (hFlags' k hk), fun ⟨y, hy, hIs⟩ => ?_⟩
    rcases List.mem_cons.1 hy with rfl | hy
    · exact hFlags 26 (hReject' hIs)
    · exact hReject ⟨y, hy, hIs⟩

end

/-! ## The record of a cullet row (R155) -/

/-- What the grading of a cullet row leaves. -/
theorem State.gradeCulletRow_parts (row : Row) (c : Campaign) (s : State) :
    let t := s.gradeCulletRow row c
    let lines := row.actualStop - row.actualStart
    t.plan = s.plan ∧ t.tally.live = Tallies.cullet lines (lines * ((c.lanes.map Lane.cols).sum)) s.tally.live
    ∧ t.grader.nextPlate = nextNumber s.grader.nextPlate ∧ t.grader.counters.cullet = inc32 s.grader.counters.cullet
    ∧ t.rings[plateRing].state = s.rings[plateRing].state
    ∧ (s.rings[plateRing].state = .unset → t.rings[plateRing].staging = s.rings[plateRing].staging)
    ∧ (s.rings[plateRing].state ≠ .unset → t.rings[plateRing].staging = s.rings[plateRing].staging ++
        [{ record := .plate (culletRecord row c s.map s.grader.nextPlate s.pos.day s.pos.tod), issued := none }]) := by
  intro t lines
  let x := culletRecord row c s.map s.grader.nextPlate s.pos.day s.pos.tod
  obtain ⟨hPlaced, hState, hOff, hOn⟩ := State.placePlate_parts x s
  refine ⟨?_, ?_, ?_, ?_, hState, hOff, hOn⟩
  · change (s.placePlate x).plan = _
    rw [hPlaced]
  · change Tallies.cullet _ _ (s.placePlate x).tally.live = _
    rw [hPlaced]
  · change (s.placePlate x).grader.nextPlate = _
    rw [hPlaced]
  · change inc32 (s.placePlate x).grader.counters.cullet = _
    rw [hPlaced]

/-- The kinds of the spans that touch a row. -/
def spanKinds (m : FlawMap) (start stop : Nat) : List SpanKind := if stop ≤ start then [] else m.spanQuery start stop

theorem spanKinds_any (m : FlawMap) (start stop : Nat) {p : SpanKind → Bool} {P : SpanKind → Prop} (h : ∀ k, p k = true ↔ P k) :
    (spanKinds m start stop).any p = true ↔
      start < stop ∧ ∃ y ∈ m.spans, y.start < stop ∧ start < y.stop ∧ P y.kind := by
  unfold spanKinds FlawMap.spanQuery
  by_cases hEmpty : stop ≤ start
  · rw [if_pos hEmpty]
    exact ⟨fun h => (by cases h), fun h => absurd h.1 (not_lt.2 hEmpty)⟩
  · rw [if_neg hEmpty]
    simp only [List.any_map, List.any_filter, List.any_eq_true, Bool.and_eq_true, decide_eq_true_eq, Function.comp_apply, h,
      not_le.1 hEmpty, true_and, and_assoc]

/-! ## The final grading -/

section
variable {w : Waiting} {row : Row} {c : Campaign} {s : State}

theorem State.plateRoom_iff {need : Nat} : s.plateRoom need = true ↔
    s.rings[plateRing].state = .unset ∨ s.rings[plateRing].staging.length + need ≤ 16 := by
  unfold State.plateRoom
  rw [Bool.or_eq_true, decide_eq_true_eq, decide_eq_true_eq]
  rfl

theorem exec_finalGrading_waits (hWaiting : s.grader.waiting = some w) (h : ¬ s.plateRoom w.need = true) :
    exec .finalGrading s = .next (if w.counted then s else { s with grader := { s.grader with
      waiting := some { w with counted := true }, stagingFull := true,
      counters := { s.grader.counters with stagingWaits := inc32 s.grader.counters.stagingWaits } } }) := by
  have hTest : s.testWaiting = if w.counted then s else { s with grader := { s.grader with
      waiting := some { w with counted := true }, stagingFull := true,
      counters := { s.grader.counters with stagingWaits := inc32 s.grader.counters.stagingWaits } } } := by
    unfold State.testWaiting
    rw [hWaiting]
    dsimp only
    rw [Bool.eq_false_iff.2 h, Bool.false_or]
    rfl
  have hExec : exec .finalGrading s = .next (s.finalGrading w) := by
    change execFinalGrading s = _
    unfold execFinalGrading
    rw [hWaiting]
  rw [hExec, State.finalGrading, if_neg h, hTest]

theorem exec_finalGrading_grades (hWaiting : s.grader.waiting = some w) (h : s.plateRoom w.need = true)
    (hRow : s.plan.rows.find? (fun r => r.num = w.row) = some row) (hCampaign : s.plan.slots[row.slot].campaign = some c) :
    exec .finalGrading s =
      .next ((if row.kind = .plate then s.gradePlateRow row c else s.gradeCulletRow row c).rowDone row.num) := by
  have hExec : exec .finalGrading s = .next (s.finalGrading w) := by
    change execFinalGrading s = _
    unfold execFinalGrading
    rw [hWaiting]
  rw [hExec, State.finalGrading, if_pos h, hRow]
  dsimp only
  rw [State.gradeRow, State.campaignOf, hCampaign]

end

/-- What the grading of a plate row leaves. -/
theorem State.gradePlateRow_parts (row : Row) (c : Campaign) (s : State) :
    let t := s.gradePlateRow row c
    let l := s.finalLanes row c
    t.plan.rows.length ≤ s.plan.rows.length
    ∧ t.grader.nextPlate = Nat.repeat nextNumber l.length s.grader.nextPlate
    ∧ t.grader.counters.plates = Nat.repeat inc32 l.length s.grader.counters.plates
    ∧ t.tally.live = l.foldl (LaneFinal.tallied (fun x => (row.actualStop - row.actualStart) * x.lane.cols)) s.tally.live
    ∧ t.rings[plateRing].state = s.rings[plateRing].state
    ∧ (s.rings[plateRing].state = .unset → t.rings[plateRing].staging = s.rings[plateRing].staging)
    ∧ (s.rings[plateRing].state ≠ .unset → t.rings[plateRing].staging = s.rings[plateRing].staging ++
        (recordsFrom row s.grader.nextPlate s.pos.day s.pos.tod l).map (fun x => { record := .plate x, issued := none }))
    ∧ ((∃ x ∈ l, x.result.grade = .reject) → t.ev.pending.getLsbD 26 = true) := by
  intro t l
  let u := (s.outcomes (s.gradedLanes row c)).1
  let v := l.foldl (State.finishPlate row) u
  obtain ⟨hUntold, hRows⟩ : Accounts s u := (Accounts.refl s).outcomes _
  have hPos : u.pos = s.pos := ((Works.refl s).outcomes _).pos
  obtain ⟨hFrame, hNext, hPlates, hLive, hState, hOff, hOn⟩ := State.finishPlates_parts row l u
  obtain ⟨hAfter, hPlan, -, hReject⟩ := State.rejectEvents_parts row (l.zip (numbersFrom s.grader.nextPlate l.length)) v
  rw [hUntold.ring] at hState hOff hOn
  rw [hUntold.next, hPos] at hOn
  have ht : t = (l.zip (numbersFrom s.grader.nextPlate l.length)).foldl (State.rejectEvent row) v :=
    State.gradePlateRow_eq s row c
  rw [← ht] at hAfter hPlan hReject
  have hRing := hAfter.ring
  refine ⟨?_, hAfter.next.trans (hNext.trans (congrArg _ hUntold.next)),
    hAfter.plates.trans (hPlates.trans (congrArg _ hUntold.plates)), ?_, ?_, fun hUnset => ?_, fun hSet => ?_,
    fun ⟨x, hx, hIs⟩ => hReject ?_⟩
  · rw [hPlan, (congrArg (·.plan) hFrame : v.plan = u.plan)]
    exact hRows
  · rw [hAfter.tally, hLive, hUntold.tally]
  · rw [hRing, hState]
  · rw [hRing, hOff hUnset]
  · rw [hRing, hOn hSet]
  · have hZip := List.map_fst_zip (l₁ := l) (l₂ := numbersFrom s.grader.nextPlate l.length)
      (numbersFrom_length s.grader.nextPlate l.length).ge
    rw [← hZip] at hx
    obtain ⟨y, hy, rfl⟩ := List.mem_map.1 hx
    exact ⟨y, hy, hIs⟩

/-- Settles O54. -/
theorem finalGradingPlacesRecords : Obligations.FinalGradingPlacesRecords := by
  refine ⟨fun w row c s hWaiting hRow hCampaign => ?grade, fun l g s => ⟨fun hNone => ?spare, fun id hOrder => ?lane⟩,
    fun l g rest s => ⟨rfl, rfl⟩, fun id g x s hFound => ?settle, fun id o s hFound => ?finished⟩
  case grade =>
    intro staging room old actualStart actualStop columns
    have hRoom : s.plateRoom w.need = true ↔ room := State.plateRoom_iff
    refine ⟨fun hNot => exec_finalGrading_waits hWaiting (mt hRoom.1 hNot), fun hFits => ?_⟩
    have hRun := exec_finalGrading_grades hWaiting (hRoom.2 hFits) hRow hCampaign
    have hWorks : Works s (s.finalGrading w) := (Works.refl s).finalGrading
    have hExec : exec .finalGrading s = .next (s.finalGrading w) := by
      change execFinalGrading s = _
      unfold execFinalGrading
      rw [hWaiting]
    by_cases hPlate : row.kind = .plate
    · let u := s.gradePlateRow row c
      have ht : s.finalGrading w = u.rowDone row.num := Host.Outcome.next.inj (hExec.symm.trans (hRun.trans (by rw [if_pos hPlate])))
      obtain ⟨hRows, hNext, hPlates, hLive, hState, hOff, hOn, hReject⟩ := State.gradePlateRow_parts row c s
      have hDone : Untold u (u.rowDone row.num) := (Untold.refl u).rowDone
      have hFlags : ∀ k, u.ev.pending.getLsbD k = true → (u.rowDone row.num).ev.pending.getLsbD k = true :=
        (Works.refl u).rowDone.flags
      obtain ⟨hCounts, hGraded, hGood, hRest⟩ := foldl_tallied (fun x => (row.actualStop - row.actualStart) * x.lane.cols)
        (s.finalLanes row c) s.tally.live
      have hTally : (u.rowDone row.num).tally.live = _ := (congrArg (·.live) hDone.tally).trans hLive
      have hLen : (s.finalLanes row c).length = min row.lanes.length c.lanes.length := State.finalLanes_length s row c
      have hLanes := State.finalLanes_results s row c
      have hAreas := State.finalLanes_areas s row c
      have hRing := hDone.ring
      rw [ht] at hWorks hExec
      refine ⟨u.rowDone row.num, hExec, hWorks.pos, hWorks.path, hWorks.ing, congrArg CmdProc.binding hWorks.cp,
        fun hTable => State.rowDone_head row.num u (hRows.trans hTable), fun hUnset => by rw [hRing]; exact hOff hUnset,
        fun hCullet => absurd hPlate hCullet, fun _ => ?_⟩
      intro n lanes areas good
      have hLanes' : (s.finalLanes row c).map (fun x => (x.plate, x.result)) = lanes := hLanes
      have hAreas' : (s.finalLanes row c).map (fun x => (row.actualStop - row.actualStart) * x.lane.cols) = areas := hAreas
      have hOutcomes : (s.finalLanes row c).map (·.outcome) = (s.outcomes lanes).2 := State.finalLanes_outcomes s row c
      rw [hTally]
      refine ⟨fun i => ⟨?_, ?_⟩, ?_, ?_, hRest, ?_, fun ⟨x, hx, hIs⟩ => ?_, ?_, fun hSet => ?_⟩
      · rw [(hCounts i).1, ← hLanes', List.filter_map, List.length_map]
        rfl
      · rw [(hCounts i).2, ← hOutcomes, List.filter_map, List.length_map]
        rfl
      · rw [hGraded, hAreas']
      · rw [hGood]
        have hGoodAreas : good = ((s.finalLanes row c).filter (fun x => x.result.grade ≠ .reject)).map
            (fun x => (row.actualStop - row.actualStart) * x.lane.cols) := by
          change ((lanes.zip areas).filter _).map _ = _
          rw [← hLanes', ← hAreas', List.zip_map', List.filter_map, List.map_map]
          rfl
        rw [hGoodAreas]
      · rw [hDone.plates, hPlates, hLen]
      · rw [← hLanes'] at hx
        obtain ⟨y, hy, rfl⟩ := List.mem_map.1 hx
        exact hFlags 26 (hReject ⟨y, hy, hIs⟩)
      · rw [hDone.next, hNext, hLen]
      · refine ⟨recordsFrom row s.grader.nextPlate s.pos.day s.pos.tod (s.finalLanes row c), ?_, ?_, ?_, ?_, ?_, ?_, ?_,
          fun x hx => ?_⟩
        · rw [hRing]
          exact hOn hSet
        · rw [recordsFrom_num, hLen]
        · rw [recordsFrom_map (fun x => some x.index) row _ _ _ _ fun _ _ => rfl]
          exact State.finalLanes_index s row c
        · rw [recordsFrom_map (fun x => x.plate.order) row _ _ _ _ fun _ _ => rfl]
          exact State.finalLanes_orders s row c
        · rw [recordsFrom_map (fun x => (x.plate.provisional, some x.result.grade, x.result.score, x.result.flaws,
            x.result.fatal)) row _ _ _ _ fun _ _ => rfl, ← hLanes', List.map_map]
          rfl
        · rw [recordsFrom_map (fun x => x.outcome) row _ _ _ _ fun _ _ => rfl]
          exact hOutcomes
        · rw [recordsFrom_map (fun x => ({
            uninspected := x.result.uninspected, mapFull := x.result.mapFull, unsealed := x.plate.unsealed,
            cutMissed := row.anyMissed, cutOffset := row.anyOffset, edgeShort := x.result.edgeShort, regraded := x.regraded,
            reassigned := x.plate.reassigned, shifted := 0 < row.shifts } : PlateFlags)) row _ _ _ _ fun _ _ => rfl,
            ← hLanes', List.map_map]
          refine List.map_congr_left fun x _ => ?_
          have hRegraded : x.regraded = x.plate.provisional.any (fun p => p ≠ x.result.grade) := by
            unfold LaneFinal.regraded
            cases x.plate.provisional <;> rfl
          rw [hRegraded]
          rfl
        · obtain ⟨y, -, rfl⟩ := List.mem_map.1 hx
          exact ⟨rfl, rfl, Option.some_ne_none _, rfl, rfl, rfl, rfl⟩
    · let u := s.gradeCulletRow row c
      have ht : s.finalGrading w = u.rowDone row.num := Host.Outcome.next.inj (hExec.symm.trans (hRun.trans (by rw [if_neg hPlate])))
      obtain ⟨hPlan, hLive, hNext, hCullet, hState, hOff, hOn⟩ := State.gradeCulletRow_parts row c s
      have hDone : Untold u (u.rowDone row.num) := (Untold.refl u).rowDone
      have hRing := hDone.ring
      rw [ht] at hWorks hExec
      refine ⟨u.rowDone row.num, hExec, hWorks.pos, hWorks.path, hWorks.ing, congrArg CmdProc.binding hWorks.cp,
        fun hTable => State.rowDone_head row.num u (by rw [show u.plan = s.plan from hPlan]; exact hTable),
        fun hUnset => by rw [hRing]; exact hOff hUnset,
        fun _ => ⟨(congrArg (·.live) hDone.tally).trans hLive, hDone.next.trans hNext, hDone.cullet.trans hCullet,
          fun hSet => ?_⟩, fun h => absurd h hPlate⟩
      let x := culletRecord row c s.map s.grader.nextPlate s.pos.day s.pos.tod
      exact ⟨x, by rw [hRing]; exact hOn hSet, rfl, rfl, rfl, rfl, rfl, rfl, rfl, rfl, rfl, rfl, rfl, rfl, rfl, rfl, rfl, rfl, rfl,
        rfl, spanKinds_any s.map row.actualStart row.actualStop SpanKind.uninspected_iff,
        spanKinds_any s.map row.actualStart row.actualStop SpanKind.isMapFull_iff, rfl, rfl, rfl, rfl, rfl, rfl⟩
  case spare =>
    unfold State.laneOutcome
    rw [hNone]
  case lane =>
    unfold State.laneOutcome
    rw [hOrder]
  case settle =>
    intro meets booked back
    refine ⟨fun f => fallbackFor_iff, fun hMeets => State.settle_met hFound (Grade.meets_iff.2 hMeets),
      fun hFails f hFallback => State.settle_fallback hFound (mt Grade.meets_iff.1 hFails) hFallback,
      fun hFails hNone => State.settle_failed hFound (mt Grade.meets_iff.1 hFails) hNone⟩
  case finished =>
    intro marked ended over_
    refine ⟨fun hOver hPlain => (State.doneTest_over hFound hOver).trans (if_neg (by rw [hPlain]; exact Bool.false_ne_true)),
      fun hOver hEnds => (State.doneTest_over hFound hOver).trans (if_pos hEnds),
      fun hState hFree => State.doneTest_cancelled hFound hState hFree,
      fun hNot hKept => State.doneTest_open hFound hNot hKept⟩

end Sys2Proof.Machine
end
section
/-! PROOFS. A closed blob becomes a flaw (R72, R73, R75 to R79). -/

set_option Elab.async false

namespace Sys2Proof.Machine

/-! ## Insertion and sorting -/

theorem insertSorted_perm {α : Type} (before : α → α → Bool) (x : α) (l : List α) : (insertSorted before x l).Perm (x :: l) := by
  induction l with
  | nil => exact List.Perm.refl _
  | cons y ys ih =>
    unfold insertSorted
    split
    · exact List.Perm.refl _
    · exact (ih.cons y).trans (List.Perm.swap x y ys)

/-! ## Placing a flaw (R76, R77) -/

section
variable {s : State} {f : Flaw}

theorem State.placeFlaw_retired (h : s.map.retire.retires (f.last + 1) = true) : s.placeFlaw f =
    (s.modMap (fun m => { m with retiredAtCreation := inc32 m.retiredAtCreation }), f) := if_pos h

theorem State.placeFlaw_mapped (h : ¬ s.map.retire.retires (f.last + 1) = true) (hRoom : s.map.flaws.length < 4096) :
    s.placeFlaw f =
      (s.modMap (fun m => { m with flaws := insertSorted Flaw.before f m.flaws, mapped := inc32 m.mapped }), f) :=
  (if_neg h).trans (if_pos hRoom)

theorem State.placeFlaw_full (h : ¬ s.map.retire.retires (f.last + 1) = true) (hFull : 4096 ≤ s.map.flaws.length) :
    s.placeFlaw f = (s.refuseFlaw { f with notMapped := true }, { f with notMapped := true }) :=
  (if_neg h).trans (if_neg (not_lt.2 hFull))

theorem Retire.retires_iff (r : Retire) (stop : Nat) :
    r.retires stop = true ↔ r = .all ∨ ∃ n, r = .line n ∧ stop ≤ n := by
  cases r with
  | line n => simp [Retire.retires]
  | none => simp [Retire.retires]
  | all => simp [Retire.retires]

end

/-- What the placement of a flaw and its record leave: the counts of flaws and of lost records, and the FLAW ring. -/
structure Places (s t : State) : Prop where
  frame : t = { s with map := t.map, tally := t.tally, ev := t.ev, rings := t.rings }
  ring : t.rings[flawRing] = s.rings[flawRing]
  next : t.map.nextFlaw = s.map.nextFlaw
  lost : t.map.recordsLost = s.map.recordsLost
  flaws : t.tally.live.flaws = s.tally.live.flaws

/-- The part once a full map refused a flaw, before the event. -/
def State.refusing (f : Flaw) (s : State) : State :=
  (s.requestSpan .mapFull f.first (f.last + 1)).modMap (fun m => { m with notMapped := inc32 m.notMapped, full := true })

theorem State.refuseFlaw_eq (f : Flaw) (s : State) : s.refuseFlaw f =
    (s.refusing f).raiseIf (!(s.requestSpan .mapFull f.first (f.last + 1)).map.full) .mapFull f.num f.first := rfl

/-- What a full map does with a flaw. -/
theorem State.refuseFlaw_parts (f : Flaw) (s : State) :
    Places s (s.refuseFlaw f) ∧ (s.refuseFlaw f).map.flaws = s.map.flaws
    ∧ (s.refuseFlaw f).map.notMapped = inc32 s.map.notMapped ∧ (s.refuseFlaw f).map.full = true := by
  let u := s.refusing f
  have hMap : u.map = { s.map with
      spans := u.map.spans, spanMerges := u.map.spanMerges, notMapped := inc32 s.map.notMapped, full := true } := by
    have hFrame := FlawMap.enterPieces_frame .mapFull (uncovered f.first (f.last + 1) s.map.spans) s.map
    change ({ (s.requestSpan .mapFull f.first (f.last + 1)).map with
      notMapped := inc32 (s.requestSpan .mapFull f.first (f.last + 1)).map.notMapped, full := true } : FlawMap) = _
    rw [State.requestSpan_map, hFrame]
    rfl
  have hRaise : s.refuseFlaw f = u.raiseIf _ _ _ _ := State.refuseFlaw_eq f s
  have hFrame := State.raiseIf_frame u (!(s.requestSpan .mapFull f.first (f.last + 1)).map.full) .mapFull f.num f.first
  have hRing : (s.refuseFlaw f).rings[flawRing] = u.rings[flawRing] := by
    rw [hRaise, State.raiseIf]
    split
    · exact State.raise_rings_of_ne (by decide)
    · rfl
  have hSame : (s.refuseFlaw f).map = u.map := by
    rw [hRaise, hFrame]
  refine ⟨⟨?_, hRing, ?_, ?_, ?_⟩, ?_, ?_, ?_⟩
  · rw [hRaise, hFrame]
    rfl
  · rw [hSame, hMap]
  · rw [hSame, hMap]
  · rw [hRaise, hFrame]
    change ((s.requestSpan .mapFull f.first (f.last + 1)).tally.live).flaws = _
    rw [State.requestSpan_live]
    rfl
  · rw [hSame, hMap]
  · rw [hSame, hMap]
  · rw [hSame, hMap]

/-- What the placement of a flaw changes. -/
theorem State.placeFlaw_parts (f : Flaw) (s : State) :
    Places s (s.placeFlaw f).1 ∧ (s.placeFlaw f).2 = { f with notMapped := (s.placeFlaw f).2.notMapped } := by
  by_cases hRetired : s.map.retire.retires (f.last + 1) = true
  · rw [State.placeFlaw_retired hRetired]
    exact ⟨⟨rfl, rfl, rfl, rfl, rfl⟩, rfl⟩
  · rcases Nat.lt_or_ge s.map.flaws.length 4096 with hRoom | hFull
    · rw [State.placeFlaw_mapped hRetired hRoom]
      exact ⟨⟨rfl, rfl, rfl, rfl, rfl⟩, rfl⟩
    · rw [State.placeFlaw_full hRetired hFull]
      exact ⟨(State.refuseFlaw_parts _ s).1, rfl⟩

/-! ## The record of a flaw (R78) -/

section
variable (f : Flaw) (s : State)

theorem State.requestFlawRecord_frame : s.requestFlawRecord f = { s with
    map := { s.map with
      recordsLost := (s.requestFlawRecord f).map.recordsLost, lossMark := (s.requestFlawRecord f).map.lossMark },
    ev := (s.requestFlawRecord f).ev, rings := (s.requestFlawRecord f).rings } := by
  unfold State.requestFlawRecord
  split
  · rfl
  · split
    · rfl
    · dsimp only
      rw [State.raiseIf_frame]
      rfl

theorem State.requestFlawRecord_unset (h : s.rings[flawRing].state = .unset) : s.requestFlawRecord f = s := if_pos h

theorem State.requestFlawRecord_takes (h : s.rings[flawRing].state ≠ .unset) (hRoom : s.rings[flawRing].staging.length < 8) :
    s.requestFlawRecord f = (s.modRing flawRing (fun g =>
      { g with staging := g.staging ++ [{ record := .flaw f, issued := none }] })).modMap
      (fun m => { m with lossMark := false }) := (if_neg h).trans (if_pos hRoom)

theorem State.requestFlawRecord_loses (h : s.rings[flawRing].state ≠ .unset)
    (hFull : 8 ≤ s.rings[flawRing].staging.length) : s.requestFlawRecord f =
      (s.modMap (fun m => { m with recordsLost := inc32 s.map.recordsLost, lossMark := true })).raiseIf (!s.map.lossMark)
        .flawRingLoss f.num (inc32 s.map.recordsLost) := (if_neg h).trans (if_neg (not_lt.2 hFull))

theorem State.requestFlawRecord_room (h : s.rings[flawRing].state ≠ .unset) (hRoom : s.rings[flawRing].staging.length < 8) :
    (s.requestFlawRecord f).map.lossMark = false
    ∧ (s.requestFlawRecord f).rings[flawRing].staging =
        s.rings[flawRing].staging ++ [{ record := .flaw f, issued := none }] := by
  have hTaken := State.requestFlawRecord_takes f s h hRoom
  have hRing : (s.requestFlawRecord f).rings[flawRing] = { s.rings[flawRing] with
      staging := s.rings[flawRing].staging ++ [{ record := .flaw f, issued := none }] } := by
    rw [hTaken]
    exact upd_getElem_self _ _ _
  exact ⟨by rw [hTaken]; rfl, by rw [hRing]⟩

theorem State.requestFlawRecord_lost (h : s.rings[flawRing].state ≠ .unset) (hFull : 8 ≤ s.rings[flawRing].staging.length) :
    (s.requestFlawRecord f).map.lossMark = true ∧ (s.requestFlawRecord f).map.recordsLost = inc32 s.map.recordsLost
    ∧ (s.requestFlawRecord f).rings[flawRing] = s.rings[flawRing] := by
  let u := s.modMap (fun m => { m with recordsLost := inc32 s.map.recordsLost, lossMark := true })
  have hLost := State.requestFlawRecord_loses f s h hFull
  have hMap : (s.requestFlawRecord f).map = u.map := by rw [hLost, State.raiseIf_frame]
  refine ⟨by rw [hMap]; rfl, by rw [hMap]; rfl, ?_⟩
  rw [hLost, State.raiseIf]
  split
  · exact State.raise_rings_of_ne (by decide)
  · rfl

end

/-! ## The offer of a blob (R75 to R79) -/

/-- The flaw that a closed blob is measured as. -/
def State.flawOf (b : Blob) (s : State) : Flaw :=
  measure s.blobs.params s.lp s.ing.pp b (freeFlawNumber s.map.flaws (Config.flawMax + 1) s.map.nextFlaw)
    (!(s.map.spanQuery (b.first - s.ing.detect.lg) (b.last + s.ing.detect.lg + 1)).isEmpty) s.pos.day s.pos.tod

/-- The part once a flaw took its number. -/
def State.numbered (s : State) : State := s.modMap (fun m =>
  { m with nextFlaw := nextNumber (freeFlawNumber s.map.flaws (Config.flawMax + 1) s.map.nextFlaw) })

theorem State.offerBlob_eq (b : Blob) (s : State) : s.offerBlob b =
    (((s.numbered.placeFlaw (s.flawOf b)).1).requestFlawRecord (s.numbered.placeFlaw (s.flawOf b)).2).tallied
      (Tallies.flaw (s.numbered.placeFlaw (s.flawOf b)).2) := rfl

theorem freeFlawNumber_free {flaws : List Flaw} {n : Nat} (fuel : Nat) (h : ∀ f ∈ flaws, f.num ≠ n) :
    freeFlawNumber flaws fuel n = n := by
  cases fuel with
  | zero => rfl
  | succ fuel =>
    refine if_neg fun hAny => ?_
    obtain ⟨f, hf, hNum⟩ := List.any_eq_true.1 hAny
    exact h f hf (of_decide_eq_true hNum)

/-- An offer changes the map, the tallies, the events and the rings alone. -/
theorem State.offerBlob_frame (b : Blob) (s : State) : s.offerBlob b = { s with
    map := (s.offerBlob b).map, tally := (s.offerBlob b).tally, ev := (s.offerBlob b).ev, rings := (s.offerBlob b).rings } := by
  have hPlaced := (State.placeFlaw_parts (s.flawOf b) s.numbered).1.frame
  rw [State.offerBlob_eq, State.requestFlawRecord_frame, hPlaced]
  rfl

theorem spanQuery_some {m : FlawMap} {a b : Nat} :
    (!(m.spanQuery a b).isEmpty) = true ↔ ∃ x ∈ m.spans, x.start < b ∧ a < x.stop := by
  unfold FlawMap.spanQuery
  rw [Bool.not_eq_true', List.isEmpty_eq_false_iff_exists_mem]
  simp only [List.mem_map, List.mem_filter, Bool.and_eq_true, decide_eq_true_eq]
  exact ⟨fun ⟨_, x, ⟨hx, hTouch⟩, _⟩ => ⟨x, hx, hTouch⟩, fun ⟨x, hx, hTouch⟩ => ⟨x.kind, x, ⟨hx, hTouch⟩, rfl⟩⟩

/-! ## Offers do not look at the open blob table -/

/-- The part with another blob tracker. -/
def State.withBlobs (x : Blobs) (s : State) : State := { s with blobs := x }

section
variable (x : Blobs) (s : State)

theorem State.raise_withBlobs (k : EventKind) (a b : Nat) : (s.withBlobs x).raise k a b = (s.raise k a b).withBlobs x := by
  have hSame : s.raise k a b = _ := State.raise_frame
  rw [State.raise_congr (s := s) (u := s.withBlobs x) rfl rfl rfl k a b, hSame]
  rfl

theorem State.raiseIf_withBlobs (q : Bool) (k : EventKind) (a b : Nat) :
    (s.withBlobs x).raiseIf q k a b = (s.raiseIf q k a b).withBlobs x := by
  cases q with
  | false => rfl
  | true => exact State.raise_withBlobs x s k a b

theorem State.refuseFlaw_withBlobs (f : Flaw) : (s.withBlobs x).refuseFlaw f = (s.refuseFlaw f).withBlobs x :=
  State.raiseIf_withBlobs x (s.refusing f) (!(s.requestSpan .mapFull f.first (f.last + 1)).map.full) .mapFull f.num f.first

theorem State.placeFlaw_withBlobs (f : Flaw) :
    (s.withBlobs x).placeFlaw f = ((s.placeFlaw f).1.withBlobs x, (s.placeFlaw f).2) := by
  by_cases hRetired : s.map.retire.retires (f.last + 1) = true
  · rw [State.placeFlaw_retired hRetired, State.placeFlaw_retired (s := s.withBlobs x) hRetired]
    rfl
  · rcases Nat.lt_or_ge s.map.flaws.length 4096 with hRoom | hFull
    · rw [State.placeFlaw_mapped hRetired hRoom, State.placeFlaw_mapped (s := s.withBlobs x) hRetired hRoom]
      rfl
    · rw [State.placeFlaw_full hRetired hFull, State.placeFlaw_full (s := s.withBlobs x) hRetired hFull,
        State.refuseFlaw_withBlobs]

theorem State.requestFlawRecord_withBlobs (f : Flaw) :
    (s.withBlobs x).requestFlawRecord f = (s.requestFlawRecord f).withBlobs x := by
  by_cases hUnset : s.rings[flawRing].state = .unset
  · rw [State.requestFlawRecord_unset f s hUnset, State.requestFlawRecord_unset f (s.withBlobs x) hUnset]
  · rcases Nat.lt_or_ge s.rings[flawRing].staging.length 8 with hRoom | hFull
    · rw [State.requestFlawRecord_takes f s hUnset hRoom, State.requestFlawRecord_takes f (s.withBlobs x) hUnset hRoom]
      rfl
    · rw [State.requestFlawRecord_loses f s hUnset hFull, State.requestFlawRecord_loses f (s.withBlobs x) hUnset hFull]
      exact State.raiseIf_withBlobs x (s.modMap (fun m => { m with recordsLost := inc32 s.map.recordsLost, lossMark := true }))
        (!s.map.lossMark) .flawRingLoss f.num (inc32 s.map.recordsLost)

theorem State.offerBlob_withBlobs (b : Blob) (h : x.params = s.blobs.params) :
    (s.withBlobs x).offerBlob b = (s.offerBlob b).withBlobs x := by
  have hFlaw : (s.withBlobs x).flawOf b = s.flawOf b :=
    congrArg (fun p => measure p s.lp s.ing.pp b (freeFlawNumber s.map.flaws (Config.flawMax + 1) s.map.nextFlaw)
      (!(s.map.spanQuery (b.first - s.ing.detect.lg) (b.last + s.ing.detect.lg + 1)).isEmpty) s.pos.day s.pos.tod) h
  have hNumbered : (s.withBlobs x).numbered = s.numbered.withBlobs x := rfl
  rw [State.offerBlob_eq, hFlaw, hNumbered, State.placeFlaw_withBlobs, State.requestFlawRecord_withBlobs]
  rfl

theorem State.offerBlobs_withBlobs (bs : List Blob) (h : x.params = s.blobs.params) :
    bs.foldl (fun u b => u.offerBlob b) (s.withBlobs x) = (bs.foldl (fun u b => u.offerBlob b) s).withBlobs x := by
  induction bs generalizing s with
  | nil => rfl
  | cons b bs ih =>
    have hKept : (s.offerBlob b).blobs = s.blobs := (congrArg (·.blobs) (State.offerBlob_frame b s) :)
    rw [List.foldl_cons, List.foldl_cons, State.offerBlob_withBlobs x s b h]
    exact ih _ (by rw [hKept]; exact h)

end

/-- Offers change the map, the tallies, the events and the rings alone. -/
theorem State.offerBlobs_frame (bs : List Blob) (s : State) :
    let t := bs.foldl (fun u b => u.offerBlob b) s
    t = { s with map := t.map, tally := t.tally, ev := t.ev, rings := t.rings } := by
  induction bs generalizing s with
  | nil => rfl
  | cons b bs ih =>
    dsimp only [List.foldl_cons]
    rw [ih (s.offerBlob b), State.offerBlob_frame b s]

/-! ## What an offer does -/

section
variable (b : Blob) (s : State)

/-- What every offer of a blob leaves. -/
theorem State.offerBlob_parts (h : ∀ f ∈ s.map.flaws, f.num ≠ s.map.nextFlaw) :
    let t := s.offerBlob b
    let f := (s.numbered.placeFlaw (s.flawOf b)).2
    f = { s.flawOf b with notMapped := f.notMapped } ∧ f.num = s.map.nextFlaw
    ∧ t.map.nextFlaw = nextNumber s.map.nextFlaw ∧ t.tally.live.flaws = tallyAdd s.tally.live.flaws 1
    ∧ (s.rings[flawRing].state = .unset → t.rings[flawRing] = s.rings[flawRing])
    ∧ (s.rings[flawRing].state ≠ .unset → s.rings[flawRing].staging.length < 8 → t.map.lossMark = false
        ∧ t.rings[flawRing].staging = s.rings[flawRing].staging ++ [{ record := .flaw f, issued := none }])
    ∧ (s.rings[flawRing].state ≠ .unset → 8 ≤ s.rings[flawRing].staging.length → t.map.lossMark = true
        ∧ t.map.recordsLost = inc32 s.map.recordsLost ∧ t.rings[flawRing].staging = s.rings[flawRing].staging)
    ∧ t.map = { (s.numbered.placeFlaw (s.flawOf b)).1.map with
        recordsLost := t.map.recordsLost, lossMark := t.map.lossMark } := by
  intro t f
  let p := (s.numbered.placeFlaw (s.flawOf b)).1
  obtain ⟨hPlaces, hFlaw⟩ := State.placeFlaw_parts (s.flawOf b) s.numbered
  have hNum := freeFlawNumber_free (Config.flawMax + 1) h
  have hOwn : f.num = s.map.nextFlaw := (congrArg Flaw.num hFlaw).trans hNum
  have hMap : t.map = (p.requestFlawRecord f).map := rfl
  have hRings : t.rings = (p.requestFlawRecord f).rings := rfl
  have hRequest := State.requestFlawRecord_frame f p
  have hNext : p.map.nextFlaw = nextNumber s.map.nextFlaw := hPlaces.next.trans (congrArg nextNumber hNum)
  have hRing : p.rings[flawRing] = s.rings[flawRing] := hPlaces.ring
  refine ⟨hFlaw, hOwn, ?_, ?_, fun hUnset => ?_, fun hSet hRoom => ?_, fun hSet hFull => ?_, ?_⟩
  · rw [hMap, hRequest]
    exact hNext
  · change tallyAdd (p.requestFlawRecord f).tally.live.flaws 1 = _
    rw [hRequest]
    exact congrArg (tallyAdd · 1) hPlaces.flaws
  · rw [hRings, State.requestFlawRecord_unset f p (by rw [hRing]; exact hUnset)]
    exact hRing
  · have hTaken := State.requestFlawRecord_room f p (by rw [hRing]; exact hSet) (by rw [hRing]; exact hRoom)
    rw [hMap, hRings]
    rw [hRing] at hTaken
    exact hTaken
  · obtain ⟨hMark, hLost, hKept⟩ := State.requestFlawRecord_lost f p (by rw [hRing]; exact hSet) (by rw [hRing]; exact hFull)
    rw [hMap, hRings]
    refine ⟨hMark, hLost.trans (congrArg inc32 hPlaces.lost), ?_⟩
    rw [hKept, hRing]
  · rw [hMap]
    exact (congrArg (·.map) hRequest :)

end

end Sys2Proof.Machine
end
section
/-! PROOFS. The open blob table (R63 to R69): its entries in ascending number, and what one run of a line does to it. -/

set_option Elab.async false

namespace Sys2Proof.Machine

/-! ## Sorting -/

theorem insertSorted_pairwise {α : Type} {before : α → α → Bool} {R : α → α → Prop} (hR : ∀ a b, before a b = true ↔ R a b)
    (hTrans : ∀ a b c, R a b → R b c → R a c) {x : α} {l : List α} (h : l.Pairwise R) (hTotal : ∀ y ∈ l, R x y ∨ R y x) :
    (insertSorted before x l).Pairwise R := by
  induction l with
  | nil => exact List.pairwise_singleton _ _
  | cons y ys ih =>
    obtain ⟨hFirst, hRest⟩ := List.pairwise_cons.1 h
    obtain ⟨hHead, hTail⟩ := List.forall_mem_cons.1 hTotal
    unfold insertSorted
    split
    next hBefore =>
      have hxy := (hR x y).1 hBefore
      exact List.pairwise_cons.2 ⟨List.forall_mem_cons.2 ⟨hxy, fun z hz => hTrans x y z hxy (hFirst z hz)⟩, h⟩
    next hNot =>
      have hyx : R y x := hHead.resolve_left fun hxy => hNot ((hR x y).2 hxy)
      refine List.pairwise_cons.2 ⟨fun z hz => ?_, ih hRest hTail⟩
      rcases List.mem_cons.1 ((insertSorted_perm before x ys).mem_iff.1 hz) with rfl | hz
      · exact hyx
      · exact hFirst z hz

theorem sortBy_append {α : Type} (before : α → α → Bool) (l : List α) (x : α) :
    sortBy before (l ++ [x]) = insertSorted before x (sortBy before l) := by
  unfold sortBy
  rw [List.foldl_append]
  rfl

theorem sortBy_perm {α : Type} (before : α → α → Bool) (l : List α) : (sortBy before l).Perm l := by
  induction l using List.reverseRecOn with
  | nil => exact List.Perm.refl _
  | append_singleton l x ih =>
    rw [sortBy_append]
    exact ((insertSorted_perm before x _).trans (ih.cons x)).trans (List.perm_append_singleton x l).symm

theorem sortBy_pairwise {α : Type} {before : α → α → Bool} {R : α → α → Prop} (hR : ∀ a b, before a b = true ↔ R a b)
    (hTrans : ∀ a b c, R a b → R b c → R a c) {l : List α} (hTotal : l.Pairwise (fun x y => R x y ∨ R y x)) :
    (sortBy before l).Pairwise R := by
  induction l using List.reverseRecOn with
  | nil => exact List.Pairwise.nil
  | append_singleton l x ih =>
    obtain ⟨hBefore, -, hLast⟩ := List.pairwise_append.1 hTotal
    rw [sortBy_append]
    refine insertSorted_pairwise hR hTrans (ih hBefore) fun y hy => ?_
    exact (hLast y ((sortBy_perm before l).mem_iff.1 hy) x (List.mem_singleton_self x)).symm

/-! ## Tables in ascending number (R63) -/

/-- The entries stand in ascending number. -/
def Numbered (l : List Blob) : Prop := l.Pairwise (fun x y => x.num < y.num)

namespace Numbered

variable {l : List Blob} {b x : Blob}

theorem filter (h : Numbered l) (p : Blob → Bool) : Numbered (l.filter p) := List.Pairwise.filter p h

theorem eq_of_num (h : Numbered l) (hb : b ∈ l) (hx : x ∈ l) (hNum : b.num = x.num) : b = x := by
  induction l with
  | nil => exact absurd hb List.not_mem_nil
  | cons y ys ih =>
    obtain ⟨hAbove, hRest⟩ := List.pairwise_cons.1 h
    rcases List.mem_cons.1 hb with rfl | hb
    · rcases List.mem_cons.1 hx with rfl | hx
      · rfl
      · exact absurd hNum (hAbove x hx).ne
    · rcases List.mem_cons.1 hx with rfl | hx
      · exact absurd hNum (hAbove b ‹b ∈ ys›).ne'
      · exact ih hRest ‹b ∈ ys› ‹x ∈ ys›

theorem map_num (h : Numbered l) {f : Blob → Blob} (hf : ∀ b ∈ l, (f b).num = b.num) : Numbered (l.map f) := by
  refine List.pairwise_map.2 (List.Pairwise.imp_of_mem (fun ha hb hab => ?_) h)
  rw [hf _ ha, hf _ hb]
  exact hab

end Numbered

theorem putBlob_perm (b : Blob) (l : List Blob) : (putBlob b l).Perm (b :: l.filter (fun e => e.num ≠ b.num)) := by
  have hSame : l.filter (fun e => e.num != b.num) = l.filter (fun e => e.num ≠ b.num) :=
    List.filter_congr fun e _ => by by_cases hNum : e.num = b.num <;> simp [hNum]
  rw [← hSame]
  exact insertSorted_perm _ b _

theorem putBlob_numbered {b : Blob} {l : List Blob} (h : Numbered l) : Numbered (putBlob b l) := by
  refine insertSorted_pairwise (R := fun x y : Blob => x.num < y.num) (fun _ _ => decide_eq_true_iff)
    (fun _ _ _ => Nat.lt_trans) (h.filter _) fun y hy => ?_
  have hNe : y.num ≠ b.num := by simpa using (List.mem_filter.1 hy).2
  exact hNe.symm.lt_or_gt

/-- The lowest number from `n` on that no entry of a table has. -/
theorem lowestFree_spec {n : Nat} {l : List Blob} (h : Numbered l) (hFrom : ∀ b ∈ l, n ≤ b.num) :
    (∀ b ∈ l, b.num ≠ lowestFree n l) ∧ n ≤ lowestFree n l
      ∧ ∀ j, n ≤ j → j < lowestFree n l → ∃ b ∈ l, b.num = j := by
  induction l generalizing n with
  | nil => exact ⟨fun _ hb => absurd hb List.not_mem_nil, le_rfl, fun j h1 h2 => absurd h2 (not_lt.2 h1)⟩
  | cons b bs ih =>
    obtain ⟨hAbove, hRest⟩ := List.pairwise_cons.1 h
    obtain ⟨hHead, hTail⟩ := List.forall_mem_cons.1 hFrom
    unfold lowestFree
    split
    next hNum =>
      obtain ⟨hFree, hLe, hBelow⟩ := ih hRest (n := n + 1) fun x hx => by
        have hLess := hAbove x hx
        omega
      refine ⟨List.forall_mem_cons.2 ⟨by omega, hFree⟩, by omega, fun j h1 h2 => ?_⟩
      by_cases hj : j = n
      · exact ⟨b, List.mem_cons_self, hNum.trans hj.symm⟩
      · obtain ⟨x, hx, hxj⟩ := hBelow j (by omega) h2
        exact ⟨x, List.mem_cons_of_mem _ hx, hxj⟩
    next hNum =>
      refine ⟨List.forall_mem_cons.2 ⟨hNum, fun x hx => ?_⟩, le_rfl, fun j h1 h2 => absurd h2 (not_lt.2 h1)⟩
      have hLess := hAbove x hx
      omega

/-- The lowest number that no entry of a list has. -/
def Lowest (k : Nat) (l : List Blob) : Prop := (∀ b ∈ l, b.num ≠ k) ∧ ∀ j, j < k → ∃ b ∈ l, b.num = j

theorem lowestFree_lowest {l : List Blob} (h : Numbered l) : Lowest (lowestFree 0 l) l := by
  obtain ⟨hFree, -, hBelow⟩ := lowestFree_spec h fun _ _ => Nat.zero_le _
  exact ⟨hFree, fun j hj => hBelow j (Nat.zero_le j) hj⟩

/-! ## The entry to force-close (R68) -/

/-- An entry comes before another one for force-closing, or is it. -/
def Blob.forcedFirst (b x : Blob) : Prop := b.last < x.last ∨ b.last = x.last ∧ b.num ≤ x.num

theorem forceChoice_spec {l : List Blob} (h : Numbered l) :
    (forceChoice l = none ∧ l = []) ∨ ∃ b ∈ l, forceChoice l = some b ∧ ∀ x ∈ l, b.forcedFirst x := by
  induction l with
  | nil => exact .inl ⟨rfl, rfl⟩
  | cons b bs ih =>
    obtain ⟨hAbove, hRest⟩ := List.pairwise_cons.1 h
    refine .inr ?_
    rcases ih hRest with ⟨hNone, rfl⟩ | ⟨c, hc, hSome, hMin⟩
    · exact ⟨b, List.mem_cons_self, rfl, fun x hx => (List.mem_singleton.1 hx) ▸ .inr ⟨rfl, le_rfl⟩⟩
    · unfold forceChoice
      rw [hSome]
      dsimp only
      split
      next hLe =>
        refine ⟨b, List.mem_cons_self, rfl, List.forall_mem_cons.2 ⟨.inr ⟨rfl, le_rfl⟩, fun x hx => ?_⟩⟩
        have hLess := hAbove x hx
        unfold Blob.forcedFirst
        rcases hMin x hx with hLast | ⟨hLast, -⟩
        · omega
        · omega
      next hGt =>
        exact ⟨c, List.mem_cons_of_mem _ hc, rfl, List.forall_mem_cons.2 ⟨.inl (not_le.1 hGt), hMin⟩⟩

theorem forceChoice_eq {l : List Blob} (h : Numbered l) {b : Blob} (hb : b ∈ l) (hMin : ∀ x ∈ l, b.forcedFirst x) :
    forceChoice l = some b := by
  rcases forceChoice_spec h with ⟨-, rfl⟩ | ⟨c, hc, hSome, hLeast⟩
  · cases hb
  · rw [hSome]
    refine congrArg some (h.eq_of_num hc hb ?_)
    have h1 := hMin c hc
    have h2 := hLeast b hb
    unfold Blob.forcedFirst at h1 h2
    omega

/-! ## The entries that a run joins (R65) -/

/-- Each number of a list once, in ascending order. -/
def onceEach (ns : List Nat) : List Nat :=
  ns.foldl (fun acc n => if acc.contains n then acc else insertSorted (fun a b => decide (a < b)) n acc) []

theorem onceEach_spec (ns : List Nat) : (onceEach ns).Pairwise (· < ·) ∧ ∀ k, k ∈ onceEach ns ↔ k ∈ ns := by
  induction ns using List.reverseRecOn with
  | nil => exact ⟨List.Pairwise.nil, fun _ => Iff.rfl⟩
  | append_singleton ns n ih =>
    obtain ⟨hSorted, hMem⟩ := ih
    have hStep : onceEach (ns ++ [n]) =
        if (onceEach ns).contains n then onceEach ns else insertSorted (fun a b => decide (a < b)) n (onceEach ns) := by
      unfold onceEach
      rw [List.foldl_append]
      rfl
    rw [hStep]
    split
    next hIn =>
      have hn : n ∈ ns := (hMem n).1 (List.contains_iff_mem.1 hIn)
      refine ⟨hSorted, fun k => (hMem k).trans ⟨List.mem_append_left _, fun hk => ?_⟩⟩
      exact (List.mem_append.1 hk).elim id fun hk => (List.mem_singleton.1 hk) ▸ hn
    next hOut =>
      have hn : n ∉ onceEach ns := fun h => hOut (List.contains_iff_mem.2 h)
      refine ⟨insertSorted_pairwise (R := fun a b : Nat => a < b) (before := fun a b => decide (a < b))
        (fun _ _ => decide_eq_true_iff) (fun _ _ _ => Nat.lt_trans) hSorted fun y hy => ?_,
        fun k => ?_⟩
      · exact (ne_of_mem_of_not_mem hy hn).symm.lt_or_gt
      · rw [(insertSorted_perm _ n _).mem_iff, List.mem_cons, hMem k, List.mem_append, List.mem_singleton]
        exact or_comm

/-- Two lists in strictly ascending order with the same members are one. -/
theorem ascending_unique {l m : List Nat} (hl : l.Pairwise (· < ·)) (hm : m.Pairwise (· < ·)) (h : ∀ k, k ∈ l ↔ k ∈ m) : l = m := by
  have hPerm : l.Perm m := (List.perm_ext_iff_of_nodup (hl.imp fun h => h.ne) (hm.imp fun h => h.ne)).2 h
  exact hPerm.eq_of_pairwise (fun a b _ _ hab hba => absurd (hab.trans hba) (lt_irrefl a)) hl hm

theorem Run.joins_iff {gc : Nat} {r : Run} {b : Blob} : r.joins gc b = true ↔ r.c0 ≤ b.r1 + gc ∧ b.r0 ≤ r.c1 + gc := by
  unfold Run.joins
  rw [Bool.and_eq_true, decide_eq_true_eq, decide_eq_true_eq]

/-- Where an entry of the table before the line has gone. -/
def Moved.to (moved : Moved) (num : Nat) : Option Nat := (moved.find? (fun m => m.1 = num)).bind (·.2)

theorem joinTargets_spec (gc : Nat) (r : Run) (before : List Blob) (moved : Moved) :
    (joinTargets gc r before moved).Pairwise (· < ·) ∧ ∀ k, k ∈ joinTargets gc r before moved ↔
      ∃ b ∈ before, (r.c0 ≤ b.r1 + gc ∧ b.r0 ≤ r.c1 + gc) ∧ moved.to b.num = some k := by
  obtain ⟨hSorted, hMem⟩ := onceEach_spec ((before.filter (r.joins gc)).filterMap (fun b => moved.to b.num))
  refine ⟨hSorted, fun k => (hMem k).trans ?_⟩
  simp only [List.mem_filterMap, List.mem_filter, Run.joins_iff, and_assoc]

/-- While no entry has moved, a run joins the entries whose spans it meets. -/
theorem Moved.to_start {before : List Blob} {b : Blob} (hb : b ∈ before) :
    Moved.to (before.map (fun b => (b.num, some b.num))) b.num = some b.num := by
  unfold Moved.to
  rw [List.find?_map]
  cases hFind : before.find? ((fun m : Nat × Option Nat => decide (m.1 = b.num)) ∘ fun b => (b.num, some b.num)) with
  | none => exact absurd rfl (of_decide_eq_false (Bool.eq_false_iff.2 (List.find?_eq_none.1 hFind b hb)))
  | some c =>
    have hNum : c.num = b.num := of_decide_eq_true (List.find?_some (p := (fun m : Nat × Option Nat => decide (m.1 = b.num)) ∘
      fun x : Blob => (x.num, some x.num)) hFind :)
    change some c.num = some b.num
    rw [hNum]

end Sys2Proof.Machine
end
section
/-! PROOFS. What one run of a line, a split and an offer do (R65 to R70, R75 to R79). -/

set_option Elab.async false

namespace Sys2Proof.Machine

/-! ## Entering a blob -/

theorem putBlob_new {b : Blob} {l : List Blob} (h : ∀ e ∈ l, e.num ≠ b.num) : (putBlob b l).Perm (b :: l) := by
  have hAll : l.filter (fun e => e.num ≠ b.num) = l := List.filter_eq_self.2 fun e he => decide_eq_true (h e he)
  have hPut := putBlob_perm b l
  rwa [hAll] at hPut

theorem Numbered.unique {l m : List Blob} (hl : Numbered l) (hm : Numbered m) (h : ∀ b, b ∈ l ↔ b ∈ m) : l = m := by
  have hPerm : l.Perm m := (List.perm_ext_iff_of_nodup (hl.imp fun hab hEq => hab.ne (congrArg Blob.num hEq))
    (hm.imp fun hab hEq => hab.ne (congrArg Blob.num hEq))).2 h
  exact hPerm.eq_of_pairwise (fun _ _ _ _ hab hba => absurd (hab.trans hba) (lt_irrefl _)) hl hm

theorem Numbered.nums {l : List Blob} (h : Numbered l) : (l.map (·.num)).Pairwise (· < ·) := List.pairwise_map.2 h

/-- A blob that takes the place of an entry leaves the numbers of the table. -/
theorem putBlob_nums {b : Blob} {l : List Blob} (h : Numbered l) (hIn : b.num ∈ l.map (·.num)) :
    (putBlob b l).map (·.num) = l.map (·.num) := by
  refine ascending_unique (putBlob_numbered h).nums h.nums fun k => ?_
  rw [((putBlob_perm b l).map _).mem_iff, List.map_cons, List.mem_cons]
  simp only [List.mem_map, List.mem_filter, decide_eq_true_eq] at hIn ⊢
  constructor
  · rintro (rfl | ⟨e, ⟨he, -⟩, hk⟩)
    · exact hIn
    · exact ⟨e, he, hk⟩
  · rintro ⟨e, he, rfl⟩
    by_cases hEq : e.num = b.num
    · exact .inl hEq
    · exact .inr ⟨e, ⟨he, hEq⟩, rfl⟩

/-! ## What the tracker may change -/

/-- The tracker changes its table, the map, the tallies, the events and the rings alone, and keeps its parameters. -/
structure Tracks (s t : State) : Prop where
  frame : t = { s with blobs := t.blobs, map := t.map, tally := t.tally, ev := t.ev, rings := t.rings }
  params : t.blobs.params = s.blobs.params

namespace Tracks

variable {s t u : State}

theorem refl (s : State) : Tracks s s := ⟨rfl, rfl⟩

theorem trans (h : Tracks s t) (k : Tracks t u) : Tracks s u :=
  ⟨by rw [k.frame, h.frame], k.params.trans h.params⟩

theorem withBlobs (h : Tracks s t) {x : Blobs} (hx : x.params = t.blobs.params) : Tracks s (t.withBlobs x) :=
  ⟨by rw [h.frame]; rfl, hx.trans h.params⟩

theorem offerBlob (h : Tracks s t) (b : Blob) : Tracks s (t.offerBlob b) :=
  h.trans ⟨by rw [State.offerBlob_frame], by rw [State.offerBlob_frame]⟩

theorem offerBlobs (h : Tracks s t) (bs : List Blob) : Tracks s (bs.foldl (fun u b => u.offerBlob b) t) :=
  h.trans ⟨by rw [State.offerBlobs_frame], by rw [State.offerBlobs_frame]⟩

end Tracks

/-! ## Forcing an entry out (R68) -/

/-- The tracker once an entry was forced out of its table. -/
def Blobs.without (b : Blob) (t : Blobs) : Blobs :=
  { t with entries := t.entries.filter (·.num != b.num), forcedClosures := inc32 t.forcedClosures }

/-- The part once an entry was force-closed, before the event. -/
def State.closeForced (b : Blob) (s : State) : State :=
  if b.carried then s.withBlobs (s.blobs.without b)
  else (s.withBlobs (s.blobs.without b)).offerBlob { b with flags := { b.flags with forced := true } }

theorem State.closeForced_parts (b : Blob) (s : State) :
    Tracks s (s.closeForced b) ∧ (s.closeForced b).blobs = s.blobs.without b
    ∧ (s.closeForced b).map =
        if b.carried then s.map else (s.offerBlob { b with flags := { b.flags with forced := true } }).map := by
  have hTracks : Tracks s (s.withBlobs (s.blobs.without b)) := (Tracks.refl s).withBlobs rfl
  unfold State.closeForced
  split
  next => exact ⟨hTracks, rfl, rfl⟩
  next =>
    have hOffer := State.offerBlob_withBlobs (s.blobs.without b) s { b with flags := { b.flags with forced := true } } rfl
    refine ⟨hTracks.offerBlob _, ?_, ?_⟩
    · rw [hOffer]
      rfl
    · rw [hOffer]
      rfl

theorem Joining.makeRoom_free {n : Nat} {j : Joining} (h : j.st.blobs.entries.length < 256) : j.makeRoom n = j := if_pos h

theorem Joining.makeRoom_full {n : Nat} {j : Joining} {b : Blob} (h : 256 ≤ j.st.blobs.entries.length)
    (hFirst : forceChoice j.st.blobs.entries = some b) : j.makeRoom n =
      { st := (j.st.closeForced b).raise .blobForced n (b.num + 256 * mark (!b.carried)),
        moved := j.moved.map (fun m => (m.1, if m.2 = some b.num then none else m.2)) } := by
  have hFull : ¬ j.st.blobs.entries.length < Config.blobMax := not_lt.2 h
  unfold Joining.makeRoom
  rw [if_neg hFull, hFirst]
  rfl

theorem Blobs.without_entries (b : Blob) (t : Blobs) :
    (t.without b).entries = t.entries.filter (fun e => e.num ≠ b.num) :=
  List.filter_congr fun e _ => by by_cases hNum : e.num = b.num <;> simp [hNum]

/-! ## One run of a line (R65 to R67) -/

/-- The tracker once a run opened a blob. -/
def Blobs.opening (n : Nat) (r : Run) (t : Blobs) : Blobs :=
  { t with entries := putBlob (Blob.ofRun (lowestFree 0 t.entries) n r) t.entries, opened := inc32 t.opened }

theorem Blobs.opening_entries {n : Nat} {r : Run} {t : Blobs} (h : Numbered t.entries) :
    (t.opening n r).entries.Perm (Blob.ofRun (lowestFree 0 t.entries) n r :: t.entries) :=
  putBlob_new (lowestFree_lowest h).1

/-- The tracker once a run joined the entries `ks`, the others into the first one. -/
def Blobs.joining (n : Nat) (r : Run) (k0 : Nat) (rest : List Nat) (t : Blobs) : Blobs :=
  { t with
    entries := putBlob ((t.entries.filter (fun b => (k0 :: rest).contains b.num)).foldl (Blob.union k0) (Blob.ofRun k0 n r))
      (t.entries.filter (fun b => !rest.contains b.num)),
    merged := satAdd Config.max32 t.merged rest.length }

section
variable {gc n : Nat} {before : List Blob} {j : Joining} {r : Run}

theorem Joining.run_opens (h : joinTargets gc r before j.moved = []) : j.run gc n before r =
    { (j.makeRoom n) with st := (j.makeRoom n).st.withBlobs ((j.makeRoom n).st.blobs.opening n r) } := by
  unfold Joining.run
  rw [h] <;> rfl

theorem Joining.run_joins {k0 : Nat} {rest : List Nat} (h : joinTargets gc r before j.moved = k0 :: rest) :
    j.run gc n before r =
      { st := j.st.withBlobs (j.st.blobs.joining n r k0 rest),
        moved := j.moved.map (fun m => (m.1, m.2.map (fun k => if k ∈ rest then k0 else k))) } := by
  have hMoved : ∀ m : Nat × Option Nat, (m.1, m.2.map (fun k => if k ∈ rest then k0 else k)) = (fun (e, t) => (e, match t with
      | some k => if rest.contains k then some k0 else some k
      | none => none)) m := by
    rintro ⟨e, t⟩
    cases t with
    | none => rfl
    | some k => by_cases hIn : k ∈ rest <;> simp [hIn]
  rw [funext hMoved]
  unfold Joining.run
  rw [h] <;> rfl

end

/-! ## The union of the joined entries (R67) -/

/-- The union of a blob that took runs, over the columns `p`, with other entries. -/
def Blob.absorbing (k r0 r1 : Nat) (a : Blob) (p : Nat × Nat) (parts : List Blob) : Blob :=
  let grown := parts.filter (fun b => !b.carried)
  { num := k, carried := false, first := grown.foldl (fun m b => min m b.first) a.first,
    last := grown.foldl (fun m b => max m b.last) a.last, c0 := grown.foldl (fun m b => min m b.c0) a.c0,
    c1 := grown.foldl (fun m b => max m b.c1) a.c1, dark := a.dark + (grown.map (·.dark)).sum,
    bright := a.bright + (grown.map (·.bright)).sum, peak := grown.foldl (fun m b => max m b.peak) a.peak, r0 := r0, r1 := r1,
    taken := some ((grown.filterMap (·.taken)).foldl (fun m p => min m p.1) p.1,
      (grown.filterMap (·.taken)).foldl (fun m p => max m p.2) p.2),
    flags := { forced := false, continued := a.flags.continued || parts.any (·.flags.continued),
               seam := a.flags.seam || parts.any (·.flags.seam),
               overflow := a.flags.overflow || parts.any (·.flags.overflow) } }

section
variable {k : Nat} {a b : Blob} {p : Nat × Nat}

theorem Blob.absorbing_nil (hOpen : a.carried = false) (hTaken : a.taken = some p) (hForced : a.flags.forced = false)
    (hNum : a.num = k) : a = Blob.absorbing k a.r0 a.r1 a p [] := by
  obtain ⟨num, carried, first, last, c0, c1, dark, bright, peak, r0, r1, taken, ⟨forced, continued, seam, overflow⟩⟩ := a
  subst hOpen hTaken hForced hNum
  simp [Blob.absorbing]

/-- A CARRIED entry gives its flags alone. -/
theorem Blob.union_carried (hOpen : a.carried = false) (hTaken : a.taken = some p) (hb : b.carried = true) :
    Blob.union k a b = Blob.absorbing k a.r0 a.r1 a p [b] := by
  simp [Blob.union, Blob.absorbing, hOpen, hb, hTaken]

theorem Blob.union_open (hOpen : a.carried = false) (hTaken : a.taken = some p) (hb : b.carried = false) :
    Blob.union k a b = Blob.absorbing k (min a.r0 b.r0) (max a.r1 b.r1) a p [b] := by
  cases hb' : b.taken with
  | none => simp [Blob.union, Blob.absorbing, hOpen, hb, hTaken, hb']
  | some q => simp [Blob.union, Blob.absorbing, widen, hOpen, hb, hTaken, hb']

theorem Blob.foldl_union (parts : List Blob) (hOpen : a.carried = false) (hTaken : a.taken = some p)
    (hForced : a.flags.forced = false) (hNum : a.num = k) :
    ∃ r0 r1, parts.foldl (Blob.union k) a = Blob.absorbing k r0 r1 a p parts := by
  induction parts generalizing a p with
  | nil => exact ⟨a.r0, a.r1, Blob.absorbing_nil hOpen hTaken hForced hNum⟩
  | cons b bs ih =>
    have hStep : ∃ r0 r1, Blob.union k a b = Blob.absorbing k r0 r1 a p [b] := by
      cases hb : b.carried with
      | true => exact ⟨_, _, Blob.union_carried hOpen hTaken hb⟩
      | false => exact ⟨_, _, Blob.union_open hOpen hTaken hb⟩
    obtain ⟨x, y, hUnion⟩ := hStep
    rw [List.foldl_cons, hUnion]
    obtain ⟨r0, r1, hFold⟩ := ih (a := Blob.absorbing k x y a p [b]) rfl rfl rfl rfl
    refine ⟨r0, r1, hFold.trans ?_⟩
    cases hb : b.carried with
    | true => simp [Blob.absorbing, hb, Bool.or_assoc]
    | false =>
      cases ht : b.taken with
      | none => simp [Blob.absorbing, hb, ht, Bool.or_assoc, Nat.add_assoc]
      | some q => simp [Blob.absorbing, hb, ht, Bool.or_assoc, Nat.add_assoc]

end

theorem Blobs.joining_entries {n : Nat} {r : Run} {k0 : Nat} {rest : List Nat} {t : Blobs}
    (hOrder : (k0 :: rest).Pairwise (· < ·)) :
    ∃ r0 r1, (t.joining n r k0 rest).entries.Perm
      (Blob.absorbing k0 r0 r1 (Blob.ofRun k0 n r) (r.c0, r.c1) (t.entries.filter (fun b => b.num ∈ k0 :: rest))
        :: t.entries.filter (fun b => b.num ∉ k0 :: rest)) := by
  obtain ⟨r0, r1, hFold⟩ := Blob.foldl_union (k := k0) (a := Blob.ofRun k0 n r) (p := (r.c0, r.c1))
    (t.entries.filter (fun b => b.num ∈ k0 :: rest)) rfl rfl rfl rfl
  have hParts : t.entries.filter (fun b => (k0 :: rest).contains b.num) = t.entries.filter (fun b => b.num ∈ k0 :: rest) :=
    List.filter_congr fun b _ => by rw [List.contains_eq_mem]
  have hFirst : k0 ∉ rest := fun hIn => lt_irrefl k0 ((List.pairwise_cons.1 hOrder).1 k0 hIn)
  refine ⟨r0, r1, ?_⟩
  rw [← hFold]
  change (putBlob _ _).Perm _
  rw [hParts]
  refine (putBlob_perm _ _).trans ?_
  have hNum : ((t.entries.filter (fun b => b.num ∈ k0 :: rest)).foldl (Blob.union k0) (Blob.ofRun k0 n r)).num = k0 :=
    congrArg Blob.num hFold
  rw [hNum, List.filter_filter]
  refine List.Perm.of_eq (congrArg _ (List.filter_congr fun b _ => ?_))
  by_cases hEq : b.num = k0 <;> by_cases hIn : b.num ∈ rest <;> simp [hEq, hIn]

/-! ## Splitting one blob (R69) -/

/-- What a split leaves in the entry of a blob whose runs on the line covered the columns `x` to `y`. -/
def Blob.rest (b : Blob) (x y : Nat) : Blob :=
  { num := b.num, carried := true, first := 0, last := b.last, c0 := 0, c1 := 0, dark := 0, bright := 0, peak := 0,
    r0 := x, r1 := y, taken := none, flags := { forced := false, continued := true, seam := false, overflow := false } }

theorem Blob.carry_eq {b : Blob} {x y : Nat} (h : b.taken = some (x, y)) : b.carry = b.rest x y := by
  unfold Blob.carry Blob.endLine
  rw [h] <;> rfl

theorem State.splitBlob_parts (b : Blob) (s : State) :
    s.splitBlob b = { s.offerBlob { b with flags := { b.flags with continued := true } } with blobs := (s.splitBlob b).blobs }
    ∧ (s.splitBlob b).blobs = { s.blobs with entries := putBlob b.carry s.blobs.entries, splits := inc32 s.blobs.splits } := by
  refine ⟨rfl, ?_⟩
  unfold State.splitBlob
  rw [State.offerBlob_frame]
  rfl

/-! ## The oldest open line (R70) -/

theorem Blobs.oldestOpen_none (t : Blobs) : t.oldestOpen = none ↔ ∀ b ∈ t.entries, b.carried = true := by
  constructor
  · intro hNone b hb
    by_contra hOpen
    have hGe := (Blobs.oldestOpen_ge t (b.first + 1)).1 (fun x hx => by rw [hNone] at hx; cases hx) b hb
      (Bool.eq_false_iff.2 hOpen)
    omega
  · intro hAll
    cases hOldest : t.oldestOpen with
    | none => rfl
    | some x =>
      have hGe := (Blobs.oldestOpen_ge t (x + 1)).2 (fun b hb hOpen => by rw [hAll b hb] at hOpen; cases hOpen) x hOldest
      omega

theorem Blobs.oldestOpen_some (t : Blobs) (f : Nat) : t.oldestOpen = some f ↔
    (∃ b ∈ t.entries, b.carried = false ∧ b.first = f) ∧ ∀ b ∈ t.entries, b.carried = false → f ≤ b.first := by
  constructor
  · intro hSome
    have hLow : ∀ b ∈ t.entries, b.carried = false → f ≤ b.first :=
      (Blobs.oldestOpen_ge t f).1 fun x hx => (Option.some.inj (hSome.symm.trans hx)).le
    refine ⟨?_, hLow⟩
    by_contra hNone
    have hAbove : ∀ b ∈ t.entries, b.carried = false → f + 1 ≤ b.first := fun b hb hOpen =>
      Nat.lt_of_le_of_ne (hLow b hb hOpen) fun hEq => hNone ⟨b, hb, hOpen, hEq.symm⟩
    have hGe := (Blobs.oldestOpen_ge t (f + 1)).2 hAbove f hSome
    omega
  · rintro ⟨⟨b, hb, hOpen, hFirst⟩, hLow⟩
    cases hOldest : t.oldestOpen with
    | none =>
      have hCarried := (Blobs.oldestOpen_none t).1 hOldest b hb
      rw [hOpen] at hCarried
      cases hCarried
    | some x =>
      have hGe : f ≤ x := (Blobs.oldestOpen_ge t f).2 hLow x hOldest
      have hLe : x ≤ b.first := (Blobs.oldestOpen_ge t x).1 (fun y hy => (Option.some.inj (hOldest.symm.trans hy)).le) b hb hOpen
      exact congrArg some (le_antisymm (hLe.trans hFirst.le) hGe)

end Sys2Proof.Machine
end
section
/-! PROOFS. The handling of one line by the Blob Tracker (R64 to R69). -/

set_option Elab.async false

namespace Sys2Proof.Machine

/-! ## The order of closing (R64, R69) -/

/-- A blob is offered before another one that closes at the same line. -/
def Blob.earlier (x y : Blob) : Prop := x.first < y.first ∨ x.first = y.first ∧ (x.c0 < y.c0 ∨ x.c0 = y.c0 ∧ x.num < y.num)

theorem Blob.before_iff (x y : Blob) : x.before y = true ↔ x.earlier y := by
  unfold Blob.before Blob.earlier
  simp only [Bool.or_eq_true, Bool.and_eq_true, decide_eq_true_eq]

theorem sortBy_before {l : List Blob} (h : Numbered l) : (sortBy Blob.before l).Pairwise Blob.earlier := by
  refine sortBy_pairwise Blob.before_iff (fun a b c hab hbc => ?_) (h.imp fun {x y} hxy => ?_)
  · unfold Blob.earlier at *
    omega
  · unfold Blob.earlier
    omega

/-! ## Closing by gap (R64) -/

/-- The entries that no line since `n` minus the gap has met. -/
def Blobs.gone (lg n : Nat) (t : Blobs) : List Blob := t.entries.filter (fun b => b.last + lg < n)

/-- The tracker once those entries were closed. -/
def Blobs.closing (lg n : Nat) (t : Blobs) : Blobs :=
  { t with
    entries := t.entries.filter (fun b => n ≤ b.last + lg)
    closedByGap := satAdd Config.max32 t.closedByGap (t.entries.filter (fun b => b.last + lg < n && !b.carried)).length
    expired := satAdd Config.max32 t.expired (t.entries.filter (fun b => b.last + lg < n && b.carried)).length }

/-- The part once a line has closed what it closes by gap. -/
def State.gapClosed (n : Nat) (s : State) : State := s.closeByGap (s.blobs.gone s.ing.detect.lg n)

theorem State.gapClosed_eq {n : Nat} {s : State} (h : Numbered s.blobs.entries) : s.gapClosed n =
    ((sortBy Blob.before (s.blobs.entries.filter (fun b => b.last + s.ing.detect.lg < n && !b.carried))).foldl
      (fun u b => u.offerBlob b) s).withBlobs (s.blobs.closing s.ing.detect.lg n) := by
  let lg := s.ing.detect.lg
  have hOpen : (s.blobs.gone lg n).filter (fun b => !b.carried) =
      s.blobs.entries.filter (fun b => b.last + lg < n && !b.carried) := by
    unfold Blobs.gone
    rw [List.filter_filter]
    exact List.filter_congr fun b _ => Bool.and_comm _ _
  have hCarried : (s.blobs.gone lg n).filter (fun b => b.carried) =
      s.blobs.entries.filter (fun b => b.last + lg < n && b.carried) := by
    unfold Blobs.gone
    rw [List.filter_filter]
    exact List.filter_congr fun b _ => Bool.and_comm _ _
  have hKept : s.blobs.entries.filter (fun b => !(s.blobs.gone lg n).any (fun e => e.num = b.num)) =
      s.blobs.entries.filter (fun b => n ≤ b.last + lg) := by
    refine List.filter_congr fun b hb => Bool.eq_iff_iff.2 ?_
    rw [Bool.not_eq_true', List.any_eq_false, decide_eq_true_eq]
    simp only [decide_eq_true_eq]
    refine ⟨fun hNone => not_lt.1 fun hGone => hNone b (List.mem_filter.2 ⟨hb, decide_eq_true hGone⟩) rfl,
      fun hStays e he hNum => ?_⟩
    obtain ⟨heIn, heGone⟩ := List.mem_filter.1 he
    have hSame := h.eq_of_num heIn hb hNum
    subst hSame
    exact absurd (of_decide_eq_true heGone) (not_lt.2 hStays)
  have hBlobs : ({ s.blobs with
      entries := s.blobs.entries.filter (fun b => !(s.blobs.gone lg n).any (fun e => e.num = b.num)),
      closedByGap := satAdd Config.max32 s.blobs.closedByGap ((s.blobs.gone lg n).filter (fun b => !b.carried)).length,
      expired := satAdd Config.max32 s.blobs.expired ((s.blobs.gone lg n).filter (fun b => b.carried)).length } : Blobs)
      = s.blobs.closing lg n := by
    rw [hOpen, hCarried, hKept]
    rfl
  rw [← State.offerBlobs_withBlobs _ _ _ (show (s.blobs.closing lg n).params = s.blobs.params from rfl), ← hBlobs, ← hOpen]
  rfl

theorem State.gapClosed_tracks {n : Nat} {s : State} (h : Numbered s.blobs.entries) : Tracks s (s.gapClosed n) := by
  rw [State.gapClosed_eq h]
  refine ((Tracks.refl s).offerBlobs _).withBlobs ?_
  rw [State.offerBlobs_frame]
  rfl

theorem State.gapClosed_blobs {n : Nat} {s : State} (h : Numbered s.blobs.entries) :
    (s.gapClosed n).blobs = s.blobs.closing s.ing.detect.lg n := by
  rw [State.gapClosed_eq h]
  rfl

theorem State.gapClosed_none {n : Nat} {s : State} (h : Numbered s.blobs.entries)
    (hStay : ∀ b ∈ s.blobs.entries, n ≤ b.last + s.ing.detect.lg) :
    s.gapClosed n = s.withBlobs (s.blobs.closing s.ing.detect.lg n)
    ∧ (s.blobs.closing s.ing.detect.lg n).entries = s.blobs.entries := by
  have hNone : s.blobs.entries.filter (fun b => b.last + s.ing.detect.lg < n && !b.carried) = [] :=
    List.filter_eq_nil_iff.2 fun b hb hGone => by
      have hLess := of_decide_eq_true (Bool.and_eq_true _ _ ▸ hGone).1
      have hNot := hStay b hb
      omega
  refine ⟨?_, List.filter_eq_self.2 fun b hb => decide_eq_true (hStay b hb)⟩
  rw [State.gapClosed_eq h, hNone]
  rfl

/-! ## The stages of a line -/

/-- The table and the moves when the runs of a line are taken. -/
def State.joiningStart (s : State) : Joining := { st := s, moved := s.blobs.entries.map (fun b => (b.num, some b.num)) }

/-- The table and the moves after runs of line `n`. -/
def State.joinRuns (n : Nat) (runs : List Run) (s : State) : Joining :=
  runs.foldl (Joining.run s.ing.detect.gc n s.blobs.entries) s.joiningStart

/-- The blobs that split at the end of a line, in the order in which they split. -/
def Blobs.splitting (lmax : Nat) (t : Blobs) : List Blob := sortBy Blob.before (t.entries.filter (Blob.splits lmax))

/-- The end of a line: the blobs that are too long split, and the runs taken are the recent spans. -/
def State.lineEnd (s : State) : State :=
  let u := (s.blobs.splitting s.ing.detect.lmax).foldl State.splitBlob s
  u.withBlobs { u.blobs with entries := u.blobs.entries.map Blob.endLine }

theorem Blob.endLine_num (b : Blob) : b.endLine.num = b.num := by
  unfold Blob.endLine
  split
  · rfl
  · rfl

theorem Blob.endLine_taken (b : Blob) : b.endLine.taken = none := by
  unfold Blob.endLine
  split
  next h => exact h
  next => rfl

theorem Blob.endLine_of_none {b : Blob} (h : b.taken = none) : b.endLine = b := by
  unfold Blob.endLine
  rw [h]

theorem map_endLine {l : List Blob} (h : ∀ b ∈ l, b.taken = none) : l.map Blob.endLine = l :=
  (List.map_congr_left fun b hb => Blob.endLine_of_none (h b hb)).trans (List.map_id l)

theorem Blob.splits_iff {lmax : Nat} {b : Blob} :
    b.splits lmax = true ↔ (b.carried = false ∧ b.taken.isSome = true) ∧ lmax ≤ b.last - b.first + 1 := by
  unfold Blob.splits
  simp only [Bool.and_eq_true, Bool.not_eq_true', decide_eq_true_eq]

theorem filter_splits {lmax : Nat} {l : List Blob} (h : ∀ b ∈ l, b.taken = none) : l.filter (Blob.splits lmax) = [] :=
  List.filter_eq_nil_iff.2 fun b hb hSplits => by
    have hTaken := (Blob.splits_iff.1 hSplits).1.2
    rw [h b hb] at hTaken
    cases hTaken

/-! ## What the runs keep -/

/-- What every run of a line keeps: the table is in order, holds every entry that another one has moved to, and is within its
bound where it was. -/
structure Joined (s : State) (full : Prop) (j : Joining) : Prop where
  tracks : Tracks s j.st
  numbered : Numbered j.st.blobs.entries
  targets : ∀ m ∈ j.moved, ∀ k, m.2 = some k → k ∈ j.st.blobs.entries.map (·.num)
  bounded : full → j.st.blobs.entries.length ≤ 256

namespace Joined

variable {s : State} {full : Prop} {j : Joining}

theorem makeRoom (h : Joined s full j) (n : Nat) :
    Joined s full (j.makeRoom n) ∧ (full → (j.makeRoom n).st.blobs.entries.length < 256) := by
  rcases Nat.lt_or_ge j.st.blobs.entries.length 256 with hRoom | hFull
  · rw [Joining.makeRoom_free hRoom]
    exact ⟨h, fun _ => hRoom⟩
  rcases forceChoice_spec h.numbered with ⟨-, hEmpty⟩ | ⟨b, hb, hFirst, -⟩
  · rw [hEmpty] at hFull
    exact absurd hFull (by decide)
  rw [Joining.makeRoom_full hFull hFirst]
  obtain ⟨hTracks, hBlobs, -⟩ := State.closeForced_parts b j.st
  have hRaise : ∀ k x y, (j.st.closeForced b).raise k x y = _ := fun k x y => State.raise_frame
  have hKept : ((j.st.closeForced b).raise .blobForced n (b.num + 256 * mark (!b.carried))).blobs = j.st.blobs.without b := by
    rw [hRaise]
    exact hBlobs
  have hEntries : ((j.st.closeForced b).raise .blobForced n (b.num + 256 * mark (!b.carried))).blobs.entries =
      j.st.blobs.entries.filter (fun e => e.num ≠ b.num) := by
    rw [hKept, Blobs.without_entries]
  have hShorter : (j.st.blobs.entries.filter (fun e => e.num ≠ b.num)).length < j.st.blobs.entries.length := by
    refine List.length_filter_lt_length_iff_exists.2 ⟨b, hb, ?_⟩
    simp
  have hBound : full → (j.st.blobs.entries.filter (fun e => e.num ≠ b.num)).length < 256 := fun hf =>
    hShorter.trans_le (h.bounded hf)
  refine ⟨⟨?_, ?_, ?_, ?_⟩, ?_⟩
  · refine h.tracks.trans (hTracks.trans ⟨?_, ?_⟩)
    · rw [hRaise]
    · rw [hRaise]
  · dsimp only
    rw [hEntries]
    exact h.numbered.filter _
  · dsimp only
    rw [hEntries]
    intro m hm k hk
    obtain ⟨m', hm', rfl⟩ := List.mem_map.1 hm
    dsimp only at hk
    split at hk
    next => cases hk
    next hNe =>
      obtain ⟨e, he, rfl⟩ := List.mem_map.1 (h.targets m' hm' k hk)
      refine List.mem_map.2 ⟨e, List.mem_filter.2 ⟨he, decide_eq_true fun hEq => hNe ?_⟩, rfl⟩
      rw [hk, hEq]
  · dsimp only
    rw [hEntries]
    exact fun hf => (hBound hf).le
  · dsimp only
    rw [hEntries]
    exact hBound

theorem run (h : Joined s full j) (gc n : Nat) (before : List Blob) (r : Run) : Joined s full (j.run gc n before r) := by
  obtain ⟨hOrder, hTargets⟩ := joinTargets_spec gc r before j.moved
  cases hks : joinTargets gc r before j.moved with
  | nil =>
    obtain ⟨hRoom, hShort⟩ := h.makeRoom n
    rw [Joining.run_opens hks]
    have hPerm := Blobs.opening_entries (n := n) (r := r) hRoom.numbered
    refine ⟨hRoom.tracks.withBlobs rfl, putBlob_numbered hRoom.numbered, fun m hm k hk => ?_, fun hf => ?_⟩
    · exact (hPerm.map _).mem_iff.2 (List.mem_cons_of_mem _ (hRoom.targets m hm k hk))
    · exact hPerm.length_eq.le.trans (hShort hf)
  | cons k0 rest =>
    rw [Joining.run_joins hks]
    rw [hks] at hOrder hTargets
    have hFirst : k0 ∉ rest := fun hIn => lt_irrefl k0 ((List.pairwise_cons.1 hOrder).1 k0 hIn)
    have hHeld : k0 ∈ j.st.blobs.entries.map (·.num) := by
      obtain ⟨b, -, -, hTo⟩ := (hTargets k0).1 List.mem_cons_self
      obtain ⟨m, hFind, hm⟩ := Option.bind_eq_some_iff.1 hTo
      exact h.targets m (List.mem_of_find?_eq_some hFind) k0 hm
    have hRest : k0 ∈ (j.st.blobs.entries.filter (fun b => !rest.contains b.num)).map (·.num) := by
      obtain ⟨b, hb, rfl⟩ := List.mem_map.1 hHeld
      exact List.mem_map.2 ⟨b, List.mem_filter.2 ⟨hb, by simpa using hFirst⟩, rfl⟩
    have hNum : ((j.st.blobs.entries.filter (fun b => (k0 :: rest).contains b.num)).foldl (Blob.union k0)
        (Blob.ofRun k0 n r)).num = k0 := by
      obtain ⟨r0, r1, hFold⟩ := Blob.foldl_union (k := k0) (a := Blob.ofRun k0 n r) (p := (r.c0, r.c1))
        (j.st.blobs.entries.filter (fun b => (k0 :: rest).contains b.num)) rfl rfl rfl rfl
      exact congrArg Blob.num hFold
    have hNums : (j.st.blobs.joining n r k0 rest).entries.map (·.num) =
        (j.st.blobs.entries.filter (fun b => !rest.contains b.num)).map (·.num) :=
      putBlob_nums (h.numbered.filter _) (by rw [hNum]; exact hRest)
    refine ⟨h.tracks.withBlobs rfl, putBlob_numbered (h.numbered.filter _), fun m hm k hk => ?_, fun hf => ?_⟩
    · obtain ⟨m', hm', rfl⟩ := List.mem_map.1 hm
      obtain ⟨k', hk', rfl⟩ := Option.map_eq_some_iff.1 hk
      change _ ∈ (j.st.blobs.joining n r k0 rest).entries.map (·.num)
      rw [hNums]
      split
      next => exact hRest
      next hNot =>
        obtain ⟨b, hb, rfl⟩ := List.mem_map.1 (h.targets m' hm' k' hk')
        exact List.mem_map.2 ⟨b, List.mem_filter.2 ⟨hb, by simpa using hNot⟩, rfl⟩
    · have hLength := congrArg List.length hNums
      rw [List.length_map, List.length_map] at hLength
      exact hLength.le.trans ((List.length_filter_le _ _).trans (h.bounded hf))

theorem runs (gc n : Nat) (before : List Blob) (rs : List Run) (h : Joined s full j) :
    Joined s full (rs.foldl (Joining.run gc n before) j) := by
  induction rs generalizing j with
  | nil => exact h
  | cons r rs ih => exact ih (h.run gc n before r)

end Joined

theorem State.joinRuns_joined {s u : State} {full : Prop} (n : Nat) (runs : List Run) (h : Tracks u s)
    (hNumbered : Numbered s.blobs.entries) (hBound : full → s.blobs.entries.length ≤ 256) :
    Joined u full (s.joinRuns n runs) := by
  refine Joined.runs _ _ _ runs ⟨h, hNumbered, fun m hm k hk => ?_, hBound⟩
  obtain ⟨b, hb, rfl⟩ := List.mem_map.1 hm
  exact List.mem_map.2 ⟨b, hb, Option.some.inj hk⟩

/-! ## What the splits keep (R69) -/

theorem Blob.carry_num (b : Blob) : b.carry.num = b.num := Blob.endLine_num b

theorem State.splitBlob_tracks (b : Blob) (s : State) : Tracks s (s.splitBlob b) := by
  obtain ⟨hFrame, hBlobs⟩ := State.splitBlob_parts b s
  refine ⟨?_, ?_⟩
  · rw [hFrame, State.offerBlob_frame]
  · rw [hBlobs]

theorem State.splitBlobs_keep {bs : List Blob} {s : State} (h : Numbered s.blobs.entries)
    (hIn : ∀ b ∈ bs, b.num ∈ s.blobs.entries.map (·.num)) :
    Tracks s (bs.foldl State.splitBlob s) ∧ Numbered (bs.foldl State.splitBlob s).blobs.entries
    ∧ (bs.foldl State.splitBlob s).blobs.entries.map (·.num) = s.blobs.entries.map (·.num) := by
  induction bs generalizing s with
  | nil => exact ⟨Tracks.refl s, h, rfl⟩
  | cons b bs ih =>
    obtain ⟨hHead, hTail⟩ := List.forall_mem_cons.1 hIn
    have hEntries : (s.splitBlob b).blobs.entries = putBlob b.carry s.blobs.entries :=
      congrArg Blobs.entries (State.splitBlob_parts b s).2
    have hNums : (s.splitBlob b).blobs.entries.map (·.num) = s.blobs.entries.map (·.num) := by
      rw [hEntries]
      exact putBlob_nums h (by rw [Blob.carry_num]; exact hHead)
    obtain ⟨hTracks, hNumbered, hSame⟩ := ih (s := s.splitBlob b) (by rw [hEntries]; exact putBlob_numbered h)
      (by rw [hNums]; exact hTail)
    exact ⟨(State.splitBlob_tracks b s).trans hTracks, hNumbered, hSame.trans hNums⟩

theorem State.lineEnd_keeps {s : State} (h : Numbered s.blobs.entries) :
    Tracks s s.lineEnd ∧ Numbered s.lineEnd.blobs.entries ∧ (∀ b ∈ s.lineEnd.blobs.entries, b.taken = none)
    ∧ s.lineEnd.blobs.entries.length = s.blobs.entries.length := by
  have hIn : ∀ b ∈ s.blobs.splitting s.ing.detect.lmax, b.num ∈ s.blobs.entries.map (·.num) := fun b hb =>
    List.mem_map.2 ⟨b, (List.mem_filter.1 ((sortBy_perm _ _).mem_iff.1 hb)).1, rfl⟩
  obtain ⟨hTracks, hNumbered, hNums⟩ := State.splitBlobs_keep h hIn
  refine ⟨hTracks.withBlobs rfl, hNumbered.map_num fun b _ => Blob.endLine_num b, fun b hb => ?_, ?_⟩
  · obtain ⟨b', -, rfl⟩ := List.mem_map.1 hb
    exact Blob.endLine_taken b'
  · have hLength := congrArg List.length hNums
    rw [List.length_map, List.length_map] at hLength
    exact (List.length_map _).trans hLength

/-- At the end of a line on which no entry took a run, nothing changes. -/
theorem State.lineEnd_idle {s : State} (h : ∀ b ∈ s.blobs.entries, b.taken = none) : s.lineEnd = s := by
  have hNone : s.blobs.splitting s.ing.detect.lmax = [] := by
    unfold Blobs.splitting
    rw [filter_splits h]
    rfl
  unfold State.lineEnd
  rw [hNone]
  change s.withBlobs { s.blobs with entries := s.blobs.entries.map Blob.endLine } = s
  rw [map_endLine h]
  rfl

/-! ## A line as a whole -/

theorem State.gapClosed_ing (n : Nat) (s : State) : (s.gapClosed n).ing = s.ing := (Works.refl s).closeByGap.ing

theorem State.joinRuns_ing (n : Nat) (runs : List Run) (s : State) : (s.joinRuns n runs).st.ing = s.ing :=
  (Works.runs runs (j := s.joiningStart) (Works.refl s)).ing

theorem State.trackLine_eq (n : Nat) (runs : List Run) (s : State) :
    s.trackLine n runs = (((s.gapClosed n).joinRuns n runs).st).lineEnd := by
  have hDetect : (((s.gapClosed n).joinRuns n runs).st).ing.detect = s.ing.detect := by
    rw [State.joinRuns_ing, State.gapClosed_ing]
  unfold State.lineEnd
  rw [hDetect]
  unfold State.joinRuns
  rw [State.gapClosed_ing]
  rfl

/-- A line without runs only closes by gap. -/
theorem State.trackLine_nil {n : Nat} {s : State} (h : Numbered s.blobs.entries) (hTaken : ∀ b ∈ s.blobs.entries, b.taken = none) :
    s.trackLine n [] = s.gapClosed n := by
  rw [State.trackLine_eq]
  refine State.lineEnd_idle (s := s.gapClosed n) fun b hb => hTaken b ?_
  rw [State.gapClosed_blobs h] at hb
  exact (List.mem_filter.1 hb).1

theorem State.gapClosed_numbered {n : Nat} {s : State} (h : Numbered s.blobs.entries) :
    Numbered (s.gapClosed n).blobs.entries := by
  rw [State.gapClosed_blobs h]
  exact h.filter _

theorem State.trackLine_joined {n : Nat} {s : State} (runs : List Run) (h : Numbered s.blobs.entries) :
    Joined s (s.blobs.entries.length ≤ 256) ((s.gapClosed n).joinRuns n runs) := by
  refine State.joinRuns_joined n runs (State.gapClosed_tracks h) (State.gapClosed_numbered h) fun hLe => ?_
  rw [State.gapClosed_blobs h]
  exact (List.length_filter_le _ _).trans hLe

/-- What every line keeps of the table and of the rest of the part. -/
theorem State.trackLine_keeps {n : Nat} {s : State} (runs : List Run) (h : Numbered s.blobs.entries) :
    Tracks s (s.trackLine n runs) ∧ Numbered (s.trackLine n runs).blobs.entries
    ∧ (∀ b ∈ (s.trackLine n runs).blobs.entries, b.taken = none)
    ∧ (s.blobs.entries.length ≤ 256 → (s.trackLine n runs).blobs.entries.length ≤ 256) := by
  have hJoined := State.trackLine_joined (n := n) runs h
  obtain ⟨hTracks, hNumbered, hTaken, hLength⟩ := State.lineEnd_keeps hJoined.numbered
  rw [State.trackLine_eq]
  exact ⟨hJoined.tracks.trans hTracks, hNumbered, hTaken, fun hLe => hLength.le.trans (hJoined.bounded hLe)⟩

/-! ## The end of a line on which one entry took runs -/

/-- One entry took runs and stays. -/
theorem State.lineEnd_short {s : State} {x : Blob} {rest : List Blob} (hPerm : s.blobs.entries.Perm (x :: rest))
    (hRest : ∀ b ∈ rest, b.taken = none) (hShort : x.last - x.first + 1 < s.ing.detect.lmax) :
    s.lineEnd = s.withBlobs { s.blobs with entries := s.blobs.entries.map Blob.endLine }
    ∧ s.lineEnd.blobs.entries.Perm (x.endLine :: rest) := by
  have hNone : s.blobs.splitting s.ing.detect.lmax = [] := by
    unfold Blobs.splitting
    rw [List.filter_eq_nil_iff.2 fun b hb hSplits => ?_]
    · rfl
    · obtain ⟨⟨-, hTaken⟩, hLong⟩ := Blob.splits_iff.1 hSplits
      rcases List.mem_cons.1 (hPerm.mem_iff.1 hb) with rfl | hb
      · exact absurd hLong (not_le.2 hShort)
      · rw [hRest b ‹b ∈ rest›] at hTaken
        cases hTaken
  have hEnd : s.lineEnd = s.withBlobs { s.blobs with entries := s.blobs.entries.map Blob.endLine } := by
    unfold State.lineEnd
    rw [hNone]
    rfl
  refine ⟨hEnd, ?_⟩
  rw [hEnd]
  have hMap := hPerm.map Blob.endLine
  rwa [List.map_cons, map_endLine hRest] at hMap

/-- One entry took runs and is too long. -/
theorem State.lineEnd_long {s : State} {x : Blob} {rest : List Blob} (hNumbered : Numbered s.blobs.entries)
    (hPerm : s.blobs.entries.Perm (x :: rest)) (hRest : ∀ b ∈ rest, b.taken = none)
    (hSplits : x.splits s.ing.detect.lmax = true) :
    s.lineEnd = (s.splitBlob x).withBlobs
      { (s.splitBlob x).blobs with entries := (s.splitBlob x).blobs.entries.map Blob.endLine }
    ∧ s.lineEnd.blobs.entries.Perm (x.carry.endLine :: rest) := by
  have hFilter : s.blobs.entries.filter (Blob.splits s.ing.detect.lmax) = [x] := by
    refine List.perm_singleton.1 ((hPerm.filter _).trans ?_)
    rw [List.filter_cons_of_pos hSplits, filter_splits hRest]
  have hOne : s.blobs.splitting s.ing.detect.lmax = [x] := by
    unfold Blobs.splitting
    rw [hFilter]
    rfl
  have hEnd : s.lineEnd = (s.splitBlob x).withBlobs
      { (s.splitBlob x).blobs with entries := (s.splitBlob x).blobs.entries.map Blob.endLine } := by
    unfold State.lineEnd
    rw [hOne]
    rfl
  have hOthers : (s.blobs.entries.filter (fun e => e.num ≠ x.num)).Perm rest := by
    have hApart : ∀ b ∈ rest, b.num ≠ x.num := by
      have hNodup : (s.blobs.entries.map (·.num)).Nodup := hNumbered.nums.imp fun hab => hab.ne
      have hCons : ((x :: rest).map (·.num)).Nodup := (hPerm.map Blob.num).nodup_iff.1 hNodup
      exact fun b hb hEq => (List.nodup_cons.1 hCons).1 (List.mem_map.2 ⟨b, hb, hEq⟩)
    refine (hPerm.filter _).trans (List.Perm.of_eq ?_)
    rw [List.filter_cons_of_neg (by simp)]
    exact List.filter_eq_self.2 fun b hb => decide_eq_true (hApart b hb)
  refine ⟨hEnd, ?_⟩
  have hEntries : (s.splitBlob x).blobs.entries = putBlob x.carry s.blobs.entries :=
    congrArg Blobs.entries (State.splitBlob_parts x s).2
  have hSplit : (s.splitBlob x).blobs.entries.Perm (x.carry :: rest) := by
    rw [hEntries]
    have hPut := putBlob_perm x.carry s.blobs.entries
    rw [Blob.carry_num] at hPut
    exact hPut.trans (hOthers.cons _)
  rw [hEnd]
  have hMap := hSplit.map Blob.endLine
  rwa [List.map_cons, map_endLine hRest] at hMap

end Sys2Proof.Machine
end
section
/-! PROOFS. A closed blob, one run, and a line with one run (R63 to R70, R72 to R79): the tracker as O49 states it. -/

set_option Elab.async false

namespace Sys2Proof.Machine

/-! ## One run of a line, case by case -/

section
variable {gc n : Nat} {before : List Blob} {j : Joining} {r : Run}

theorem Joining.run_opens_free (h : joinTargets gc r before j.moved = []) (hRoom : j.st.blobs.entries.length < 256) :
    j.run gc n before r = { j with st := j.st.withBlobs (j.st.blobs.opening n r) } := by
  rw [Joining.run_opens h, Joining.makeRoom_free hRoom]

/-- The state in which a run of a full table opens its blob: one entry is force-closed and announced. -/
def State.roomMade (n : Nat) (b : Blob) (s : State) : State :=
  (s.closeForced b).raise .blobForced n (b.num + 256 * mark (!b.carried))

theorem State.roomMade_parts (n : Nat) (b : Blob) (s : State) :
    Tracks s (s.roomMade n b) ∧ (s.roomMade n b).blobs = s.blobs.without b
    ∧ (s.roomMade n b).ev.pending.getLsbD 9 = true
    ∧ (s.roomMade n b).map =
        if b.carried then s.map else (s.offerBlob { b with flags := { b.flags with forced := true } }).map := by
  obtain ⟨hTracks, hBlobs, hMap⟩ := State.closeForced_parts b s
  have hRaise : s.roomMade n b = _ := State.raise_frame
  refine ⟨hTracks.trans ⟨?_, ?_⟩, ?_, State.raise_sets .blobForced _ _ _, ?_⟩
  · rw [hRaise]
  · rw [hRaise]
  · rw [hRaise]
    exact hBlobs
  · rw [hRaise]
    exact hMap

theorem Joining.run_opens_full {b : Blob} (h : joinTargets gc r before j.moved = []) (hFull : 256 ≤ j.st.blobs.entries.length)
    (hNumbered : Numbered j.st.blobs.entries) (hb : b ∈ j.st.blobs.entries) (hFirst : ∀ x ∈ j.st.blobs.entries, b.forcedFirst x) :
    j.run gc n before r =
      { st := (j.st.roomMade n b).withBlobs ((j.st.blobs.without b).opening n r),
        moved := j.moved.map (fun m => (m.1, if m.2 = some b.num then none else m.2)) } := by
  have hRoom := Joining.makeRoom_full (n := n) hFull (forceChoice_eq hNumbered hb hFirst)
  have hBlobs : (j.makeRoom n).st.blobs = j.st.blobs.without b := by
    rw [hRoom]
    exact (State.roomMade_parts n b j.st).2.1
  rw [Joining.run_opens h, hBlobs, hRoom]
  rfl

/-- The entry opened in a table from which `b` was forced out. -/
theorem Blobs.without_opening {n : Nat} {r : Run} {b : Blob} {t : Blobs} (h : Numbered t.entries) :
    ∃ k, Lowest k (t.entries.filter (fun x => x.num ≠ b.num))
      ∧ ((t.without b).opening n r).entries.Perm (Blob.ofRun k n r :: t.entries.filter (fun x => x.num ≠ b.num)) := by
  have hEntries := Blobs.without_entries b t
  have hNumbered : Numbered (t.without b).entries := by
    rw [hEntries]
    exact h.filter _
  rw [← hEntries]
  exact ⟨_, lowestFree_lowest hNumbered, Blobs.opening_entries hNumbered⟩

end

/-! ## A line with one run -/

section
variable {n : Nat} {r : Run} {s : State}

/-- The entries that the one run of a line joins. -/
def State.runTargets (r : Run) (s : State) : List Nat :=
  joinTargets s.ing.detect.gc r s.blobs.entries s.joiningStart.moved

/-- A run's columns, widened, meet those of an entry's recent span. -/
def Run.meets (gc : Nat) (r : Run) (b : Blob) : Prop := r.c0 ≤ b.r1 + gc ∧ b.r0 ≤ r.c1 + gc

theorem State.runTargets_spec : (s.runTargets r).Pairwise (· < ·)
    ∧ ∀ k, k ∈ s.runTargets r ↔ ∃ b ∈ s.blobs.entries, r.meets s.ing.detect.gc b ∧ b.num = k := by
  obtain ⟨hOrder, hMem⟩ := joinTargets_spec s.ing.detect.gc r s.blobs.entries s.joiningStart.moved
  refine ⟨hOrder, fun k => (hMem k).trans ?_⟩
  constructor
  · rintro ⟨b, hb, hMeets, hTo⟩
    exact ⟨b, hb, hMeets, Option.some.inj ((Moved.to_start hb).symm.trans hTo)⟩
  · rintro ⟨b, hb, hMeets, rfl⟩
    exact ⟨b, hb, hMeets, Moved.to_start hb⟩

theorem State.runTargets_none (h : ∀ b ∈ s.blobs.entries, ¬ r.meets s.ing.detect.gc b) : s.runTargets r = [] :=
  List.eq_nil_iff_forall_not_mem.2 fun k hk => by
    obtain ⟨b, hb, hMeets, -⟩ := (State.runTargets_spec.2 k).1 hk
    exact h b hb hMeets

theorem State.runTargets_one {b : Blob} (hb : b ∈ s.blobs.entries) (hMeets : r.meets s.ing.detect.gc b)
    (hOnly : ∀ x ∈ s.blobs.entries, r.meets s.ing.detect.gc x → x = b) : s.runTargets r = [b.num] := by
  refine ascending_unique State.runTargets_spec.1 (List.pairwise_singleton _ _) fun k => ?_
  rw [State.runTargets_spec.2, List.mem_singleton]
  constructor
  · rintro ⟨x, hx, hxMeets, rfl⟩
    rw [hOnly x hx hxMeets]
  · rintro rfl
    exact ⟨b, hb, hMeets, rfl⟩

theorem State.runTargets_two {b e : Blob} (hb : b ∈ s.blobs.entries) (he : e ∈ s.blobs.entries) (hLess : b.num < e.num)
    (hbMeets : r.meets s.ing.detect.gc b) (heMeets : r.meets s.ing.detect.gc e)
    (hOnly : ∀ x ∈ s.blobs.entries, r.meets s.ing.detect.gc x → x = b ∨ x = e) : s.runTargets r = [b.num, e.num] := by
  refine ascending_unique State.runTargets_spec.1 (List.pairwise_pair.2 hLess) fun k => ?_
  rw [State.runTargets_spec.2, List.mem_pair]
  constructor
  · rintro ⟨x, hx, hxMeets, rfl⟩
    exact (hOnly x hx hxMeets).imp (congrArg Blob.num) (congrArg Blob.num)
  · rintro (rfl | rfl)
    · exact ⟨b, hb, hbMeets, rfl⟩
    · exact ⟨e, he, heMeets, rfl⟩

/-- A line with one run on which nothing closes by gap. -/
theorem State.trackLine_one (h : Numbered s.blobs.entries) (hStay : ∀ b ∈ s.blobs.entries, n ≤ b.last + s.ing.detect.lg) :
    ∃ x : Blobs, x.entries = s.blobs.entries ∧ x.params = s.blobs.params ∧ x.opened = s.blobs.opened
      ∧ x.merged = s.blobs.merged ∧ x.forcedClosures = s.blobs.forcedClosures ∧ x.splits = s.blobs.splits
      ∧ s.trackLine n [r] = ((Joining.run s.ing.detect.gc n s.blobs.entries (s.withBlobs x).joiningStart r).st).lineEnd
      ∧ (s.withBlobs x).runTargets r = s.runTargets r := by
  obtain ⟨hClosed, hEntries⟩ := State.gapClosed_none h hStay
  refine ⟨_, hEntries, rfl, rfl, rfl, rfl, rfl, ?_, ?_⟩
  · rw [State.trackLine_eq, hClosed]
    unfold State.joinRuns
    change (Joining.run s.ing.detect.gc n (s.blobs.closing s.ing.detect.lg n).entries _ r).st.lineEnd = _
    rw [hEntries]
  · unfold State.runTargets State.joiningStart
    change joinTargets s.ing.detect.gc r (s.blobs.closing s.ing.detect.lg n).entries
      ((s.blobs.closing s.ing.detect.lg n).entries.map (fun b => (b.num, some b.num))) = _
    rw [hEntries]

end

/-! ## The blobs of a line with one run -/

/-- An OPEN entry that a run joined, at the end of the line. -/
def Blob.grownBy (n : Nat) (r : Run) (b : Blob) : Blob :=
  { num := b.num, carried := false, first := min n b.first, last := max n b.last, c0 := min r.c0 b.c0,
    c1 := max r.c1 b.c1, dark := r.dark + b.dark, bright := r.bright + b.bright, peak := max r.peak b.peak,
    r0 := r.c0, r1 := r.c1, taken := none,
    flags := { forced := false, continued := b.flags.continued, seam := r.seam || b.flags.seam,
               overflow := r.overflow || b.flags.overflow } }

/-- Two OPEN entries that a run merged, at the end of the line. -/
def Blob.mergedBy (n : Nat) (r : Run) (b e : Blob) : Blob :=
  { num := b.num, carried := false, first := min (min n b.first) e.first, last := max (max n b.last) e.last,
    c0 := min (min r.c0 b.c0) e.c0, c1 := max (max r.c1 b.c1) e.c1, dark := r.dark + b.dark + e.dark,
    bright := r.bright + b.bright + e.bright, peak := max (max r.peak b.peak) e.peak, r0 := r.c0, r1 := r.c1,
    taken := none,
    flags := { forced := false, continued := b.flags.continued || e.flags.continued,
               seam := r.seam || b.flags.seam || e.flags.seam,
               overflow := r.overflow || b.flags.overflow || e.flags.overflow } }

section
variable {n r0 r1 : Nat} {r : Run} {b e : Blob}

/-- A blob that took the columns of one run on the line, before the end of the line. -/
def Blob.taking (x0 x1 r0 r1 : Nat) (b : Blob) : Blob := { b with r0 := r0, r1 := r1, taken := some (x0, x1) }

theorem Blob.taking_endLine (x0 x1 : Nat) : (b.taking x0 x1 r0 r1).endLine = { b with r0 := x0, r1 := x1, taken := none } := rfl

theorem Blob.absorbing_open (hOpen : b.carried = false) (hTaken : b.taken = none) :
    Blob.absorbing b.num r0 r1 (Blob.ofRun b.num n r) (r.c0, r.c1) [b] = (b.grownBy n r).taking r.c0 r.c1 r0 r1 := by
  simp [Blob.absorbing, Blob.ofRun, Blob.grownBy, Blob.taking, hOpen, hTaken]

theorem Blob.absorbing_carried (hCarried : b.carried = true) :
    Blob.absorbing b.num r0 r1 (Blob.ofRun b.num n r) (r.c0, r.c1) [b] = Blob.taking r.c0 r.c1 r0 r1 { Blob.ofRun b.num n r with
      flags := { forced := false, continued := b.flags.continued, seam := r.seam || b.flags.seam,
                 overflow := r.overflow || b.flags.overflow } } := by
  simp [Blob.absorbing, Blob.ofRun, Blob.taking, hCarried]

theorem Blob.absorbing_two (hb : b.carried = false) (he : e.carried = false) (hbTaken : b.taken = none)
    (heTaken : e.taken = none) :
    Blob.absorbing b.num r0 r1 (Blob.ofRun b.num n r) (r.c0, r.c1) [b, e] = (b.mergedBy n r e).taking r.c0 r.c1 r0 r1 := by
  simp [Blob.absorbing, Blob.ofRun, Blob.mergedBy, Blob.taking, hb, he, hbTaken, heTaken, Nat.add_assoc, Bool.or_assoc]

end

end Sys2Proof.Machine
end
section
/-! PROOFS. A closed blob becomes a flaw; the open blob table at a line (R63 to R70, R72 to R79; O49). -/

set_option Elab.async false

namespace Sys2Proof.Machine

/-! ## A line with one run that joins no entry -/

section
variable {n : Nat} {r : Run} {s : State}

/-- The blob that a run of line `n` opened in entry `k`, at the end of the line. -/
def Blob.openedBy (k n : Nat) (r : Run) : Blob :=
  { num := k, carried := false, first := n, last := n, c0 := r.c0, c1 := r.c1, dark := r.dark, bright := r.bright,
    peak := r.peak, r0 := r.c0, r1 := r.c1, taken := none,
    flags := { forced := false, continued := false, seam := r.seam, overflow := r.overflow } }

theorem Blob.openedBy_span (k : Nat) : (Blob.openedBy k n r).last - (Blob.openedBy k n r).first = 0 := Nat.sub_self n

/-- A line with one run that does not split: the entry that took the run is in its place, the others are as they were. -/
theorem State.lineEnd_taking {t : State} {x : Blob} {rest : List Blob} {r0 r1 : Nat}
    (hPerm : t.blobs.entries.Perm (x.taking r.c0 r.c1 r0 r1 :: rest)) (hSpan : x.r0 = r.c0 ∧ x.r1 = r.c1 ∧ x.taken = none)
    (hRest : ∀ b ∈ rest, b.taken = none) (hShort : x.last - x.first + 1 < t.ing.detect.lmax) :
    t.lineEnd = t.withBlobs { t.blobs with entries := t.blobs.entries.map Blob.endLine }
    ∧ t.lineEnd.blobs.entries.Perm (x :: rest) := by
  obtain ⟨hEnd, hEntries⟩ := State.lineEnd_short hPerm hRest hShort
  obtain ⟨hLeft, hRight, hTaken⟩ := hSpan
  have hSame : ({ x with r0 := x.r0, r1 := x.r1, taken := x.taken } : Blob) = x := rfl
  rw [Blob.taking_endLine, ← hLeft, ← hRight, ← hTaken, hSame] at hEntries
  exact ⟨hEnd, hEntries⟩

theorem State.trackLine_opens (h : Numbered s.blobs.entries) (hTaken : ∀ b ∈ s.blobs.entries, b.taken = none)
    (hStay : ∀ b ∈ s.blobs.entries, n ≤ b.last + s.ing.detect.lg)
    (hNone : ∀ b ∈ s.blobs.entries, ¬ r.meets s.ing.detect.gc b) (hMax : 1 < s.ing.detect.lmax)
    (hRoom : s.blobs.entries.length < 256) :
    (s.trackLine n [r]).blobs.opened = inc32 s.blobs.opened ∧ (s.trackLine n [r]).map = s.map
    ∧ ∃ k, Lowest k s.blobs.entries ∧ (s.trackLine n [r]).blobs.entries.Perm (Blob.openedBy k n r :: s.blobs.entries) := by
  obtain ⟨x, hEntries, -, hOpened, -, -, -, hLine, hTargets⟩ := State.trackLine_one (r := r) h hStay
  have hks : joinTargets s.ing.detect.gc r s.blobs.entries (s.withBlobs x).joiningStart.moved = [] := by
    rw [← hEntries]
    exact hTargets.trans (State.runTargets_none hNone)
  have hRun := Joining.run_opens_free (n := n) hks (by rw [State.joiningStart, State.withBlobs, hEntries]; exact hRoom)
  have hNumbered : Numbered x.entries := hEntries ▸ h
  have hPerm := Blobs.opening_entries (n := n) (r := r) hNumbered
  obtain ⟨hEnd, hAfter⟩ := State.lineEnd_taking (t := s.withBlobs (x.opening n r)) (r0 := r.c0) (r1 := r.c1)
    (x := Blob.openedBy (lowestFree 0 x.entries) n r) hPerm ⟨rfl, rfl, rfl⟩ (hEntries ▸ hTaken)
    (by rw [Blob.openedBy_span]; exact hMax)
  have hAll : s.trackLine n [r] = (s.withBlobs (x.opening n r)).lineEnd := by
    rw [hLine, hRun]
    rfl
  rw [hAll]
  refine ⟨?_, ?_, lowestFree 0 x.entries, hEntries ▸ lowestFree_lowest hNumbered, ?_⟩
  · rw [hEnd]
    exact congrArg inc32 hOpened
  · rw [hEnd]
    rfl
  · rw [hEntries] at hAfter ⊢
    exact hAfter

theorem State.trackLine_forces {b : Blob} (h : Numbered s.blobs.entries) (hTaken : ∀ b ∈ s.blobs.entries, b.taken = none)
    (hStay : ∀ b ∈ s.blobs.entries, n ≤ b.last + s.ing.detect.lg)
    (hNone : ∀ b ∈ s.blobs.entries, ¬ r.meets s.ing.detect.gc b) (hMax : 1 < s.ing.detect.lmax)
    (hFull : s.blobs.entries.length = 256) (hb : b ∈ s.blobs.entries) (hFirst : ∀ x ∈ s.blobs.entries, b.forcedFirst x) :
    let t := s.trackLine n [r]
    let rest := s.blobs.entries.filter (fun x => x.num ≠ b.num)
    t.blobs.opened = inc32 s.blobs.opened ∧ t.blobs.forcedClosures = inc32 s.blobs.forcedClosures
    ∧ t.ev.pending.getLsbD 9 = true
    ∧ t.map = (if b.carried then s.map else (s.offerBlob { b with flags := { b.flags with forced := true } }).map)
    ∧ ∃ k, Lowest k rest ∧ t.blobs.entries.Perm (Blob.openedBy k n r :: rest) := by
  intro t rest
  obtain ⟨x, hEntries, hParams, hOpened, -, hForced, -, hLine, hTargets⟩ := State.trackLine_one (r := r) h hStay
  have hks : joinTargets s.ing.detect.gc r s.blobs.entries (s.withBlobs x).joiningStart.moved = [] := by
    rw [← hEntries]
    exact hTargets.trans (State.runTargets_none hNone)
  have hNumbered : Numbered x.entries := hEntries ▸ h
  have hRun := Joining.run_opens_full (n := n) (b := b) hks (by rw [State.joiningStart, State.withBlobs, hEntries, hFull])
    hNumbered (by rw [State.joiningStart, State.withBlobs, hEntries]; exact hb)
    (by rw [State.joiningStart, State.withBlobs, hEntries]; exact hFirst)
  obtain ⟨k, hLowest, hPerm⟩ := Blobs.without_opening (n := n) (r := r) (b := b) hNumbered
  obtain ⟨hTracks, -, hEvent, hMap⟩ := State.roomMade_parts n b (s.withBlobs x)
  let u := ((s.withBlobs x).roomMade n b).withBlobs ((x.without b).opening n r)
  have hIng : u.ing = s.ing := by
    change ((s.withBlobs x).roomMade n b).ing = s.ing
    rw [hTracks.frame]
    rfl
  rw [hEntries] at hLowest hPerm
  obtain ⟨hEnd, hAfter⟩ := State.lineEnd_taking (t := u) (r0 := r.c0) (r1 := r.c1) (x := Blob.openedBy k n r) hPerm
    ⟨rfl, rfl, rfl⟩ (fun e he => hTaken e (List.mem_filter.1 he).1) (by rw [Blob.openedBy_span, hIng]; exact hMax)
  have hAll : t = u.lineEnd := hLine.trans (congrArg (fun j : Joining => j.st.lineEnd) hRun)
  rw [hAll]
  refine ⟨?_, ?_, ?_, ?_, k, hLowest, hAfter⟩
  · rw [hEnd]
    exact congrArg inc32 hOpened
  · rw [hEnd]
    exact congrArg inc32 hForced
  · rw [hEnd]
    exact hEvent
  · rw [hEnd]
    refine hMap.trans ?_
    rw [State.offerBlob_withBlobs x s _ hParams]
    rfl

/-! ## A line with one run that joins entries -/

theorem State.trackLine_joins {k0 : Nat} {ks : List Nat} (h : Numbered s.blobs.entries)
    (hStay : ∀ b ∈ s.blobs.entries, n ≤ b.last + s.ing.detect.lg) (hks : s.runTargets r = k0 :: ks) :
    ∃ (y : Blobs) (r0 r1 : Nat), s.trackLine n [r] = (s.withBlobs y).lineEnd ∧ y.params = s.blobs.params
      ∧ y.opened = s.blobs.opened ∧ y.merged = satAdd Config.max32 s.blobs.merged ks.length ∧ y.splits = s.blobs.splits
      ∧ Numbered y.entries ∧ y.entries.Perm
        (Blob.absorbing k0 r0 r1 (Blob.ofRun k0 n r) (r.c0, r.c1) (s.blobs.entries.filter (fun b => b.num ∈ k0 :: ks))
          :: s.blobs.entries.filter (fun b => b.num ∉ k0 :: ks)) := by
  obtain ⟨x, hEntries, hParams, hOpened, hMerged, -, hSplits, hLine, hTargets⟩ := State.trackLine_one (r := r) h hStay
  have hJoins : joinTargets s.ing.detect.gc r s.blobs.entries (s.withBlobs x).joiningStart.moved = k0 :: ks := by
    rw [← hEntries]
    exact hTargets.trans hks
  have hOrder : (k0 :: ks).Pairwise (· < ·) := hks ▸ (State.runTargets_spec (s := s) (r := r)).1
  obtain ⟨r0, r1, hPerm⟩ := Blobs.joining_entries (n := n) (r := r) (t := x) hOrder
  have hNumbered : Numbered x.entries := hEntries ▸ h
  refine ⟨x.joining n r k0 ks, r0, r1, hLine.trans (congrArg (fun j : Joining => j.st.lineEnd) (Joining.run_joins hJoins)),
    hParams, hOpened, ?_, hSplits, putBlob_numbered (hNumbered.filter _), ?_⟩
  · exact congrArg (satAdd Config.max32 · ks.length) hMerged
  · rw [hEntries] at hPerm
    exact hPerm

/-- The run joins one entry. -/
theorem State.trackLine_joins_one {b : Blob} (h : Numbered s.blobs.entries)
    (hStay : ∀ b ∈ s.blobs.entries, n ≤ b.last + s.ing.detect.lg) (hb : b ∈ s.blobs.entries)
    (hMeets : r.meets s.ing.detect.gc b) (hOnly : ∀ x ∈ s.blobs.entries, r.meets s.ing.detect.gc x → x = b) :
    ∃ (y : Blobs) (r0 r1 : Nat), s.trackLine n [r] = (s.withBlobs y).lineEnd ∧ y.params = s.blobs.params
      ∧ y.opened = s.blobs.opened ∧ y.splits = s.blobs.splits ∧ Numbered y.entries ∧ y.entries.Perm
        (Blob.absorbing b.num r0 r1 (Blob.ofRun b.num n r) (r.c0, r.c1) [b]
          :: s.blobs.entries.filter (fun x => x.num ≠ b.num)) := by
  obtain ⟨y, r0, r1, hLine, hParams, hOpened, -, hSplits, hNumbered, hPerm⟩ :=
    State.trackLine_joins h hStay (State.runTargets_one hb hMeets hOnly)
  have hParts : s.blobs.entries.filter (fun x => x.num ∈ [b.num]) = [b] := by
    refine (h.filter _).unique (List.pairwise_singleton _ _) fun x => ?_
    rw [List.mem_filter, decide_eq_true_eq, List.mem_singleton, List.mem_singleton]
    constructor
    · rintro ⟨hx, hNum⟩
      exact h.eq_of_num hx hb hNum
    · rintro rfl
      exact ⟨hb, rfl⟩
  have hRest : s.blobs.entries.filter (fun x => x.num ∉ [b.num]) = s.blobs.entries.filter (fun x => x.num ≠ b.num) :=
    List.filter_congr fun x _ => by simp
  rw [hParts, hRest] at hPerm
  exact ⟨y, r0, r1, hLine, hParams, hOpened, hSplits, hNumbered, hPerm⟩

/-- The run joins two entries, which merge. -/
theorem State.trackLine_merges {b e : Blob} (h : Numbered s.blobs.entries) (hTaken : ∀ b ∈ s.blobs.entries, b.taken = none)
    (hStay : ∀ b ∈ s.blobs.entries, n ≤ b.last + s.ing.detect.lg) (hb : b ∈ s.blobs.entries) (he : e ∈ s.blobs.entries)
    (hLess : b.num < e.num) (hbMeets : r.meets s.ing.detect.gc b) (heMeets : r.meets s.ing.detect.gc e)
    (hOnly : ∀ x ∈ s.blobs.entries, r.meets s.ing.detect.gc x → x = b ∨ x = e) (hbOpen : b.carried = false)
    (heOpen : e.carried = false) (hShort : (b.mergedBy n r e).last - (b.mergedBy n r e).first + 1 < s.ing.detect.lmax) :
    let t := s.trackLine n [r]
    t.blobs.merged = satAdd Config.max32 s.blobs.merged 1 ∧ t.blobs.opened = s.blobs.opened ∧ t.map = s.map
    ∧ t.blobs.entries.Perm (b.mergedBy n r e :: s.blobs.entries.filter (fun x => x.num ≠ b.num && x.num ≠ e.num)) := by
  intro t
  obtain ⟨y, r0, r1, hLine, -, hOpened, hMerged, -, -, hPerm⟩ :=
    State.trackLine_joins h hStay (State.runTargets_two hb he hLess hbMeets heMeets hOnly)
  have hParts : s.blobs.entries.filter (fun x => x.num ∈ [b.num, e.num]) = [b, e] := by
    refine (h.filter _).unique (List.pairwise_pair.2 hLess) fun x => ?_
    rw [List.mem_filter, decide_eq_true_eq, List.mem_pair, List.mem_pair]
    constructor
    · rintro ⟨hx, hNum⟩
      exact hNum.imp (h.eq_of_num hx hb) (h.eq_of_num hx he)
    · rintro (rfl | rfl)
      · exact ⟨hb, .inl rfl⟩
      · exact ⟨he, .inr rfl⟩
  have hRest : s.blobs.entries.filter (fun x => x.num ∉ [b.num, e.num]) =
      s.blobs.entries.filter (fun x => x.num ≠ b.num && x.num ≠ e.num) :=
    List.filter_congr fun x _ => by simp
  rw [hParts, hRest, Blob.absorbing_two hbOpen heOpen (hTaken b hb) (hTaken e he)] at hPerm
  obtain ⟨hEnd, hAfter⟩ := State.lineEnd_taking (t := s.withBlobs y) hPerm ⟨rfl, rfl, rfl⟩
    (fun x hx => hTaken x (List.mem_filter.1 hx).1) hShort
  have hAll : t = (s.withBlobs y).lineEnd := hLine
  rw [hAll]
  refine ⟨?_, ?_, ?_, hAfter⟩
  · rw [hEnd]
    exact hMerged
  · rw [hEnd]
    exact hOpened
  · rw [hEnd]
    rfl

/-- The run joins one entry, which stays or splits. -/
theorem State.trackLine_joins_cases {b : Blob} (h : Numbered s.blobs.entries)
    (hTaken : ∀ b ∈ s.blobs.entries, b.taken = none)
    (hStay : ∀ b ∈ s.blobs.entries, n ≤ b.last + s.ing.detect.lg) (hb : b ∈ s.blobs.entries)
    (hMeets : r.meets s.ing.detect.gc b) (hOnly : ∀ x ∈ s.blobs.entries, r.meets s.ing.detect.gc x → x = b) :
    let t := s.trackLine n [r]
    let rest := s.blobs.entries.filter (fun x => x.num ≠ b.num)
    ∀ x : Blob, (∀ r0 r1, Blob.absorbing b.num r0 r1 (Blob.ofRun b.num n r) (r.c0, r.c1) [b] = x.taking r.c0 r.c1 r0 r1) →
      x.r0 = r.c0 ∧ x.r1 = r.c1 ∧ x.taken = none → x.carried = false →
      t.blobs.opened = s.blobs.opened
      ∧ (x.last - x.first + 1 < s.ing.detect.lmax → t.blobs.entries.Perm (x :: rest) ∧ t.map = s.map)
      ∧ (s.ing.detect.lmax ≤ x.last - x.first + 1 → t.blobs.splits = inc32 s.blobs.splits
          ∧ t.map = (s.offerBlob { x with flags := { x.flags with continued := true } }).map
          ∧ t.blobs.entries.Perm (x.rest r.c0 r.c1 :: rest)) := by
  intro t rest x hx hSpan hOpen
  obtain ⟨y, r0, r1, hLine, hParams, hOpened, hSplits, hNumbered, hPerm⟩ := State.trackLine_joins_one h hStay hb hMeets hOnly
  have hAll : t = (s.withBlobs y).lineEnd := hLine
  rw [hx r0 r1] at hPerm
  have hRest : ∀ e ∈ rest, e.taken = none := fun e he => hTaken e (List.mem_filter.1 he).1
  rw [hAll]
  rcases Nat.lt_or_ge (x.last - x.first + 1) s.ing.detect.lmax with hShort | hLong
  · obtain ⟨hEnd, hAfter⟩ := State.lineEnd_taking (t := s.withBlobs y) hPerm hSpan hRest hShort
    refine ⟨?_, fun _ => ⟨hAfter, ?_⟩, fun hLong => absurd hLong (not_le.2 hShort)⟩
    · rw [hEnd]
      exact hOpened
    · rw [hEnd]
      rfl
  · have hSplit : (x.taking r.c0 r.c1 r0 r1).splits s.ing.detect.lmax = true := Blob.splits_iff.2 ⟨⟨hOpen, rfl⟩, hLong⟩
    obtain ⟨hEnd, hAfter⟩ := State.lineEnd_long (s := s.withBlobs y) hNumbered hPerm hRest hSplit
    obtain ⟨hFrame, hBlobs⟩ := State.splitBlob_parts (x.taking r.c0 r.c1 r0 r1) (s.withBlobs y)
    refine ⟨?_, fun hShort => absurd hLong (not_le.2 hShort), fun _ => ⟨?_, ?_, ?_⟩⟩
    · rw [hEnd]
      change ((s.withBlobs y).splitBlob (x.taking r.c0 r.c1 r0 r1)).blobs.opened = _
      rw [hBlobs]
      exact hOpened
    · rw [hEnd]
      change ((s.withBlobs y).splitBlob (x.taking r.c0 r.c1 r0 r1)).blobs.splits = _
      rw [hBlobs]
      exact congrArg inc32 hSplits
    · rw [hEnd]
      change ((s.withBlobs y).splitBlob (x.taking r.c0 r.c1 r0 r1)).map = _
      rw [hFrame, State.offerBlob_withBlobs y s _ hParams]
      rfl
    · rw [Blob.carry_eq (x := r.c0) (y := r.c1) rfl] at hAfter
      exact hAfter

end

end Sys2Proof.Machine
end
section
/-! PROOFS. A closed blob becomes a flaw, and the open blob table (R63 to R70, R72 to R79): O49. -/

set_option Elab.async false

namespace Sys2Proof.Machine

/-! ## The clauses of O49 -/

section
variable {b : Blob} {s : State}

/-- Where a closed blob's flaw goes (R76, R77). -/
theorem State.offerBlob_placed (h : ∀ f ∈ s.map.flaws, f.num ≠ s.map.nextFlaw) :
    let retired : Prop := s.map.retire = .all ∨ ∃ n, s.map.retire = .line n ∧ b.last + 1 ≤ n
    let t := s.offerBlob b
    let f := (s.numbered.placeFlaw (s.flawOf b)).2
    (retired → t.map.flaws = s.map.flaws ∧ f.notMapped = false
        ∧ t.map.retiredAtCreation = inc32 s.map.retiredAtCreation)
    ∧ (¬ retired → s.map.flaws.length < 4096 → f.notMapped = false ∧ t.map.mapped = inc32 s.map.mapped
        ∧ (∀ g, g ∈ t.map.flaws ↔ g = f ∨ g ∈ s.map.flaws) ∧ t.map.flaws.length = s.map.flaws.length + 1)
    ∧ (¬ retired → 4096 ≤ s.map.flaws.length → f.notMapped = true ∧ t.map.flaws = s.map.flaws
        ∧ t.map.notMapped = inc32 s.map.notMapped ∧ t.map.full = true) := by
  intro retired t f
  obtain ⟨-, -, -, -, -, -, -, hMap⟩ := State.offerBlob_parts b s h
  have hRetired : s.map.retire.retires ((s.flawOf b).last + 1) = true ↔ retired := Retire.retires_iff _ _
  have hFlaws : t.map.flaws = (s.numbered.placeFlaw (s.flawOf b)).1.map.flaws := (congrArg (·.flaws) hMap :)
  have hMapped : t.map.mapped = (s.numbered.placeFlaw (s.flawOf b)).1.map.mapped := (congrArg (·.mapped) hMap :)
  refine ⟨fun hIs => ?_, fun hNot hRoom => ?_, fun hNot hFull => ?_⟩
  · have hPlaced := State.placeFlaw_retired (s := s.numbered) (f := s.flawOf b) (hRetired.2 hIs)
    have hCount := (congrArg (·.retiredAtCreation) hMap :)
    rw [hPlaced] at hFlaws hCount
    refine ⟨hFlaws, ?_, hCount⟩
    change (s.numbered.placeFlaw (s.flawOf b)).2.notMapped = false
    rw [hPlaced]
    rfl
  · have hPlaced := State.placeFlaw_mapped (s := s.numbered) (f := s.flawOf b) (fun hIs => hNot (hRetired.1 hIs)) hRoom
    have hOwn : f = s.flawOf b := congrArg Prod.snd hPlaced
    rw [hPlaced] at hFlaws hMapped
    have hPerm := insertSorted_perm Flaw.before (s.flawOf b) s.map.flaws
    rw [hOwn, hFlaws]
    exact ⟨rfl, hMapped, fun g => hPerm.mem_iff.trans List.mem_cons, hPerm.length_eq⟩
  · have hPlaced := State.placeFlaw_full (s := s.numbered) (f := s.flawOf b) (fun hIs => hNot (hRetired.1 hIs)) hFull
    obtain ⟨-, hSame, hCounted, hMark⟩ := State.refuseFlaw_parts { s.flawOf b with notMapped := true } s.numbered
    have hCount := (congrArg (·.notMapped) hMap :)
    have hFullMark := (congrArg (·.full) hMap :)
    rw [hPlaced] at hFlaws hCount hFullMark
    refine ⟨?_, hFlaws.trans hSame, hCount.trans hCounted, hFullMark.trans hMark⟩
    change (s.numbered.placeFlaw (s.flawOf b)).2.notMapped = true
    rw [hPlaced]

/-- Whether a span lies within the gap of the flaw's lines (R75). -/
theorem State.flawOf_nearSpan : (s.flawOf b).nearSpan = true ↔
    ∃ x ∈ s.map.spans, x.start ≤ b.last + s.ing.detect.lg ∧ b.first - s.ing.detect.lg < x.stop := by
  refine spanQuery_some.trans ?_
  simp only [Nat.lt_succ_iff]

end

/-- The splits of a line of several runs, in order (R69). -/
theorem State.trackLine_splits {n : Nat} {s : State} (runs : List Run) (h : Numbered s.blobs.entries)
    (hTaken : ∀ b ∈ s.blobs.entries, b.taken = none) :
    let c := s.trackLine n []
    let j := runs.foldl (Joining.run s.ing.detect.gc n c.blobs.entries)
      { st := c, moved := c.blobs.entries.map (fun b => (b.num, some b.num)) }
    ∃ splitting : List Blob,
      splitting.Perm (j.st.blobs.entries.filter
        (fun b => !b.carried && b.taken.isSome && decide (s.ing.detect.lmax ≤ b.last - b.first + 1)))
      ∧ splitting.Pairwise Blob.earlier
      ∧ s.trackLine n runs = (splitting.foldl State.splitBlob j.st).withBlobs
          { (splitting.foldl State.splitBlob j.st).blobs with
            entries := (splitting.foldl State.splitBlob j.st).blobs.entries.map Blob.endLine } := by
  intro c j
  have hClosed : c = s.gapClosed n := State.trackLine_nil h hTaken
  have hJoin : j = (s.gapClosed n).joinRuns n runs := by
    unfold State.joinRuns
    rw [State.gapClosed_ing, ← hClosed]
    rfl
  have hJoined := State.trackLine_joined (n := n) runs h
  have hDetect : j.st.ing.detect.lmax = s.ing.detect.lmax := by rw [hJoin, State.joinRuns_ing, State.gapClosed_ing]
  rw [← hJoin] at hJoined
  refine ⟨j.st.blobs.splitting s.ing.detect.lmax, sortBy_perm _ _, sortBy_before (hJoined.numbered.filter _), ?_⟩
  rw [State.trackLine_eq, ← hJoin, State.lineEnd, hDetect]

/-- What one run does to the table (R65 to R68). -/
theorem Joining.run_parts (gc n : Nat) (before : List Blob) (j : Joining) (r : Run) (h : Numbered j.st.blobs.entries) :
    let ks := joinTargets gc r before j.moved
    let table := j.st.blobs.entries
    let old := j.st.blobs
    let out := Joining.run gc n before j r
    let t := out.st
    (ks = [] → table.length < 256 →
      t = { j.st with blobs := t.blobs } ∧ out.moved = j.moved ∧ t.blobs.opened = inc32 old.opened
      ∧ t.blobs.merged = old.merged ∧ ∃ k, Lowest k table ∧ t.blobs.entries.Perm (Blob.ofRun k n r :: table))
    ∧ (ks = [] → 256 ≤ table.length → ∀ b ∈ table, (∀ x ∈ table, b.forcedFirst x) →
        t.blobs.opened = inc32 old.opened ∧ t.blobs.forcedClosures = inc32 old.forcedClosures
        ∧ t.ev.pending.getLsbD 9 = true
        ∧ t.map = (if b.carried then j.st.map else (j.st.offerBlob { b with flags := { b.flags with forced := true } }).map)
        ∧ out.moved = j.moved.map (fun m => (m.1, if m.2 = some b.num then none else m.2))
        ∧ ∃ k, Lowest k (table.filter (fun x => x.num ≠ b.num))
            ∧ t.blobs.entries.Perm (Blob.ofRun k n r :: table.filter (fun x => x.num ≠ b.num)))
    ∧ ∀ (k0 : Nat) (rest : List Nat), ks = k0 :: rest →
        t = { j.st with blobs := t.blobs }
        ∧ out.moved = j.moved.map (fun m => (m.1, m.2.map (fun k => if k ∈ rest then k0 else k)))
        ∧ t.blobs.opened = old.opened ∧ t.blobs.merged = satAdd Config.max32 old.merged rest.length
        ∧ ∃ r0 r1, t.blobs.entries.Perm
            (Blob.absorbing k0 r0 r1 (Blob.ofRun k0 n r) (r.c0, r.c1) (table.filter (fun b => b.num ∈ ks))
              :: table.filter (fun b => b.num ∉ ks)) := by
  intro ks table old out t
  refine ⟨fun hks hRoom => ?_, fun hks hFull b hb hFirst => ?_, fun k0 rest hks => ?_⟩
  · have hOut : out = _ := Joining.run_opens_free (n := n) hks hRoom
    have hState : t = j.st.withBlobs (old.opening n r) := (congrArg (·.st) hOut :)
    refine ⟨?_, (congrArg (·.moved) hOut :), ?_, ?_, _, lowestFree_lowest h, ?_⟩
    · rw [hState]
      rfl
    · rw [hState]
      rfl
    · rw [hState]
      rfl
    · rw [hState]
      exact Blobs.opening_entries h
  · have hOut : out = _ := Joining.run_opens_full (n := n) hks hFull h hb hFirst
    have hState : t = (j.st.roomMade n b).withBlobs ((old.without b).opening n r) := (congrArg (·.st) hOut :)
    obtain ⟨-, -, hEvent, hMap⟩ := State.roomMade_parts n b j.st
    obtain ⟨k, hLowest, hPerm⟩ := Blobs.without_opening (n := n) (r := r) (b := b) h
    rw [hState]
    exact ⟨rfl, rfl, hEvent, hMap, (congrArg (·.moved) hOut :), k, hLowest, hPerm⟩
  · have hOut : out = _ := Joining.run_joins (n := n) hks
    have hState : t = j.st.withBlobs (old.joining n r k0 rest) := (congrArg (·.st) hOut :)
    have hOrder : (k0 :: rest).Pairwise (· < ·) := hks ▸ (joinTargets_spec gc r before j.moved).1
    refine ⟨?_, (congrArg (·.moved) hOut :), ?_, ?_, ?_⟩
    · rw [hState]
      rfl
    · rw [hState]
      rfl
    · rw [hState]
      rfl
    · rw [hState, hks]
      exact Blobs.joining_entries hOrder

/-- Settles O49. -/
theorem closedBlobBecomesFlaw : Obligations.ClosedBlobBecomesFlaw := by
  unfold Obligations.ClosedBlobBecomesFlaw
  refine ⟨?_, ?_, ?_, ?_, ?_, fun t => ⟨t.oldestOpen_none, t.oldestOpen_some⟩⟩
  · intro b s h
    obtain ⟨hFlaw, hNum, hNext, hCount, hUnset, hRoom, hFull, -⟩ := State.offerBlob_parts b s h
    obtain ⟨hRetired, hMapped, hRefused⟩ := State.offerBlob_placed (b := b) h
    have hFrame := State.offerBlob_frame b s
    have hNear : (s.numbered.placeFlaw (s.flawOf b)).2.nearSpan = (s.flawOf b).nearSpan := (congrArg (·.nearSpan) hFlaw :)
    exact ⟨(s.numbered.placeFlaw (s.flawOf b)).2, hNum, (congrArg (·.first) hFlaw :), (congrArg (·.last) hFlaw :),
      (congrArg (·.c0) hFlaw :), (congrArg (·.c1) hFlaw :), (congrArg (·.widthUm) hFlaw :), (congrArg (·.lengthUm) hFlaw :),
      (congrArg (·.dark) hFlaw :), (congrArg (·.bright) hFlaw :), (congrArg (·.peak) hFlaw :), (congrArg (·.flags) hFlaw :),
      (congrArg (·.day) hFlaw :), (congrArg (·.tod) hFlaw :), (congrArg (·.cls) hFlaw :), (congrArg (·.bin) hFlaw :),
      by rw [hNear]; exact State.flawOf_nearSpan, hNext, hCount, hRetired, hMapped, hRefused, hUnset, hRoom, hFull,
      (congrArg (·.pos) hFrame :), (congrArg (·.path) hFrame :), (congrArg (·.ing) hFrame :), (congrArg (·.blobs) hFrame :),
      (congrArg (·.plan) hFrame :), (congrArg (·.cp) hFrame :)⟩
  · intro n runs s table d t order joins opened grown merged lowest length h hTaken
    obtain ⟨hTracks, hNumbered, hClear, hBound⟩ := State.trackLine_keeps (n := n) runs h
    have hFrame := hTracks.frame
    refine ⟨hNumbered, hClear, hBound, (congrArg (·.pos) hFrame :), (congrArg (·.path) hFrame :), (congrArg (·.ing) hFrame :),
      (congrArg (·.plan) hFrame :), (congrArg (·.cp) hFrame :), fun hRuns => ?_, fun r hRuns hStay => ?_⟩
    · have hLine : t = _ := (congrArg (fun rs => s.trackLine n rs) hRuns).trans
        ((State.trackLine_nil h hTaken).trans (State.gapClosed_eq h))
      rw [hLine]
      exact ⟨rfl, rfl, rfl, _, sortBy_perm _ _, sortBy_before (h.filter _), rfl, rfl, rfl⟩
    · have hLine : t = s.trackLine n [r] := congrArg (fun rs => s.trackLine n rs) hRuns
      rw [hLine]
      refine ⟨fun hNone hMax => ⟨State.trackLine_opens h hTaken hStay hNone hMax, fun hFull b hb hFirst =>
        State.trackLine_forces h hTaken hStay hNone hMax hFull hb hFirst⟩, fun b hb hJoins hOnly => ?_, ?_⟩
      · have hCases := State.trackLine_joins_cases h hTaken hStay hb hJoins hOnly
        have hOpen := fun hIs : b.carried = false => hCases (b.grownBy n r)
          (fun r0 r1 => Blob.absorbing_open hIs (hTaken b hb)) ⟨rfl, rfl, rfl⟩ rfl
        have hCarried := fun hIs : b.carried = true => hCases { Blob.openedBy b.num n r with
            flags := { forced := false, continued := b.flags.continued, seam := r.seam || b.flags.seam,
                       overflow := r.overflow || b.flags.overflow } }
          (fun r0 r1 => Blob.absorbing_carried hIs) ⟨rfl, rfl, rfl⟩ rfl
        refine ⟨?_, fun hIs => (hOpen hIs).2.1, fun hIs hFlags hMax => ?_, fun hIs => (hOpen hIs).2.2⟩
        · cases hIs : b.carried with
          | false => exact (hOpen hIs).1
          | true => exact (hCarried hIs).1
        · have hShort := (hCarried hIs).2.1 (by
            change n - n + 1 < _
            rw [Nat.sub_self]
            exact hMax)
          rw [hFlags, Bool.or_false, Bool.or_false] at hShort
          exact hShort
      · intro b hb e he hLess hbJoins heJoins hOnly hbOpen heOpen hShort
        exact State.trackLine_merges h hTaken hStay hb he hLess hbJoins heJoins hOnly hbOpen heOpen hShort
  · intro n runs s d c before j h hTaken
    exact State.trackLine_splits runs h hTaken
  · intro b x y s hTaken
    obtain ⟨hFrame, hBlobs⟩ := State.splitBlob_parts b s
    refine ⟨hFrame, congrArg Blobs.splits hBlobs, ?_⟩
    have hPut := putBlob_perm b.carry s.blobs.entries
    rw [Blob.carry_num, Blob.carry_eq hTaken] at hPut
    rw [hBlobs, Blob.carry_eq hTaken]
    exact hPut
  · intro gc n before j r joins goes ks table old out t opened lowest
    obtain ⟨hOrder, hTargets⟩ := joinTargets_spec gc r before j.moved
    refine ⟨hOrder, hTargets, fun h => ?_⟩
    obtain ⟨hRoom, hFull, hJoins⟩ := Joining.run_parts gc n before j r h
    refine ⟨hRoom, hFull, fun k0 rest hks => ?_⟩
    obtain ⟨hFrame, hMoved, hOpened, hMerged, r0, r1, hPerm⟩ := hJoins k0 rest hks
    exact ⟨hFrame, hMoved, hOpened, hMerged, _, hPerm, rfl, rfl, rfl, rfl, rfl, rfl, rfl, rfl, rfl, rfl, rfl⟩

end Sys2Proof.Machine
end
section
/-! PROOFS. The LIVE pages (R195): which block of a page holds a byte, and what a byte reads that no block holds. -/

set_option Elab.async false

namespace Sys2Proof.Machine

/-! ## Bytes that no field touches -/

/-- No field of a list touches the bytes [lo, hi). -/
def Clear (lo hi : Nat) (fs : List Field) : Prop := ∀ f ∈ fs, f.off + f.size ≤ lo ∨ hi ≤ f.off

namespace Clear

variable {lo hi : Nat} {fs gs : List Field}

theorem nil (lo hi : Nat) : Clear lo hi [] := nofun

theorem append (hf : Clear lo hi fs) (hg : Clear lo hi gs) : Clear lo hi (fs ++ gs) := fun f h =>
  (List.mem_append.1 h).elim (hf f) (hg f)

theorem cons {f : Field} (hf : f.off + f.size ≤ lo ∨ hi ≤ f.off) (hg : Clear lo hi gs) : Clear lo hi (f :: gs) :=
  List.forall_mem_cons.2 ⟨hf, hg⟩

theorem mono {lo' hi' : Nat} (h : Clear lo hi fs) (hl : lo ≤ lo') (hh : hi' ≤ hi) : Clear lo' hi' fs := fun f hf =>
  (h f hf).imp (fun k => k.trans hl) (fun k => hh.trans k)

end Clear

theorem Fits.clear_after {a b lo hi : Nat} {fs : List Field} (h : Fits a b fs) (hb : b ≤ lo) : Clear lo hi fs := fun f hf =>
  .inl ((h.1 f hf).2.trans hb)

theorem Fits.clear_before {a b lo hi : Nat} {fs : List Field} (h : Fits a b fs) (ha : hi ≤ a) : Clear lo hi fs := fun f hf =>
  .inr (ha.trans (h.1 f hf).1)

theorem Clear.byteAt {lo hi len o : Nat} {fs : List Field} (h : Clear lo hi fs) (hlo : lo ≤ o) (hhi : o < hi) (hl : o < len) :
    Sys2Proof.Machine.byteAt (layout len fs) o = 0 := by
  refine byteAt_layout_gap hl fun f hf hc => ?_
  have hOut := h f hf
  simp only [Field.covers, Bool.and_eq_true, decide_eq_true_eq] at hc
  omega

theorem Clear.reads0 {o n len : Nat} {fs : List Field} (h : Clear o (o + n) fs) (hl : o + n ≤ len) :
    Sys2Proof.Machine.reads0 (layout len fs) o n := fun i hi => h.byteAt (by omega) (by omega) (by omega)

theorem Clear.field {o n len : Nat} {fs : List Field} (h : Clear o (o + n) fs) (hl : o + n ≤ len) :
    Sys2Proof.Machine.field (layout len fs) o n = 0 := by
  have hBytes : ((layout len fs).drop o).take n = (List.range n).map (fun i => BitVec.ofNat 8 (0 / 256 ^ i)) := by
    unfold layout
    rw [layoutFrom_part fs hl, layoutFrom]
    refine List.map_congr_left fun i hi => ?_
    have hNone : fs.find? (Field.covers (0 + o + i)) = none := List.find?_eq_none.2 fun f hf hc => by
      have hOut := h f hf
      have hIn := List.mem_range.1 hi
      simp only [Field.covers, Bool.and_eq_true, decide_eq_true_eq] at hc
      omega
    rw [layoutByte_eq, hNone, Nat.zero_div]
    rfl
  rw [Sys2Proof.Machine.field, hBytes, leNat_bytes, Nat.zero_mod]

/-! ## Tables of blocks at equal steps -/

section
variable {α : Type} {l : List α} {f : α → List Field} {pos : α → Nat} {off step n : Nat}

/-- The blocks of a table lie one after the other. -/
theorem fits_blocks (hEach : ∀ a ∈ l, Fits (off + step * pos a) (off + step * pos a + step) (f a))
    (hOrder : l.Pairwise (fun a b => pos a < pos b)) (hLast : ∀ a ∈ l, pos a < n) :
    Fits off (off + step * n) (l.flatMap f) := by
  have hStep : ∀ i j, i < j → off + step * i + step ≤ off + step * j := fun i j hij => by
    have hMul := Nat.mul_le_mul_left step (Nat.succ_le_of_lt hij)
    rw [Nat.mul_succ] at hMul
    omega
  refine ⟨fun g hg => ?_, List.pairwise_flatMap.2 ⟨fun a ha => (hEach a ha).2, hOrder.imp_of_mem fun ha hb hab x hx y hy => ?_⟩⟩
  · obtain ⟨a, ha, hg⟩ := List.mem_flatMap.1 hg
    obtain ⟨hLo, hHi⟩ := (hEach a ha).1 g hg
    exact ⟨(Nat.le_add_right _ _).trans hLo, hHi.trans (hStep _ _ (hLast a ha))⟩
  · exact ((hEach _ ha).1 x hx).2.trans ((hStep _ _ hab).trans ((hEach _ hb).1 y hy).1)

/-- Bytes within one place of a table are clear where the block of that place leaves them clear. -/
theorem clear_blocks {i lo hi : Nat} (hEach : ∀ a ∈ l, Fits (off + step * pos a) (off + step * pos a + step) (f a))
    (hOwn : ∀ a ∈ l, pos a = i → Clear lo hi (f a)) (hlo : off + step * i ≤ lo) (hhi : hi ≤ off + step * i + step) :
    Clear lo hi (l.flatMap f) := by
  intro g hg
  obtain ⟨a, ha, hg⟩ := List.mem_flatMap.1 hg
  rcases Nat.lt_trichotomy (pos a) i with hLess | hEq | hMore
  · have hMul := Nat.mul_le_mul_left step (Nat.succ_le_of_lt hLess)
    have hIn := (hEach a ha).1 g hg
    rw [Nat.mul_succ] at hMul
    omega
  · exact hOwn a ha hEq g hg
  · have hMul := Nat.mul_le_mul_left step (Nat.succ_le_of_lt hMore)
    have hIn := (hEach a ha).1 g hg
    rw [Nat.mul_succ] at hMul
    omega

end

section
variable {α : Type} {f : Nat → α → List Field} {l : List α} {off step : Nat}

/-- Every entry of a table of equal steps lies within its place. -/
def Stepped {α : Type} (step : Nat) (f : Nat → α → List Field) : Prop := ∀ o a, Fits o (o + step) (f o a)

theorem fits_spread (h : Stepped step f) (off : Nat) (l : List α) : Fits off (off + step * l.length) (spread off step f l) := by
  refine fits_blocks (pos := fun p : α × Nat => p.2) (fun p _ => h _ _) ?_ fun p hp => (List.mem_zipIdx' hp).1
  refine List.pairwise_iff_getElem.2 fun i j hi hj hij => ?_
  rw [List.getElem_zipIdx, List.getElem_zipIdx]
  exact Nat.add_lt_add_left hij 0

theorem mem_spread {i : Nat} {a : α} {g : Field} (ha : l[i]? = some a) (hg : g ∈ f (off + step * i) a) :
    g ∈ spread off step f l :=
  List.mem_flatMap.2 ⟨(a, i), List.mem_zipIdx_iff_getElem?.2 ha, hg⟩

theorem clear_spread {i lo hi : Nat} (h : Stepped step f) (hOwn : ∀ a, l[i]? = some a → Clear lo hi (f (off + step * i) a))
    (hlo : off + step * i ≤ lo) (hhi : hi ≤ off + step * i + step) : Clear lo hi (spread off step f l) := by
  refine clear_blocks (pos := fun p : α × Nat => p.2) (fun p _ => h _ _) (fun p hp hi => ?_) hlo hhi
  subst hi
  exact hOwn p.1 (List.mem_zipIdx_iff_getElem?.1 hp)

theorem mem_spread_vector {n : Nat} {v : Vector α n} {i : Fin n} {g : Field} (hg : g ∈ f (off + step * i.val) v[i]) :
    g ∈ spread off step f v.toList := mem_spread (by simp) hg

/-- The place of an entry that a table does not have is clear. -/
theorem clear_spread_none {i : Nat} (h : Stepped step f) (hNone : l[i]? = none) :
    Clear (off + step * i) (off + step * i + step) (spread off step f l) :=
  clear_spread h (fun a ha => by rw [hNone] at ha; cases ha) le_rfl le_rfl

end

section
variable {n : Nat} {f : Fin n → List Field} {off step : Nat}

theorem fits_finRange (h : ∀ i, Fits (off + step * i.val) (off + step * i.val + step) (f i)) :
    Fits off (off + step * n) ((List.finRange n).flatMap f) :=
  fits_blocks (pos := Fin.val) (fun i _ => h i) (List.pairwise_lt_finRange n) fun i _ => i.isLt

theorem mem_finRange_flatMap {i : Fin n} {g : Field} (hg : g ∈ f i) : g ∈ (List.finRange n).flatMap f :=
  List.mem_flatMap.2 ⟨i, List.mem_finRange i, hg⟩

theorem clear_finRange {i : Fin n} {lo hi : Nat} (h : ∀ i, Fits (off + step * i.val) (off + step * i.val + step) (f i))
    (hOwn : Clear lo hi (f i)) (hlo : off + step * i.val ≤ lo) (hhi : hi ≤ off + step * i.val + step) :
    Clear lo hi ((List.finRange n).flatMap f) :=
  clear_blocks (pos := Fin.val) (fun i _ => h i) (fun _ _ hj => Fin.ext hj ▸ hOwn) hlo hhi

end

theorem mem_counts {off i x : Nat} {v : List Nat} (h : v[i]? = some x) : ⟨off + 4 * i, 4, x⟩ ∈ countFields off v :=
  List.mem_map.2 ⟨(x, i), List.mem_zipIdx_iff_getElem?.2 h, rfl⟩

/-- The place of a count that a table does not have is clear. -/
theorem clear_counts_none {off i : Nat} {v : List Nat} (h : v[i]? = none) : Clear (off + 4 * i) (off + 4 * i + 4) (countFields off v) :=
  (fits_countFields off v).clear_after (Nat.add_le_add_left (Nat.mul_le_mul_left 4 (List.getElem?_eq_none_iff.1 h)) off)

theorem take_getElem?_of_lt {α : Type} {l : List α} {i k : Nat} (h : i < k) : (l.take k)[i]? = l[i]? := by
  rw [List.getElem?_take, if_pos h]

/-! ## The pages as layouts -/

/-- What a whole page shows. -/
def State.pageBytes (k : Nat) (s : State) : List Byte := layout 4096 (s.page k)

theorem State.snapshot_page (k : Nat) (s : State) : s.snapshot (4096 * k) 4096 = s.pageBytes k := by
  unfold State.snapshot State.pageBytes layout
  have hDiv : 4096 * k / Config.pageSize = k := Nat.mul_div_cancel_left k (by decide)
  have hMod : 4096 * k % Config.pageSize = 0 := Nat.mul_mod_right 4096 k
  rw [hDiv, hMod]

/-- A part of a page reads as in the whole page. -/
theorem State.snapshot_part {off len : Nat} (s : State) (h : off % 4096 + len ≤ 4096) :
    s.snapshot off len = ((s.snapshot (4096 * (off / 4096)) 4096).drop (off % 4096)).take len := by
  rw [State.snapshot_page, State.pageBytes, layout, layoutFrom_part _ h, Nat.zero_add]
  rfl

/-- Beyond the pages every byte reads 0. -/
theorem State.snapshot_beyond {off : Nat} (len : Nat) (s : State) (h : 0x8000 ≤ off) : s.snapshot off len = List.replicate len 0 := by
  have hPage : ∃ k, off / Config.pageSize = k + 8 := ⟨off / 4096 - 8, by
    have hDiv : 8 ≤ off / 4096 := (Nat.le_div_iff_mul_le (by decide)).2 h
    exact (Nat.sub_add_cancel hDiv).symm⟩
  obtain ⟨k, hk⟩ := hPage
  unfold State.snapshot
  rw [hk]
  have hEmpty : s.page (k + 8) = [] := rfl
  rw [hEmpty]
  refine List.eq_replicate_iff.2 ⟨layoutFrom_length _ _ _, fun b hb => ?_⟩
  obtain ⟨i, -, rfl⟩ := List.mem_map.1 hb
  rfl

section
variable {k lo hi : Nat} {s : State}

/-- A field of a page reads back. -/
theorem State.pageRead {off size val : Nat} (h : Fits lo hi (s.page k)) (hEnd : hi ≤ 4096) (hf : ⟨off, size, val⟩ ∈ s.page k) :
    field (s.snapshot (4096 * k) 4096) off size = val % 256 ^ size := by
  rw [State.snapshot_page]
  exact h.field hf ((h.1 _ hf).2.trans hEnd)

/-- Clear bytes of a page read 0. -/
theorem State.pageReads0 {o n : Nat} (h : Clear o (o + n) (s.page k)) (hEnd : o + n ≤ 4096) :
    reads0 (s.snapshot (4096 * k) 4096) o n := by
  rw [State.snapshot_page]
  exact h.reads0 hEnd

theorem State.pageField0 {o n : Nat} (h : Clear o (o + n) (s.page k)) (hEnd : o + n ≤ 4096) :
    field (s.snapshot (4096 * k) 4096) o n = 0 := by
  rw [State.snapshot_page]
  exact h.field hEnd

end

/-! ## Arrivals and classification (R21, R22) -/

section
variable {p : Path} {a : Addr} {len : Nat}

theorem Path.classify_crossing (h : 4096 < a.toNat % 4096 + len) : (p.classify a len).crossing = true := by
  have hCross : crossesPage a len = true := decide_eq_true h
  unfold Path.classify
  dsimp only
  rw [if_pos hCross]

theorem Path.classify_none (h : a.toNat % 4096 + len ≤ 4096) (hNone : p.govern a = none) : p.classify a len =
    { crossing := false, kind := .pass, camera := 0, translated := false, down := a, offset := 0 } := by
  have hCross : ¬ crossesPage a len = true := fun hc => absurd (of_decide_eq_true hc) (not_lt.2 h)
  unfold Path.classify
  dsimp only
  rw [if_neg hCross, hNone]

theorem Path.classify_some {e : WinEntry} (h : a.toNat % 4096 + len ≤ 4096) (hSome : p.govern a = some e) : p.classify a len =
    { crossing := false, kind := e.kind, camera := e.camera, translated := e.moves,
      down := if e.moves then e.translated a else a, offset := (a &&& ~~~e.mask).toNat } := by
  have hCross : ¬ crossesPage a len = true := fun hc => absurd (of_decide_eq_true hc) (not_lt.2 h)
  unfold Path.classify
  dsimp only
  rw [if_neg hCross, hSome]

theorem Path.classify_crossing_iff : (p.classify a len).crossing = true ↔ 4096 < a.toNat % 4096 + len := by
  refine ⟨fun h => not_le.1 fun hIn => ?_, Path.classify_crossing⟩
  cases hGovern : p.govern a with
  | none =>
    rw [Path.classify_none hIn hGovern] at h
    cases h
  | some e =>
    rw [Path.classify_some hIn hGovern] at h
    cases h

theorem WinEntry.hits_iff {e : WinEntry} : e.hits a = true ↔ e.enable = true ∧ a &&& e.mask = e.base := by
  unfold WinEntry.hits
  rw [Bool.and_eq_true, beq_iff_eq]

theorem Path.govern_none (h : ∀ i : Fin 16, ¬ (p.window[i].enable = true ∧ a &&& p.window[i].mask = p.window[i].base)) :
    p.govern a = none := by
  refine List.find?_eq_none.2 fun e he hHits => ?_
  obtain ⟨i, hi, rfl⟩ := Vector.mem_iff_getElem.1 (Vector.mem_toList_iff.1 he)
  exact h ⟨i, hi⟩ (WinEntry.hits_iff.1 hHits)

theorem Path.govern_some {i : Fin 16} (hIs : p.window[i].enable = true ∧ a &&& p.window[i].mask = p.window[i].base)
    (hFirst : ∀ j : Fin 16, j < i → ¬ (p.window[j].enable = true ∧ a &&& p.window[j].mask = p.window[j].base)) :
    p.govern a = some p.window[i] := by
  refine List.find?_eq_some_iff_getElem.2 ⟨WinEntry.hits_iff.2 hIs, i.val, by simp, by simp, fun j hj => ?_⟩
  have hj16 : j < 16 := hj.trans i.isLt
  rw [Bool.not_eq_true', Bool.eq_false_iff]
  intro hHits
  rw [Vector.getElem_toList] at hHits
  exact hFirst ⟨j, hj16⟩ hj (WinEntry.hits_iff.1 hHits)

theorem WinEntry.moves_iff {e : WinEntry} : e.moves = true ↔ e.translate = true ∧ e.kind ≠ .live := by
  unfold WinEntry.moves
  rw [Bool.and_eq_true, bne_iff_ne]

end

end Sys2Proof.Machine
end
section
/-! PROOFS. LIVE pages 0, 1 and 7 (R195). -/

set_option Elab.async false

namespace Sys2Proof.Machine

/-! ## Codes fit a byte -/

theorem Binding.code_lt (x : Binding) : x.code < 256 := by cases x <;> decide
theorem Stage.code_lt (x : Stage) : x.code < 256 := by cases x <;> decide
theorem ResultCode.code_lt (x : ResultCode) : x.code < 256 := by cases x <;> decide
theorem WinKind.code_lt (x : WinKind) : x.code < 256 := by cases x <;> decide
theorem TermFn.code_lt (x : TermFn) : x.code < 256 := by cases x <;> decide
theorem FLevel.code_lt (x : FLevel) : x.code < 256 := by cases x <;> decide
theorem RingState.code_lt (x : RingState) : x.code < 256 := by cases x <;> decide

theorem mark_lt (b : Bool) : mark b < 256 := (mark_le b).trans_lt (by decide)

/-! ## Page 0 -/

theorem WinEntry.stepped : Stepped 32 WinEntry.fields := fun o e => .of_check (by
  simp only [WinEntry.fields, fitsCheck, Bool.and_eq_true, decide_eq_true_eq]
  omega)

theorem State.page0_fits (s : State) : Fits 0 0x300 (s.page 0) := by
  change Fits 0 0x300 (_ ++ holdFields s.path.hold ++ countFields 0x020 s.path.counters.list
    ++ spread 0x100 32 WinEntry.fields s.path.window.toList)
  refine Fits.append (mid := 0x100) (Fits.append (mid := 0x20) (Fits.append (mid := 0x10) (.of_check rfl) ?_
    (by decide) (by decide)) ((fits_countFields 0x20 s.path.counters.list).widen le_rfl (show 0x20 + 4 * 14 ≤ 0x100 by decide))
    (by decide) (by decide)) ?_
    (by decide) (by decide)
  · cases s.path.hold with
    | none => exact .of_check rfl
    | some h => exact .of_check rfl
  · have hFits := fits_spread WinEntry.stepped 0x100 s.path.window.toList
    rwa [Vector.length_toList] at hFits

/-- Where no write is held, the hold slot's bytes are clear. -/
theorem State.page0_noHold {s : State} (h : s.path.hold = none) : Clear 0x10 0x20 (s.page 0) := by
  change Clear 0x10 0x20 (_ ++ holdFields s.path.hold ++ countFields 0x020 s.path.counters.list
    ++ spread 0x100 32 WinEntry.fields s.path.window.toList)
  rw [h]
  refine ((Clear.append ?_ (.nil _ _)).append ((fits_countFields 0x20 _).clear_before le_rfl)).append
    ((fits_spread WinEntry.stepped 0x100 _).clear_before (by decide))
  exact (Fits.of_check (lo := 0) (hi := 0x10) rfl).clear_after le_rfl

/-- Every entry of the window shows on page 0. -/
theorem State.page0_window (s : State) (i : Fin 16) {g : Field} (h : g ∈ WinEntry.fields (0x100 + 32 * i.val) s.path.window[i]) :
    g ∈ s.page 0 := List.mem_append_right _ (mem_spread_vector h)

/-! ## Page 1 -/

theorem State.termFields_stepped (s : State) : Stepped 4 s.termFields := fun o t => .of_check (by
  simp only [State.termFields, fitsCheck, Bool.and_eq_true, decide_eq_true_eq]
  omega)

theorem State.page1_fits (s : State) : Fits 0 0x58 (s.page 1) := by
  change Fits 0 0x58 (_ ++ spread 0x040 4 s.termFields s.pos.terms.toList)
  refine Fits.append (mid := 0x40) (.of_check rfl) ?_ (by decide) (by decide)
  have hFits := fits_spread s.termFields_stepped 0x40 s.pos.terms.toList
  rwa [Vector.length_toList] at hFits

theorem State.page1_terminal (s : State) (i : Fin 6) {g : Field} (h : g ∈ s.termFields (0x040 + 4 * i.val) s.pos.terms[i]) :
    g ∈ s.page 1 := List.mem_append_right _ (mem_spread_vector h)

/-! ## Page 7 -/

theorem State.ringFields_fits (s : State) (r : Fin 4) :
    Fits (0x100 + 0x40 * r.val) (0x100 + 0x40 * r.val + 0x40) (s.ringFields r) := .of_check (by
  simp only [State.ringFields, fitsCheck, Bool.and_eq_true, decide_eq_true_eq]
  omega)

/-- One byte for each of `n` places. -/
theorem fits_bytes {n off : Nat} (f : Fin n → Nat) : Fits off (off + n) ((List.finRange n).map (fun i => ⟨off + i.val, 1, f i⟩)) := by
  have hFits := fits_finRange (off := off) (step := 1) (f := fun i : Fin n => [⟨off + i.val, 1, f i⟩]) fun i =>
    .of_check (by simp [fitsCheck])
  rw [Nat.one_mul] at hFits
  rwa [List.map_eq_flatMap]

theorem State.page7_fits (s : State) : Fits 0 0x200 (s.page 7) := by
  change Fits 0 0x200 (_ ++ _ ++ _ ++ (List.finRange 4).flatMap s.ringFields)
  refine Fits.append (mid := 0x100) (Fits.append (mid := 0x24) (Fits.append (mid := 0x20) ?_ (fits_bytes _)
    (by decide) (by decide)) (.of_check rfl) (by decide) (by decide)) (fits_finRange s.ringFields_fits) (by decide) (by decide)
  have hFits := fits_bytes (off := 0) s.ev.kindByte
  simp only [Nat.zero_add] at hFits
  exact hFits

/-- The byte of an event kind. -/
theorem Events.kindByte_eq (e : Events) (k : Fin 32) : e.kindByte k = mark (e.pending.getLsbD k)
    + 2 * (mark (e.enable.getLsbD k) + 2 * (mark (e.log.getLsbD k) + 2 * (0 + 2 * e.routes[k].val))) := by
  unfold Events.kindByte
  omega

theorem Events.kindByte_parts (e : Events) (k : Fin 32) : e.kindByte k < 256 ∧ e.kindByte k / 16 = e.routes[k].val := by
  have h0 := mark_le (e.pending.getLsbD k)
  have h1 := mark_le (e.enable.getLsbD k)
  have h2 := mark_le (e.log.getLsbD k)
  have h3 := e.routes[k].isLt
  unfold Events.kindByte
  omega

/-- The byte of the interrupt lines. -/
theorem Events.lineByte_eq (e : Events) : e.lineByte = mark (e.level 0) + 2 * (mark (e.level 1) + 2 * (mark (e.level 2)
    + 2 * (mark (e.level 3) + 2 * (mark e.gaps[0].isSome + 2 * (mark e.gaps[1].isSome + 2 * (mark e.gaps[2].isSome
    + 2 * mark e.gaps[3].isSome)))))) := by
  have hRange : List.finRange 4 = [0, 1, 2, 3] := by decide
  unfold Events.lineByte
  rw [hRange]
  simp only [List.map_cons, List.map_nil, List.sum_cons, List.sum_nil]
  change 2 ^ 0 * (mark (e.level 0) + 16 * mark e.gaps[0].isSome) + (2 ^ 1 * (mark (e.level 1) + 16 * mark e.gaps[1].isSome)
    + (2 ^ 2 * (mark (e.level 2) + 16 * mark e.gaps[2].isSome)
      + (2 ^ 3 * (mark (e.level 3) + 16 * mark e.gaps[3].isSome) + 0))) = _
  omega

theorem Events.lineByte_lt (e : Events) : e.lineByte < 256 := by
  rw [Events.lineByte_eq]
  have h0 := mark_le (e.level 0)
  have h1 := mark_le (e.level 1)
  have h2 := mark_le (e.level 2)
  have h3 := mark_le (e.level 3)
  have h4 := mark_le e.gaps[0].isSome
  have h5 := mark_le e.gaps[1].isSome
  have h6 := mark_le e.gaps[2].isSome
  have h7 := mark_le e.gaps[3].isSome
  omega

theorem Events.lineByte_bits (e : Events) (i : Fin 4) :
    e.lineByte.testBit i = e.level i ∧ e.lineByte.testBit (4 + i) = e.gaps[i].isSome := by
  rw [Events.lineByte_eq]
  match i with
  | 0 => exact ⟨testBit_mark_zero _ _, by
      change Nat.testBit _ 4 = _
      simp only [testBit_mark_zero, testBit_mark_succ]
      rfl⟩
  | 1 => exact ⟨by
      change Nat.testBit _ 1 = _
      simp only [testBit_mark_zero, testBit_mark_succ], by
      change Nat.testBit _ 5 = _
      simp only [testBit_mark_zero, testBit_mark_succ]
      rfl⟩
  | 2 => exact ⟨by
      change Nat.testBit _ 2 = _
      simp only [testBit_mark_zero, testBit_mark_succ], by
      change Nat.testBit _ 6 = _
      simp only [testBit_mark_zero, testBit_mark_succ]
      rfl⟩
  | 3 => exact ⟨by
      change Nat.testBit _ 3 = _
      simp only [testBit_mark_zero, testBit_mark_succ], by
      change Nat.testBit _ 7 = _
      simp only [testBit_mark, testBit_mark_succ]
      rfl⟩

theorem State.showsPage7_all (s : State) : s.showsPage7 := by
  have hRead {off size val : Nat} (h : ⟨off, size, val⟩ ∈ s.page 7) :
      field (s.snapshot 0x7000 4096) off size = val % 256 ^ size := State.pageRead (k := 7) s.page7_fits (by decide) h
  unfold State.showsPage7
  intro u e
  refine ⟨fun k => ?_, fun i => ?_, hRead (by simp [State.page, State.page7, e]), hRead (by simp [State.page, State.page7, e]),
    hRead (by simp [State.page, State.page7]), fun r => ?_⟩
  · obtain ⟨hLt, hRoute⟩ := e.kindByte_parts k
    have hByte : byteAt u k = e.kindByte k := (hRead (size := 1) (List.mem_append_left _ (List.mem_append_left _
      (List.mem_append_left _ (List.mem_map.2 ⟨k, List.mem_finRange k, rfl⟩))))).trans (Nat.mod_eq_of_lt hLt)
    rw [hByte, hRoute, Events.kindByte_eq]
    simp only [testBit_mark_zero, testBit_mark_succ, and_self]
  · have hPulsed : byteAt u (0x020 + i) = mark e.pulsed[i] := (hRead (size := 1) (List.mem_append_left _ (List.mem_append_left _
      (List.mem_append_right _ (List.mem_map.2 ⟨i, List.mem_finRange i, rfl⟩))))).trans (Nat.mod_eq_of_lt (mark_lt _))
    have hLines : byteAt u 0x024 = e.lineByte := (hRead (size := 1) (List.mem_append_left _
      (List.mem_append_right _ List.mem_cons_self))).trans (Nat.mod_eq_of_lt e.lineByte_lt)
    rw [hLines]
    exact ⟨hPulsed, e.lineByte_bits i⟩
  · intro g o
    have hRing {off size val : Nat} (h : ⟨off, size, val⟩ ∈ s.ringFields r) : field u off size = val % 256 ^ size :=
      hRead (List.mem_append_right _ (mem_finRange_flatMap h))
    have ho : o = 0x100 + r.val * 0x40 := congrArg (0x100 + ·) (Nat.mul_comm 0x40 r.val)
    clear_value o
    subst ho
    have hState : byteAt u (0x100 + r.val * 0x40) = g.state.code :=
      (hRing (size := 1) List.mem_cons_self).trans (Nat.mod_eq_of_lt g.state.code_lt)
    have hStaged : byteAt u (0x100 + r.val * 0x40 + 1) = s.occupancy r % 2 ^ 8 := hRing (size := 1) (.tail _ List.mem_cons_self)
    refine ⟨hState, fun hNot => ?_, fun hReport => ?_, (hRing ?_).trans (Nat.mod_eq_of_lt g.issue.isLt),
      (hRing ?_).trans (Nat.mod_eq_of_lt g.published.isLt), (hRing ?_).trans (Nat.mod_eq_of_lt g.written.isLt),
      (hRing ?_).trans (Nat.mod_eq_of_lt g.consumer.isLt), hRing ?_, hRing ?_, hRing ?_, hRing ?_⟩
    · rw [hStaged, State.occupancy, if_neg hNot]
    · rw [hStaged, State.occupancy, if_pos hReport]
      cases s.tally.slot with
      | empty => rfl
      | waiting x => rfl
      | inFlight x fate => rfl
    all_goals simp [State.ringFields, g]

end Sys2Proof.Machine
end
section
/-! PROOFS. LIVE pages 3, 5 and 6 (R87, R129, R139, R171, R195). -/

set_option Elab.async false

namespace Sys2Proof.Machine

/-! ## Codes fit a byte -/

theorem SpanKind.code_lt (x : SpanKind) : x.code < 256 := by cases x <;> decide
theorem FramerState.code_lt (x : FramerState) : x.code < 256 := by cases x <;> decide
theorem CutStatus.code_lt (x : CutStatus) : x.code < 256 := by cases x <;> decide
theorem MissCause.code_lt (x : MissCause) : x.code.val < 256 := x.code.isLt.trans (by decide)

theorem shown_eq_mark (b : Bool) : shown b = mark b := rfl

/-! ## Fields in another order -/

/-- Layouts of the same fields in another order are one, where the fields do not overlap. -/
theorem Fits.layout_perm {lo hi : Nat} {fs gs : List Field} (h : Fits lo hi gs) (hPerm : fs.Perm gs) (len : Nat) :
    layout len fs = layout len gs := by
  refine List.map_congr_left fun i _ => ?_
  have hFind : fs.find? (Field.covers (0 + i)) = gs.find? (Field.covers (0 + i)) := by
    cases hSome : fs.find? (Field.covers (0 + i)) with
    | none => exact (List.find?_eq_none.2 fun f hf => List.find?_eq_none.1 hSome f (hPerm.mem_iff.2 hf)).symm
    | some f =>
      have hCovers := List.find?_some hSome
      exact (h.covered_by (hPerm.mem_iff.1 (List.mem_of_find?_eq_some hSome)) hCovers).symm
  rw [layoutByte_eq, layoutByte_eq, hFind]

/-! ## Page 3 -/

theorem spanFields_stepped : Stepped 16 spanFields := fun o x => .of_check (by
  simp only [spanFields, fitsCheck, Bool.and_eq_true, decide_eq_true_eq]
  omega)

theorem bounds_stepped : Stepped 2 (fun o b => [(⟨o, 2, b⟩ : Field)]) := fun o b => .of_check (by simp [fitsCheck])

theorem ClassParams.fits (p : ClassParams) : Fits 0x20 0x34 (p.fields 0x20) := by
  unfold ClassParams.fields
  refine Fits.append (mid := 0x26) (.of_check rfl) ?_ (by decide) (by decide)
  have hFits := fits_spread bounds_stepped 0x26 p.bounds.toList
  rwa [Vector.length_toList] at hFits

/-- The fields of page 3 before the spans. -/
def State.page3Head (s : State) : List Field :=
  [⟨0x000, 2, (s.blobs.entries.filter (!·.carried)).length⟩, ⟨0x002, 2, (s.blobs.entries.filter (·.carried)).length⟩,
   ⟨0x004, 2, s.map.flaws.length⟩, ⟨0x006, 1, s.map.spans.length⟩,
   ⟨0x007, 1, mark s.blobs.oldestOpen.isSome + 2 * mark s.map.full + 4 * mark s.map.lossMark⟩,
   ⟨0x008, 8, s.blobs.oldestOpen.getD 0⟩, ⟨0x010, 4, s.map.nextFlaw⟩, ⟨0x014, 1, s.map.retire.form⟩,
   ⟨0x018, 8, s.map.retire.lineOr0⟩]

theorem State.page3_eq (s : State) : s.page 3 = s.page3Head ++ s.blobs.params.fields 0x020 ++ countFields 0x040 s.mapCounters
    ++ spread 0x100 16 spanFields (s.map.spans.take 16) := rfl

theorem State.page3Head_fits (s : State) :
    Fits 0 0x100 (s.page3Head ++ s.blobs.params.fields 0x020 ++ countFields 0x040 s.mapCounters) :=
  Fits.append (mid := 0x40) (Fits.append (mid := 0x20) (.of_check rfl) (s.blobs.params.fits.widen le_rfl (by decide))
    (by decide) (by decide)) ((fits_countFields 0x40 s.mapCounters).widen le_rfl (show 0x40 + 4 * 13 ≤ 0x100 by decide))
    (by decide) (by decide)

theorem spread_take_end {α : Type} (off step k : Nat) (l : List α) : off + step * (l.take k).length ≤ off + step * k :=
  Nat.add_le_add_left (Nat.mul_le_mul_left _ (List.length_take_le k l)) _

theorem State.page3_fits (s : State) : Fits 0 0x200 (s.page 3) := by
  rw [State.page3_eq]
  exact s.page3Head_fits.append ((fits_spread spanFields_stepped 0x100 _).widen le_rfl (spread_take_end 0x100 16 16 _))
    (by decide) (by decide)

theorem State.showsPage3_all (s : State) : s.showsPage3 := by
  have hRead {off size val : Nat} (h : ⟨off, size, val⟩ ∈ s.page 3) :
      field (s.snapshot 0x3000 4096) off size = val % 256 ^ size := State.pageRead (k := 3) s.page3_fits (by decide) h
  have hHead {off size val : Nat} (h : ⟨off, size, val⟩ ∈ s.page3Head) :
      field (s.snapshot 0x3000 4096) off size = val % 256 ^ size :=
    hRead (List.mem_append_left _ (List.mem_append_left _ (List.mem_append_left _ h)))
  have hParams {off size val : Nat} (h : ⟨off, size, val⟩ ∈ s.blobs.params.fields 0x20) :
      field (s.snapshot 0x3000 4096) off size = val % 256 ^ size :=
    hRead (List.mem_append_left _ (List.mem_append_left _ (List.mem_append_right _ h)))
  have hCount (i : Nat) {x : Nat} (h : s.mapCounters[i]? = some x) :
      field (s.snapshot 0x3000 4096) (0x040 + 4 * i) 4 = x % 256 ^ 4 :=
    hRead (List.mem_append_left _ (List.mem_append_right _ (mem_counts h)))
  have hForm : byteAt (s.snapshot 0x3000 4096) 0x014 = s.map.retire.form % 256 :=
    hHead (size := 1) (by simp [State.page3Head])
  have hLine : field (s.snapshot 0x3000 4096) 0x018 8 = s.map.retire.lineOr0 % 2 ^ 64 :=
    hHead (by simp [State.page3Head])
  have hMarks : mark s.blobs.oldestOpen.isSome + 2 * mark s.map.full + 4 * mark s.map.lossMark < 256 := by
    have h0 := mark_le s.blobs.oldestOpen.isSome
    have h1 := mark_le s.map.full
    have h2 := mark_le s.map.lossMark
    omega
  unfold State.showsPage3
  intro u b m p
  refine ⟨hHead ?_, hHead ?_, hHead ?_, hHead (size := 1) ?_, (hHead (size := 1) ?_).trans (Nat.mod_eq_of_lt hMarks), hHead ?_,
    hHead ?_, fun n hn => ?_, fun hNone => ?_, fun hAll => ?_, hParams ?_, hParams (size := 1) ?_, hParams (size := 1) ?_,
    fun i => hParams (List.mem_append_right _ (mem_spread_vector List.mem_cons_self)), hCount 0 rfl, hCount 1 rfl, hCount 2 rfl, hCount 3 rfl,
    hCount 4 rfl, hCount 5 rfl, hCount 6 rfl, hCount 7 rfl, hCount 8 rfl, hCount 9 rfl, hCount 10 rfl, hCount 11 rfl,
    hCount 12 rfl, fun i hi => ⟨fun x hx => ?_, fun hNone => ?_⟩⟩
  case refine_8 =>
    rw [show s.map.retire = .line n from hn] at hForm hLine
    exact ⟨hForm, hLine⟩
  case refine_9 =>
    rw [show s.map.retire = .none from hNone] at hForm hLine
    exact ⟨hForm, hLine⟩
  case refine_10 =>
    rw [show s.map.retire = .all from hAll] at hForm hLine
    exact ⟨hForm, hLine⟩
  case refine_14 =>
    have hSpan {off size val : Nat} (h : ⟨off, size, val⟩ ∈ spanFields (0x100 + 16 * i) x) :
        field u off size = val % 256 ^ size :=
      hRead (List.mem_append_right _ (mem_spread ((take_getElem?_of_lt hi).trans hx) h))
    have hStart : 0x101 + 16 * i = 0x100 + 16 * i + 1 := by omega
    have hStop : 0x106 + 16 * i = 0x100 + 16 * i + 6 := by omega
    rw [hStart, hStop]
    exact ⟨(hSpan (size := 1) (by simp [spanFields])).trans (Nat.mod_eq_of_lt x.kind.code_lt),
      hSpan (by simp [spanFields]), hSpan (by simp [spanFields])⟩
  case refine_15 =>
    have hClear : Clear (0x100 + 16 * i) (0x100 + 16 * i + 16) (s.page 3) := by
      rw [State.page3_eq]
      exact (s.page3Head_fits.clear_after (Nat.le_add_right _ _)).append
        (clear_spread_none spanFields_stepped ((take_getElem?_of_lt hi).trans hNone))
    exact State.pageReads0 (k := 3) hClear (by omega)
  all_goals simp [State.page3Head, ClassParams.fields, shown_eq_mark, b, m, p]

/-! ## Page 5 -/

theorem Cut.fields_stepped : Stepped 32 Cut.fields := fun o c => .of_check (by
  simp only [Cut.fields, fitsCheck, Bool.and_eq_true, decide_eq_true_eq]
  omega)

/-- The fields of page 5 before its counters. -/
def State.page5Head (s : State) : List Field :=
  [⟨0x000, 1, mark s.link.on⟩, ⟨0x001, 1, s.link.framer.state.code⟩, ⟨0x002, 1, mark s.link.ready⟩,
   ⟨0x003, 1, mark (s.pos.inputOf .inCutterReady)⟩, ⟨0x004, 1, mark s.readiness⟩, ⟨0x005, 1, mark s.link.notReady⟩,
   ⟨0x006, 1, s.link.txq.length⟩, ⟨0x007, 1, (s.link.shift.map (·.frame.code.toNat)).getD 0⟩,
   ⟨0x008, 1, mark s.link.lanesPending.isSome⟩, ⟨0x009, 1, s.link.settings.breakLen⟩,
   ⟨0x00A, 1, s.link.settings.ackTimeout⟩, ⟨0x00B, 1, s.link.settings.repeats⟩, ⟨0x00C, 4, s.link.settings.rate⟩,
   ⟨0x010, 2, s.link.next.toNat⟩, ⟨0x012, 1, s.link.cuts.length⟩]

theorem State.page5_eq (s : State) : s.page 5 = s.page5Head ++ countFields 0x040 s.link.counters.list
    ++ spread 0x100 32 Cut.fields (s.link.cuts.take 16) := rfl

theorem LinkCounters.list_length (c : LinkCounters) : c.list.length = 29 := by simp [LinkCounters.list]

theorem State.page5Head_fits (s : State) : Fits 0 0x100 (s.page5Head ++ countFields 0x040 s.link.counters.list) := by
  refine Fits.append (mid := 0x40) (.of_check rfl) ((fits_countFields 0x40 _).widen le_rfl ?_) (by decide) (by decide)
  rw [LinkCounters.list_length]
  decide

theorem State.page5_fits (s : State) : Fits 0 0x300 (s.page 5) := by
  rw [State.page5_eq]
  exact s.page5Head_fits.append ((fits_spread Cut.fields_stepped 0x100 _).widen le_rfl (spread_take_end 0x100 32 16 _))
    (by decide) (by decide)

/-- The counters of the link at their places (R139). -/
theorem LinkCounters.list_get (c : LinkCounters) :
    (c.list[0]? = some c.sentCut ∧ c.list[1]? = some c.sentLanes ∧ c.list[2]? = some c.repeats)
    ∧ (∀ i : Fin 4, c.list[3 + i.val]? = some c.received[i]) ∧ (∀ i : Fin 8, c.list[7 + i.val]? = some c.errors[i])
    ∧ (c.list[15]? = some c.stray ∧ c.list[16]? = some c.malformed ∧ c.list[17]? = some c.late
      ∧ c.list[18]? = some c.unknown ∧ c.list[19]? = some c.duplicate ∧ c.list[20]? = some c.refused
      ∧ c.list[21]? = some c.fullMisses) ∧ ∀ i : Fin 7, c.list[22 + i.val]? = some c.missed[i] := by
  unfold LinkCounters.list
  refine ⟨⟨?_, ?_, ?_⟩, fun i => ?_, fun i => ?_, ⟨?_, ?_, ?_, ?_, ?_, ?_, ?_⟩, fun i => ?_⟩
  case refine_13 =>
    rw [List.getElem?_append_right (by simp)]
    simp
  all_goals simp [List.getElem?_append, List.getElem?_cons]

/-- The flag bits of a cut. -/
theorem Cut.flags_bits (c : Cut) :
    let n := mark c.plateEnd + 2 * mark (!c.plateEnd) + 4 * mark c.offset
    n < 256 ∧ n.testBit 0 = c.plateEnd ∧ n.testBit 1 = !c.plateEnd ∧ n.testBit 2 = c.offset := by
  cases c.plateEnd with
  | false => cases c.offset with
    | false => decide
    | true => decide
  | true => cases c.offset with
    | false => decide
    | true => decide

theorem Option.getD_map_none {α : Type} {x : Option α} {f : α → Nat} (h : x = none) : (x.map f).getD 0 = 0 := by
  rw [h]
  rfl

theorem Option.getD_map_some {α : Type} {x : Option α} {f : α → Nat} {a : α} (h : x = some a) : (x.map f).getD 0 = f a := by
  rw [h]
  rfl

theorem State.showsPage5_all (s : State) : s.showsPage5 := by
  have hRead {off size val : Nat} (h : ⟨off, size, val⟩ ∈ s.page 5) :
      field (s.snapshot 0x5000 4096) off size = val % 256 ^ size := State.pageRead (k := 5) s.page5_fits (by decide) h
  have hHead {off size val : Nat} (h : ⟨off, size, val⟩ ∈ s.page5Head) :
      field (s.snapshot 0x5000 4096) off size = val % 256 ^ size :=
    hRead (List.mem_append_left _ (List.mem_append_left _ h))
  have hMark {off : Nat} {b : Bool} (h : ⟨off, 1, mark b⟩ ∈ s.page5Head) : byteAt (s.snapshot 0x5000 4096) off = shown b :=
    (hHead h).trans (Nat.mod_eq_of_lt (mark_lt b))
  have hCount (i : Nat) {x : Nat} (h : s.link.counters.list[i]? = some x) :
      field (s.snapshot 0x5000 4096) (0x040 + 4 * i) 4 = x % 256 ^ 4 :=
    hRead (List.mem_append_left _ (List.mem_append_right _ (mem_counts h)))
  obtain ⟨⟨h0, h1, h2⟩, hReceived, hErrors, ⟨h15, h16, h17, h18, h19, h20, h21⟩, hMissed⟩ := s.link.counters.list_get
  have hFrame : byteAt (s.snapshot 0x5000 4096) 0x007 = (s.link.shift.map (·.frame.code.toNat)).getD 0 % 256 :=
    hHead (size := 1) (by simp [State.page5Head])
  unfold State.showsPage5
  intro u l k
  refine ⟨hMark ?_, (hHead (size := 1) ?_).trans (Nat.mod_eq_of_lt l.framer.state.code_lt), hMark ?_, hMark ?_, hMark ?_, hMark ?_,
    hHead (size := 1) ?_, fun hNone => ?_, fun x hx => ?_, hMark ?_, hHead (size := 1) ?_, hHead (size := 1) ?_, hHead (size := 1) ?_,
    hHead ?_, (hHead ?_).trans (Nat.mod_eq_of_lt l.next.isLt), hHead (size := 1) ?_,
    hCount 0 h0, hCount 1 h1, hCount 2 h2, fun i => ?_, fun i => ?_, hCount 15 h15, hCount 16 h16, hCount 17 h17,
    hCount 18 h18, hCount 19 h19, hCount 20 h20, hCount 21 h21, fun i => ?_, fun j hj => ?_⟩
  case refine_8 => rw [hFrame, Option.getD_map_none hNone]
  case refine_9 =>
    rw [hFrame, Option.getD_map_some hx]
    exact Nat.mod_eq_of_lt x.frame.code.isLt
  case refine_17 =>
    have hOff : 0x04C + 4 * i.val = 0x040 + 4 * (3 + i.val) := by omega
    rw [hOff]
    exact hCount _ (hReceived i)
  case refine_18 =>
    have hOff : 0x05C + 4 * i.val = 0x040 + 4 * (7 + i.val) := by omega
    rw [hOff]
    exact hCount _ (hErrors i)
  case refine_19 =>
    have hOff : 0x098 + 4 * i.val = 0x040 + 4 * (22 + i.val) := by omega
    rw [hOff]
    exact hCount _ (hMissed i)
  case refine_20 =>
    intro o
    refine ⟨fun hNone => ?_, fun c hc => ?_⟩
    · have hClear : Clear o (o + 32) (s.page 5) := by
        rw [State.page5_eq]
        exact (s.page5Head_fits.clear_after (Nat.le_add_right _ _)).append
          (clear_spread_none Cut.fields_stepped ((take_getElem?_of_lt hj).trans hNone))
      exact State.pageReads0 (k := 5) hClear (show 0x100 + 32 * j + 32 ≤ 4096 by omega)
    · have hCut {off size val : Nat} (h : ⟨off, size, val⟩ ∈ Cut.fields o c) : field u off size = val % 256 ^ size :=
        hRead (List.mem_append_right _ (mem_spread ((take_getElem?_of_lt hj).trans hc) h))
      clear_value o
      obtain ⟨hLt, hPlate, hOther, hOffset⟩ := c.flags_bits
      have hFlags : byteAt u (o + 3) = mark c.plateEnd + 2 * mark (!c.plateEnd) + 4 * mark c.offset :=
        (hCut (size := 1) (by simp [Cut.fields])).trans (Nat.mod_eq_of_lt hLt)
      have hCause : byteAt u (o + 5) = (c.cause.map (·.code.val)).getD 0 % 256 := hCut (size := 1) (by simp [Cut.fields])
      have hRuns : byteAt u (o + 7) = mark c.timer.isSome % 256 := hCut (size := 1) (by simp [Cut.fields])
      have hTime : byteAt u (o + 13) = (c.timer.map (·.count)).getD 0 % 256 := hCut (size := 1) (by simp [Cut.fields])
      rw [hFlags]
      refine ⟨(hCut ?_).trans (Nat.mod_eq_of_lt c.num.isLt), (hCut (size := 1) ?_).trans (Nat.mod_eq_of_lt c.status.code_lt),
        hPlate, hOther, hOffset, hCut (size := 1) ?_, fun hNone => ?_, fun x hx => ?_, hCut (size := 1) ?_, fun hNone => ?_,
        fun x hx => ?_, hCut ?_, hCut ?_, hCut ?_, hCut ?_, hCut ?_⟩
      case refine_4 => rw [hCause, Option.getD_map_none hNone]
      case refine_5 =>
        rw [hCause, Option.getD_map_some hx]
        exact Nat.mod_eq_of_lt x.code_lt
      case refine_7 =>
        rw [hRuns, hTime, Option.getD_map_none hNone, hNone]
        exact ⟨rfl, rfl⟩
      case refine_8 =>
        rw [hRuns, hTime, Option.getD_map_some hx, hx]
        exact ⟨rfl, rfl⟩
      all_goals simp [Cut.fields]
  all_goals simp [State.page5Head, l]

end Sys2Proof.Machine
end
section
/-! PROOFS. LIVE page 6 (R171, R195). -/

set_option Elab.async false

namespace Sys2Proof.Machine

section
variable {k lo hi : Nat} {s : State} {gs : List Field}

/-- A field of a page reads back where the page's fields ascend in another order. -/
theorem State.pageRead_perm {off size val : Nat} (h : Fits lo hi gs) (hPerm : (s.page k).Perm gs) (hEnd : hi ≤ 4096)
    (hf : ⟨off, size, val⟩ ∈ gs) : field (s.snapshot (4096 * k) 4096) off size = val % 256 ^ size := by
  rw [State.snapshot_page, State.pageBytes, h.layout_perm hPerm]
  exact h.field hf ((h.1 _ hf).2.trans hEnd)

theorem Clear.perm {fs : List Field} (h : Clear lo hi gs) (hPerm : fs.Perm gs) : Clear lo hi fs := fun f hf =>
  h f (hPerm.mem_iff.1 hf)

end

/-- The first fields of page 6. -/
def State.page6Start (s : State) : List Field :=
  [⟨0x000, 4, s.tally.shift⟩, ⟨0x004, 2, s.tally.start.day.toNat⟩,
   ⟨0x006, 1, mark s.tally.start.clockSet + 2 * mark s.tally.start.saturated⟩, ⟨0x008, 4, s.tally.start.tod⟩,
   ⟨0x00C, 2, yieldOf s.tally.live.goodArea s.tally.live.gradedArea⟩, ⟨0x00E, 1, s.tally.plan.length⟩,
   ⟨0x010, 8, s.tally.start.line⟩]

/-- The fields of the pending slot and the deferred close, in ascending order. -/
def slotFields (code deferred : Nat) : Option Report → List Field
  | none => [⟨0x028, 1, code⟩, ⟨0x02A, 1, deferred⟩]
  | some r => [⟨0x028, 1, code⟩, ⟨0x029, 1, r.flagBits⟩, ⟨0x02A, 1, deferred⟩, ⟨0x02C, 4, r.shift⟩, ⟨0x030, 4, r.covered⟩,
      ⟨0x034, 4, r.endTod⟩, ⟨0x038, 2, r.endDay.toNat⟩]

/-- The deferred close as page 6 shows it. -/
def State.deferredCode (s : State) : Nat := (s.tally.deferred.map (fun c => c.code + 1)).getD 0

/-- The fields of page 6 in ascending order. -/
def State.page6Sorted (s : State) : List Field :=
  s.page6Start ++ countFields 0x018 (s.tally.plan.take 4) ++ slotFields s.tally.slot.code s.deferredCode s.tally.slot.report
    ++ s.tally.live.fields ++ [⟨0x180, 4, s.tally.closed⟩, ⟨0x184, 4, s.tally.merged⟩, ⟨0x188, 4, s.tally.written⟩]

theorem slotFields_perm (code deferred : Nat) (r : Option Report) :
    (([⟨0x028, 1, code⟩, ⟨0x02A, 1, deferred⟩] : List Field) ++ pendingFields r).Perm (slotFields code deferred r) := by
  cases r with
  | none => exact List.Perm.refl _
  | some r => exact (List.Perm.swap _ _ _).cons _

theorem State.page6_perm (s : State) : (s.page 6).Perm s.page6Sorted := by
  let slot : List Field := [⟨0x028, 1, s.tally.slot.code⟩, ⟨0x02A, 1, s.deferredCode⟩]
  let counts := countFields 0x018 (s.tally.plan.take 4)
  have hMoved : (s.page6Start ++ slot ++ counts ++ pendingFields s.tally.slot.report).Perm
      (s.page6Start ++ counts ++ slotFields s.tally.slot.code s.deferredCode s.tally.slot.report) := by
    have hSwap : (slot ++ (counts ++ pendingFields s.tally.slot.report)).Perm
        (counts ++ (slot ++ pendingFields s.tally.slot.report)) := by
      rw [← List.append_assoc, ← List.append_assoc]
      exact List.perm_append_comm.append_right _
    simp only [List.append_assoc]
    exact (hSwap.trans ((slotFields_perm _ _ _).append_left _)).append_left _
  exact (hMoved.append_right _).append_right _

theorem slotFields_fits (code deferred : Nat) (r : Option Report) : Fits 0x28 0x40 (slotFields code deferred r) := by
  cases r with
  | none => exact .of_check rfl
  | some r => exact .of_check rfl

theorem State.page6Counts_fits (s : State) : Fits 0x18 0x28 (countFields 0x018 (s.tally.plan.take 4)) :=
  (fits_countFields 0x18 _).widen le_rfl (spread_take_end 0x18 4 4 _)

theorem State.page6Start_fits (s : State) : Fits 0 0x18 s.page6Start := .of_check rfl

theorem State.page6Tail_fits (s : State) : Fits 0x180 0x18C
    [⟨0x180, 4, s.tally.closed⟩, ⟨0x184, 4, s.tally.merged⟩, ⟨0x188, 4, s.tally.written⟩] := .of_check rfl

theorem State.page6_fits (s : State) : Fits 0 0x18C s.page6Sorted :=
  Fits.append (mid := 0x178) (Fits.append (mid := 0x40) (Fits.append (mid := 0x28) (s.page6Start_fits.append s.page6Counts_fits
    (by decide) (by decide)) (slotFields_fits _ _ _) (by decide) (by decide)) s.tally.live.fits (by decide) (by decide))
    (s.page6Tail_fits.widen (by decide) le_rfl) (by decide) (by decide)

/-- Bytes below the tallies are clear on page 6 where its first fields, the plan and the slot leave them clear. -/
theorem State.page6_clear {s : State} {lo hi : Nat} (hhi : hi ≤ 0x40) (hStart : Clear lo hi s.page6Start)
    (hPlan : Clear lo hi (countFields 0x018 (s.tally.plan.take 4)))
    (hSlot : Clear lo hi (slotFields s.tally.slot.code s.deferredCode s.tally.slot.report)) : Clear lo hi (s.page 6) :=
  Clear.perm ((((hStart.append hPlan).append hSlot).append (s.tally.live.fits.clear_before hhi)).append
    (s.page6Tail_fits.clear_before (hhi.trans (by decide)))) s.page6_perm

theorem State.showsPage6_all (s : State) : s.showsPage6 := by
  have hRead {off size val : Nat} (h : ⟨off, size, val⟩ ∈ s.page6Sorted) :
      field (s.snapshot 0x6000 4096) off size = val % 256 ^ size :=
    State.pageRead_perm (k := 6) s.page6_fits s.page6_perm (by decide) h
  have hStart {off size val : Nat} (h : ⟨off, size, val⟩ ∈ s.page6Start) :
      field (s.snapshot 0x6000 4096) off size = val % 256 ^ size :=
    hRead (List.mem_append_left _ (List.mem_append_left _ (List.mem_append_left _ (List.mem_append_left _ h))))
  have hSlot {off size val : Nat} (h : ⟨off, size, val⟩ ∈ slotFields s.tally.slot.code s.deferredCode s.tally.slot.report) :
      field (s.snapshot 0x6000 4096) off size = val % 256 ^ size :=
    hRead (List.mem_append_left _ (List.mem_append_left _ (List.mem_append_right _ h)))
  have hReport (code : Nat) (r : Report) (hCode : code < 256) (hIs : s.tally.slot.code = code)
      (hr : s.tally.slot.report = some r) :
      byteAt (s.snapshot 0x6000 4096) 0x028 = code
      ∧ byteAt (s.snapshot 0x6000 4096) 0x029 = shown r.merged + 2 * shown r.clockSet + 4 * shown r.saturated
      ∧ field (s.snapshot 0x6000 4096) 0x02C 4 = r.shift % 2 ^ 32 ∧ field (s.snapshot 0x6000 4096) 0x030 4 = r.covered % 2 ^ 32
      ∧ field (s.snapshot 0x6000 4096) 0x034 4 = r.endTod % 2 ^ 32
      ∧ field (s.snapshot 0x6000 4096) 0x038 2 = r.endDay.toNat := by
    rw [hIs, hr] at hSlot
    refine ⟨(hSlot (size := 1) ?_).trans (Nat.mod_eq_of_lt hCode),
      (hSlot (size := 1) ?_).trans (Nat.mod_eq_of_lt (r.flagBits_lt.trans (by decide))), hSlot ?_, hSlot ?_, hSlot ?_,
      (hSlot ?_).trans (Nat.mod_eq_of_lt r.endDay.isLt)⟩
    all_goals simp [slotFields]
    rfl
  have hDeferred : byteAt (s.snapshot 0x6000 4096) 0x02A = s.deferredCode % 256 := hSlot (size := 1) (by
    cases s.tally.slot.report with
    | none => simp [slotFields]
    | some r => simp [slotFields])
  have hMarks : mark s.tally.start.clockSet + 2 * mark s.tally.start.saturated < 256 := by
    have h0 := mark_le s.tally.start.clockSet
    have h1 := mark_le s.tally.start.saturated
    omega
  unfold State.showsPage6
  intro u t report
  refine ⟨hStart ?_, (hStart ?_).trans (Nat.mod_eq_of_lt t.start.day.isLt), (hStart (size := 1) ?_).trans (Nat.mod_eq_of_lt hMarks),
    hStart ?_, hStart (val := yieldOf t.live.goodArea t.live.gradedArea) ?_, hStart (size := 1) ?_, hStart ?_, fun j hj => ?_, fun hEmpty => ?_,
    fun r hr => hReport 1 r (by decide) ?_ ?_, fun r fate hr => hReport 2 r (by decide) ?_ ?_, fun hNone => ?_, fun c hc => ?_, ?_,
    hRead ?_, hRead ?_, hRead ?_⟩
  case refine_8 =>
    cases hj' : t.plan[j]? with
    | none =>
      have hNone : (t.plan.take 4)[j]? = none := (take_getElem?_of_lt hj).trans hj'
      have hClear : Clear (0x018 + 4 * j) (0x018 + 4 * j + 4) (s.page 6) := State.page6_clear (by omega)
        (s.page6Start_fits.clear_after (Nat.le_add_right _ _)) (clear_counts_none hNone)
        ((slotFields_fits _ _ _).clear_before (by omega))
      exact State.pageField0 (k := 6) hClear (by omega)
    | some x =>
      have hSome : (t.plan.take 4)[j]? = some x := (take_getElem?_of_lt hj).trans hj'
      exact hRead (List.mem_append_left _ (List.mem_append_left _ (List.mem_append_left _ (List.mem_append_right _ (mem_counts hSome)))))
  case refine_9 =>
    have hNone : s.tally.slot.report = none := by rw [show s.tally.slot = .empty from hEmpty]; rfl
    have hCode : s.tally.slot.code = 0 := by rw [show s.tally.slot = .empty from hEmpty]; rfl
    have hByte : byteAt u 0x028 = s.tally.slot.code % 256 := hSlot (size := 1) (by simp [slotFields, hNone])
    have hMark : Clear 0x029 (0x029 + 1) (s.page 6) := State.page6_clear (by decide) (s.page6Start_fits.clear_after (by decide))
      (s.page6Counts_fits.clear_after (by decide)) (by simp [hNone, slotFields, Clear])
    have hRest : Clear 0x02C (0x02C + 14) (s.page 6) := State.page6_clear (by decide) (s.page6Start_fits.clear_after (by decide))
      (s.page6Counts_fits.clear_after (by decide)) (by simp [hNone, slotFields, Clear])
    refine ⟨fun i hi => ?_, State.pageReads0 (k := 6) hRest (by decide)⟩
    obtain rfl | rfl : i = 0 ∨ i = 1 := by omega
    · exact hByte.trans (by rw [hCode])
    · exact State.pageReads0 (k := 6) hMark (by decide) 0 Nat.one_pos
  case refine_10 => rw [show s.tally.slot = .waiting r from hr]; rfl
  case refine_11 => rw [show s.tally.slot = .waiting r from hr]; rfl
  case refine_12 => rw [show s.tally.slot = .inFlight r fate from hr]; rfl
  case refine_13 => rw [show s.tally.slot = .inFlight r fate from hr]; rfl
  case refine_14 => rw [hDeferred, State.deferredCode, Option.getD_map_none hNone]
  case refine_15 =>
    rw [hDeferred, State.deferredCode, Option.getD_map_some hc]
    cases c with
    | boundary => rfl
    | command => rfl
    | terminal => rfl
    | clock => rfl
  case refine_16 =>
    have hLayout : u = layout 4096 s.page6Sorted := (State.snapshot_page 6 s).trans (s.page6_fits.layout_perm s.page6_perm 4096)
    rw [hLayout]
    exact t.live.laidOut_layout s.page6_fits (by decide) fun f hf => List.mem_append_left _ (List.mem_append_right _ hf)
  all_goals simp [State.page6Start, State.page6Sorted, shown_eq_mark, t]

end Sys2Proof.Machine
end
section
/-! PROOFS. LIVE page 2 (R62, R195). -/

set_option Elab.async false

namespace Sys2Proof.Machine

theorem LearnState.code_lt (x : LearnState) : x.code < 256 := by cases x <;> decide

/-! ## The detection parameters -/

/-- The fields of the detection parameters before their search ranges. -/
def Detect.headFields (d : Detect) : List Field :=
  [⟨0x20, 2, d.learnLines⟩, ⟨0x22, 1, d.alpha⟩, ⟨0x23, 1, d.beta⟩, ⟨0x24, 1, d.k⟩, ⟨0x25, 1, d.tmin⟩, ⟨0x26, 2, d.initNoise⟩,
   ⟨0x28, 1, d.floodFraction⟩, ⟨0x29, 1, d.edgeLevel⟩, ⟨0x2A, 1, d.edgeGuard⟩, ⟨0x2B, 1, d.gc⟩, ⟨0x2C, 1, d.lg⟩,
   ⟨0x2E, 2, d.lmax⟩, ⟨0x30, 1, mark d.left.isSome + 2 * mark d.right.isSome⟩]

/-- The fields of page 2 before the detection parameters. -/
def State.page2Head (s : State) : List Field :=
  [⟨0x000, 4, s.ing.captures⟩, ⟨0x004, 2, s.ing.pulses.length⟩, ⟨0x006, 1, mark s.ing.pendingDetect.isSome⟩,
   ⟨0x007, 1, s.ing.holdLimit⟩, ⟨0x008, 8, s.ing.assembled⟩, ⟨0x010, 2, s.ing.left.value⟩, ⟨0x012, 2, s.ing.right.value⟩,
   ⟨0x014, 1, s.ing.left.lostCount⟩, ⟨0x015, 1, s.ing.right.lostCount⟩,
   ⟨0x016, 1, mark s.ing.left.lostCond + 2 * mark s.ing.right.lostCond⟩, ⟨0x018, 2, s.ing.pp⟩]

theorem State.page2_eq (s : State) : s.page 2 = s.page2Head ++ (s.ing.detect.headFields ++ rangeFields 0x32 s.ing.detect.left
    ++ rangeFields 0x36 s.ing.detect.right) ++ (List.finRange 8).flatMap s.ing.camFields := rfl

theorem rangeFields_fits (o : Nat) (r : Option (Nat × Nat)) : Fits o (o + 4) (rangeFields o r) := by
  cases r with
  | none => exact .of_check (by simp [rangeFields, fitsCheck])
  | some x => exact .of_check (by simp [rangeFields, fitsCheck])

theorem Detect.headFields_fits (d : Detect) : Fits 0x20 0x32 d.headFields := .of_check rfl

theorem State.page2Head_fits (s : State) : Fits 0 0x20 s.page2Head := .of_check rfl

/-! ## The cameras -/

theorem CamCounters.list_length (c : CamCounters) : c.list.length = 15 := by simp [CamCounters.list]

/-- The fields of a camera before its counters. -/
theorem Ingest.camFields_fits (g : Ingest) (i : Fin 8) :
    Fits (0x100 + 0x80 * i.val) (0x100 + 0x80 * i.val + 0x80) (g.camFields i) := by
  have ho : 0x100 + i.val * 0x80 = 0x100 + 0x80 * i.val := congrArg (0x100 + ·) (Nat.mul_comm i.val 0x80)
  unfold Ingest.camFields
  dsimp only
  rw [ho]
  generalize 0x100 + 0x80 * i.val = o
  refine Fits.append (mid := o + 0x30) (.of_check ?_) ((fits_countFields (o + 0x30) _).widen le_rfl ?_) (by omega) (by omega)
  · simp only [fitsCheck, Bool.and_eq_true, decide_eq_true_eq]
    omega
  · rw [CamCounters.list_length]
    omega

theorem State.page2_fits (s : State) : Fits 0 0x500 (s.page 2) := by
  rw [State.page2_eq]
  refine Fits.append (mid := 0x100) (Fits.append (mid := 0x20) s.page2Head_fits ?_ (by decide) (by decide))
    (fits_finRange s.ing.camFields_fits) (by decide) (by decide)
  exact Fits.append (mid := 0x36) (Fits.append (mid := 0x32) s.ing.detect.headFields_fits (rangeFields_fits 0x32 _)
    (by decide) (by decide)) ((rangeFields_fits 0x36 _).widen le_rfl (by decide)) (by decide) (by decide)

theorem CamCounters.list_get (c : CamCounters) :
    (c.list[0]? = some c.tapped ∧ c.list[1]? = some c.delivered) ∧ (∀ i : Fin 6, c.list[2 + i.val]? = some c.lost[i])
    ∧ c.list[8]? = some c.stale ∧ c.list[9]? = some c.untriggered ∧ c.list[10]? = some c.straddling
    ∧ c.list[11]? = some c.outside ∧ c.list[12]? = some c.disabled ∧ c.list[13]? = some c.flood
    ∧ c.list[14]? = some c.overflow := by
  unfold CamCounters.list
  refine ⟨⟨?_, ?_⟩, fun i => ?_, ?_, ?_, ?_, ?_, ?_, ?_, ?_⟩
  all_goals simp [List.getElem?_append, List.getElem?_cons]

/-- The line of the capture a camera expects. -/
theorem Ingest.expectedLine_some {g : Ingest} {i : Fin 8} {before after : List Pulse} {p : Pulse} (h : g.pulses = before ++ p :: after)
    (hp : p.capture = some g.cams[i].expected) (hFirst : ∀ x ∈ before, x.capture ≠ some g.cams[i].expected) :
    g.expectedLine i = p.line := by
  have hFind : g.pulses.find? (fun p => p.capture = some g.cams[i].expected) = some p := by
    have hNone : before.find? (fun p => p.capture = some g.cams[i].expected) = none :=
      List.find?_eq_none.2 fun x hx hIs => hFirst x hx (of_decide_eq_true hIs)
    rw [h, List.find?_append, hNone, Option.none_or]
    exact List.find?_cons_of_pos (decide_eq_true hp)
  unfold Ingest.expectedLine
  rw [hFind]

theorem Ingest.expectedLine_none {g : Ingest} {i : Fin 8} (h : ∀ p ∈ g.pulses, p.capture ≠ some g.cams[i].expected) :
    g.expectedLine i = 0 := by
  have hFind : g.pulses.find? (fun p => p.capture = some g.cams[i].expected) = none :=
    List.find?_eq_none.2 fun x hx hIs => h x hx (of_decide_eq_true hIs)
  unfold Ingest.expectedLine
  rw [hFind]

theorem Ingest.awaiting_eq (g : Ingest) (i : Fin 8) : g.awaiting i =
    (g.pulses.filter (fun p => !(p.status[i] = .off || p.status[i] = .pending || p.status[i] = .lost))).length := by
  unfold Ingest.awaiting
  refine congrArg List.length (List.filter_congr fun p _ => ?_)
  cases p.status[i] with
  | off => rfl
  | pending => rfl
  | lost => rfl
  | delivered x => rfl

theorem Buf.code_lt (b : Buf) : b.code < 256 := by
  cases b with
  | free => decide
  | filling q bytes => exact (by decide : 1 < 256)
  | classifying q r => exact (by decide : 2 < 256)

theorem Option.getD_map_of_some {α : Type} {x : Option α} {f : α → Nat} {a : α} (d : Nat) (h : x = some a) :
    (x.map f).getD d = f a := by
  rw [h]
  rfl

theorem Option.getD_map_of_none {α : Type} {x : Option α} {f : α → Nat} (d : Nat) (h : x = none) : (x.map f).getD d = d := by
  rw [h]
  rfl

/-! ## The page -/

/-- The ranges of the detection parameters at their places. -/
theorem State.page2_range {s : State} {o bit : Nat} {r : Option (Nat × Nat)}
    (hBit : (byteAt (s.snapshot 0x2000 4096) 0x030).testBit bit = r.isSome) (hIn : ∀ f ∈ rangeFields o r, f ∈ s.page 2)
    (hClear : r = none → Clear o (o + 4) (s.page 2)) (hEnd : o + 4 ≤ 4096) :
    (r = none → (byteAt (s.snapshot 0x2000 4096) 0x030).testBit bit = false ∧ field (s.snapshot 0x2000 4096) o 4 = 0)
    ∧ ∀ x, r = some x → (byteAt (s.snapshot 0x2000 4096) 0x030).testBit bit = true
        ∧ field (s.snapshot 0x2000 4096) o 2 = x.1 % 2 ^ 16 ∧ field (s.snapshot 0x2000 4096) (o + 2) 2 = x.2 % 2 ^ 16 := by
  have hRead {off size val : Nat} (h : ⟨off, size, val⟩ ∈ s.page 2) :
      field (s.snapshot 0x2000 4096) off size = val % 256 ^ size := State.pageRead (k := 2) s.page2_fits (by decide) h
  refine ⟨fun hNone => ⟨?_, State.pageField0 (k := 2) (hClear hNone) hEnd⟩, fun x hx => ⟨?_, ?_, ?_⟩⟩
  · rw [hBit, hNone]
    rfl
  · rw [hBit, hx]
    rfl
  · exact hRead (hIn _ (by rw [hx]; exact List.mem_cons_self))
  · exact hRead (hIn _ (by rw [hx]; exact .tail _ List.mem_cons_self))

theorem State.showsPage2_all (s : State) : s.showsPage2 := by
  have hRead {off size val : Nat} (h : ⟨off, size, val⟩ ∈ s.page 2) :
      field (s.snapshot 0x2000 4096) off size = val % 256 ^ size := State.pageRead (k := 2) s.page2_fits (by decide) h
  have hHead {off size val : Nat} (h : ⟨off, size, val⟩ ∈ s.page2Head) :
      field (s.snapshot 0x2000 4096) off size = val % 256 ^ size := hRead (by
    rw [State.page2_eq]
    exact List.mem_append_left _ (List.mem_append_left _ h))
  have hDetect {off size val : Nat} (h : ⟨off, size, val⟩ ∈ s.ing.detect.headFields) :
      field (s.snapshot 0x2000 4096) off size = val % 256 ^ size := hRead (by
    rw [State.page2_eq]
    exact List.mem_append_left _ (List.mem_append_right _ (List.mem_append_left _ (List.mem_append_left _ h))))
  have hLost : mark s.ing.left.lostCond + 2 * mark s.ing.right.lostCond < 256 := by
    have h0 := mark_le s.ing.left.lostCond
    have h1 := mark_le s.ing.right.lostCond
    omega
  have hRanges : byteAt (s.snapshot 0x2000 4096) 0x030 =
      mark s.ing.detect.left.isSome + 2 * mark s.ing.detect.right.isSome := by
    have h0 := mark_le s.ing.detect.left.isSome
    have h1 := mark_le s.ing.detect.right.isSome
    exact (hDetect (size := 1) (by simp [Detect.headFields])).trans (Nat.mod_eq_of_lt (by omega))
  have hCams : Clear 0x32 0x100 ((List.finRange 8).flatMap s.ing.camFields) :=
    (fits_finRange s.ing.camFields_fits).clear_before le_rfl
  unfold State.showsPage2
  intro u g d range buffer
  refine ⟨hHead ?_, hHead ?_, (hHead (size := 1) ?_).trans (Nat.mod_eq_of_lt (mark_lt _)), hHead (size := 1) ?_, hHead ?_, hHead ?_,
    hHead ?_, hHead (size := 1) ?_, hHead (size := 1) ?_, (hHead (size := 1) ?_).trans (Nat.mod_eq_of_lt hLost), hHead ?_,
    hDetect ?_, hDetect (size := 1) ?_, hDetect (size := 1) ?_, hDetect (size := 1) ?_, hDetect (size := 1) ?_, hDetect ?_,
    hDetect (size := 1) ?_, hDetect (size := 1) ?_, hDetect (size := 1) ?_, hDetect (size := 1) ?_, hDetect (size := 1) ?_,
    hDetect ?_, State.page2_range ?_ (fun f hf => ?_) (fun hNone => ?_) (by decide),
    State.page2_range ?_ (fun f hf => ?_) (fun hNone => ?_) (by decide), fun i => ?_⟩
  case refine_24 =>
    rw [hRanges]
    exact testBit_mark_zero _ _
  case refine_25 =>
    rw [State.page2_eq]
    exact List.mem_append_left _ (List.mem_append_right _ (List.mem_append_left _ (List.mem_append_right _ hf)))
  case refine_26 =>
    rw [State.page2_eq, show s.ing.detect.left = none from hNone]
    exact (Clear.append (s.page2Head_fits.clear_after (by decide)) (Clear.append (Clear.append
      (s.ing.detect.headFields_fits.clear_after (by decide)) (.nil _ _)) ((rangeFields_fits 0x36 _).clear_before (by decide)))).append
      (hCams.mono (by decide) (by decide))
  case refine_27 =>
    rw [hRanges, testBit_mark_succ]
    exact testBit_mark _
  case refine_28 =>
    rw [State.page2_eq]
    exact List.mem_append_left _ (List.mem_append_right _ (List.mem_append_right _ hf))
  case refine_29 =>
    rw [State.page2_eq, show s.ing.detect.right = none from hNone]
    exact (Clear.append (s.page2Head_fits.clear_after (by decide)) (Clear.append (Clear.append
      (s.ing.detect.headFields_fits.clear_after (by decide)) ((rangeFields_fits 0x32 _).clear_after (by decide))) (.nil _ _))).append
      (hCams.mono (by decide) (by decide))
  case refine_30 =>
    intro c k o
    have hCam {off size val : Nat} (h : ⟨off, size, val⟩ ∈ g.camFields i) : field u off size = val % 256 ^ size :=
      hRead (List.mem_append_right _ (mem_finRange_flatMap h))
    have hBuffer {oc oq : Nat} (b : Buf) (hCode : ⟨oc, 1, b.code⟩ ∈ g.camFields i) (hCapture : ⟨oq, 4, b.capture⟩ ∈ g.camFields i) :
        buffer oc oq b := by
      have hc : byteAt u oc = b.code := (hCam hCode).trans (Nat.mod_eq_of_lt b.code_lt)
      have hq : field u oq 4 = b.capture % 2 ^ 32 := hCam hCapture
      refine ⟨fun h => ?_, fun q bytes h => ?_, fun q r h => ?_⟩
      · rw [h] at hc hq
        exact ⟨hc, hq⟩
      · rw [h] at hc hq
        exact ⟨hc, hq⟩
      · rw [h] at hc hq
        exact ⟨hc, hq⟩
    have ho : o = 0x100 + i.val * 0x80 := congrArg (0x100 + ·) (Nat.mul_comm 0x80 i.val)
    have hCount (j : Nat) {x : Nat} (h : c.counters.list[j]? = some x) : field u (o + (0x30 + 4 * j)) 4 = x % 256 ^ 4 := by
      rw [ho, ← Nat.add_assoc]
      exact hCam (List.mem_append_right _ (mem_counts h))
    obtain ⟨⟨h0, h1⟩, hLosses, h8, h9, h10, h11, h12, h13, h14⟩ := c.counters.list_get
    clear_value o
    subst ho
    have hLine : field u (0x100 + i.val * 0x80 + 0x08) 8 = g.expectedLine i % 2 ^ 64 := hCam (by simp [Ingest.camFields])
    have hSlot : field u (0x100 + i.val * 0x80 + 0x1C) 2 = (c.openLine.map (·.slot)).getD 0xFFFF % 2 ^ 16 :=
      hCam (by simp [Ingest.camFields, c])
    have hCapture : field u (0x100 + i.val * 0x80 + 0x20) 4 = (c.openLine.map (·.capture)).getD 0 % 2 ^ 32 :=
      hCam (by simp [Ingest.camFields, c])
    have hDiscard : field u (0x100 + i.val * 0x80 + 0x1E) 2 = c.discard.getD 0xFFFF % 2 ^ 16 :=
      hCam (by simp [Ingest.camFields, c])
    refine ⟨(hCam (size := 1) ?_).trans (Nat.mod_eq_of_lt (mark_lt _)), (hCam (size := 1) ?_).trans (Nat.mod_eq_of_lt c.learn.code_lt),
      (hCam (size := 1) ?_).trans (Nat.mod_eq_of_lt (mark_lt _)), ?_, hCam ?_,
      fun before p after hPulses hp hFirst => ?_, fun hNone => ?_, hBuffer c.bufA ?_ ?_, hBuffer c.bufB ?_ ?_, fun hNone => ?_,
      fun x hx => ?_, fun hNone => ?_, fun x hx => ?_, hCam ?_, hCam ?_, hCount 0 h0, hCount 1 h1, fun j => ?_, hCount 8 h8,
      hCount 9 h9, hCount 10 h10, hCount 11 h11, hCount 12 h12, hCount 13 h13, hCount 14 h14⟩
    case refine_4 =>
      rw [← g.awaiting_eq i]
      exact hCam (size := 1) (by simp [Ingest.camFields])
    case refine_6 => rw [hLine, Ingest.expectedLine_some hPulses hp hFirst]
    case refine_7 => rw [hLine, Ingest.expectedLine_none hNone, Nat.zero_mod]
    case refine_12 =>
      rw [hSlot, hCapture, Option.getD_map_of_none _ hNone, Option.getD_map_of_none _ hNone]
      exact ⟨rfl, rfl⟩
    case refine_13 =>
      rw [hSlot, hCapture, Option.getD_map_of_some _ hx, Option.getD_map_of_some _ hx]
      exact ⟨rfl, rfl⟩
    case refine_14 => rw [hDiscard, hNone]; rfl
    case refine_15 => rw [hDiscard, hx]; rfl
    case refine_18 =>
      have hOff : 0x100 + i.val * 0x80 + 0x38 + 4 * j.val = 0x100 + i.val * 0x80 + (0x30 + 4 * (2 + j.val)) := by omega
      rw [hOff]
      exact hCount _ (hLosses j)
    all_goals simp [Ingest.camFields, shown_eq_mark, c]
  all_goals simp [State.page2Head, Detect.headFields, shown_eq_mark, g, d]

end Sys2Proof.Machine
end
section
/-! PROOFS. LIVE page 4: where its blocks lie (R119, R158, R195). -/

set_option Elab.async false

namespace Sys2Proof.Machine

/-! ## Blocks -/

theorem laneFields_stepped : Stepped 4 laneFields := fun o l => .of_check (by simp [laneFields, fitsCheck])

theorem Order.fields_stepped : Stepped 22 Order.fields := fun o x => .of_check (by
  simp only [Order.fields, fitsCheck, Bool.and_eq_true, decide_eq_true_eq]
  omega)

theorem lanePlateFields_stepped : Stepped 3 lanePlateFields := fun o l => .of_check (by simp [lanePlateFields, fitsCheck])

theorem weights_stepped : Stepped 1 (fun o w => [(⟨o, 1, w⟩ : Field)]) := fun o w => .of_check (by simp [fitsCheck])

theorem cutFields_fits (o planned : Nat) (c : Option CutRef) : Fits o (o + 6) (cutFields o planned c) := by
  cases c with
  | none => exact .of_check (by simp [cutFields, fitsCheck])
  | some c => exact .of_check (by simp [cutFields, fitsCheck])

theorem extremeFields_fits (o : Nat) (e : Option Extremes) : Fits o (o + 4) (extremeFields o e) := by
  cases e with
  | none => exact .of_check (by simp [extremeFields, fitsCheck])
  | some e => exact .of_check (by simp [extremeFields, fitsCheck])

/-! ## The campaign slots -/

/-- The first fields of a slot that holds a campaign. -/
def Campaign.headFields (o code : Nat) (c : Campaign) : List Field :=
  [⟨o, 1, code⟩, ⟨o + 0x01, 1, c.lanes.length⟩, ⟨o + 0x02, 1, mark c.avoidShift + 2 * mark c.avoidReassign⟩,
   ⟨o + 0x03, 1, c.cap.code⟩, ⟨o + 0x04, 2, c.edgeBandMm⟩]

theorem CampSlot.fields_none (o : Nat) : CampSlot.fields o .none = [⟨o, 1, 0⟩] := rfl

theorem CampSlot.fields_some {o : Nat} {k : CampSlot} {c : Campaign} (h : k.campaign = some c) : CampSlot.fields o k =
    c.headFields o k.code ++ spread (o + 0x08) 4 laneFields (c.lanes.take 4) ++ countFields (o + 0x18) c.distances
      ++ [⟨o + 0x40, 4, c.commitOffset⟩] := by
  unfold CampSlot.fields
  rw [h]
  rfl

theorem Campaign.headFields_fits (o code : Nat) (c : Campaign) : Fits o (o + 0x08) (c.headFields o code) :=
  .of_check (by simp [Campaign.headFields, fitsCheck])

theorem Campaign.lanes_fits (o : Nat) (c : Campaign) :
    Fits (o + 0x08) (o + 0x18) (spread (o + 0x08) 4 laneFields (c.lanes.take 4)) :=
  (fits_spread laneFields_stepped (o + 0x08) _).widen le_rfl (spread_take_end (o + 0x08) 4 4 _)

theorem Campaign.distances_fits (o : Nat) (c : Campaign) :
    Fits (o + 0x18) (o + 0x40) (countFields (o + 0x18) c.distances) := fits_countFields (o + 0x18) c.distances

theorem Campaign.last_fits (o : Nat) (c : Campaign) : Fits (o + 0x40) (o + 0x48) [⟨o + 0x40, 4, c.commitOffset⟩] :=
  .of_check (by simp [fitsCheck])

theorem CampSlot.fields_stepped : Stepped 0x48 CampSlot.fields := by
  intro o k
  cases hHeld : k.campaign with
  | none =>
    have hNone : k = .none := by
      cases k with
      | none => rfl
      | active c => cases hHeld
      | draining c => cases hHeld
    rw [hNone, CampSlot.fields_none]
    exact .of_check (by simp [fitsCheck])
  | some c =>
    rw [CampSlot.fields_some hHeld]
    exact Fits.append (mid := o + 0x40) (Fits.append (mid := o + 0x18) (Fits.append (mid := o + 0x08) (c.headFields_fits o k.code)
      (c.lanes_fits o) (by omega) (by omega)) (c.distances_fits o) (by omega) (by omega)) (c.last_fits o) (by omega) (by omega)

/-! ## The rows -/

/-- The byte of a row's slot, shifts and marks. -/
def Row.marks (r : Row) : Nat := r.slot.val + 2 * mark r.unsealed + 4 * (r.shifts % 4) + 16 * mark r.leading.isSome
  + 32 * mark r.trailing.isSome + 64 * mark r.extremes.isSome

def Row.headFields (o : Nat) (r : Row) : List Field :=
  [⟨o, 4, r.num⟩, ⟨o + 4, 1, r.kind.code⟩, ⟨o + 5, 1, r.state.code⟩, ⟨o + 6, 1, r.marks⟩, ⟨o + 8, 5, r.start⟩, ⟨o + 13, 5, r.stop⟩]

theorem Row.fields_eq (o : Nat) (r : Row) : r.fields o = r.headFields o ++ cutFields (o + 18) r.start r.leading
    ++ cutFields (o + 24) r.stop r.trailing ++ extremeFields (o + 30) r.extremes
    ++ spread (o + 34) 3 lanePlateFields (r.lanes.take 4) := rfl

theorem Row.headFields_fits (o : Nat) (r : Row) : Fits o (o + 18) (r.headFields o) :=
  .of_check (by simp [Row.headFields, fitsCheck])

theorem Row.lanes_fits (o : Nat) (r : Row) : Fits (o + 34) (o + 46) (spread (o + 34) 3 lanePlateFields (r.lanes.take 4)) :=
  (fits_spread lanePlateFields_stepped (o + 34) _).widen le_rfl (spread_take_end (o + 34) 3 4 _)

theorem Row.fields_stepped : Stepped 48 Row.fields := by
  intro o r
  rw [Row.fields_eq]
  exact Fits.append (mid := o + 34) (Fits.append (mid := o + 30) (Fits.append (mid := o + 24) (Fits.append (mid := o + 18)
    (r.headFields_fits o) (cutFields_fits (o + 18) _ _) (by omega) (by omega)) (cutFields_fits (o + 24) _ _) (by omega) (by omega))
    (extremeFields_fits (o + 30) _) (by omega) (by omega)) ((r.lanes_fits o).widen le_rfl (by omega)) (by omega) (by omega)

/-! ## The planner and the Grader -/

def Planner.headFields (p : Planner) : List Field :=
  [⟨0x090, 1, openingCode p.opening⟩, ⟨0x091, 1, mark p.extent.isSome + 2 * mark p.carried.isSome⟩,
   ⟨0x092, 2, p.nextCut.toNat⟩, ⟨0x094, 4, p.nextRow⟩, ⟨0x098, 8, p.extent.getD 0⟩]

def Planner.sizeFields (p : Planner) : List Field := [⟨0x0A4, 1, p.orders.length⟩, ⟨0x0A5, 1, p.rows.length⟩]

/-- The planner's fields in ascending order. -/
def Planner.sorted (p : Planner) : List Field :=
  p.headFields ++ extremeFields 0x0A0 p.carried ++ p.sizeFields ++ countFields 0x0B0 p.counters.list

theorem Planner.fields_perm (p : Planner) : p.fields.Perm p.sorted := by
  have hSwap : (p.sizeFields ++ extremeFields 0x0A0 p.carried).Perm (extremeFields 0x0A0 p.carried ++ p.sizeFields) :=
    List.perm_append_comm
  have hHead : (p.headFields ++ p.sizeFields ++ extremeFields 0x0A0 p.carried).Perm
      (p.headFields ++ extremeFields 0x0A0 p.carried ++ p.sizeFields) := by
    rw [List.append_assoc, List.append_assoc]
    exact hSwap.append_left _
  exact hHead.append_right _

theorem Planner.headFields_fits (p : Planner) : Fits 0x90 0xA0 p.headFields := .of_check rfl

theorem Planner.sizeFields_fits (p : Planner) : Fits 0xA4 0xB0 p.sizeFields := .of_check rfl

theorem Planner.counters_fits (p : Planner) : Fits 0xB0 0xD0 (countFields 0x0B0 p.counters.list) :=
  fits_countFields 0x0B0 p.counters.list

theorem Planner.sorted_fits (p : Planner) : Fits 0x90 0xD0 p.sorted :=
  Fits.append (mid := 0xB0) (Fits.append (mid := 0xA4) (Fits.append (mid := 0xA0) p.headFields_fits (extremeFields_fits 0xA0 _)
    (by decide) (by decide)) p.sizeFields_fits (by decide) (by decide)) p.counters_fits (by decide) (by decide)

def Grader.midFields (g : Grader) : List Field :=
  [⟨0x0F8, 5, g.table.fatal.toNat⟩, ⟨0x0FD, 1, g.table.edgeFactor⟩, ⟨0x0FE, 1, mark g.stagingFull⟩,
      ⟨0x0FF, 1, (g.waiting.map (·.need)).getD 0⟩, ⟨0x100, 2, g.table.ta⟩, ⟨0x102, 2, g.table.tb⟩,
      ⟨0x104, 2, g.table.tc⟩, ⟨0x106, 1, mark g.waiting.isSome⟩, ⟨0x108, 4, (g.waiting.map (·.row)).getD 0⟩,
      ⟨0x10C, 4, g.nextPlate⟩]

theorem Grader.fields_eq (g : Grader) : g.fields = spread 0x0D0 1 (fun o w => [⟨o, 1, w⟩]) g.table.weights.toList
    ++ g.midFields ++ countFields 0x110 g.counters.list := rfl

theorem Grader.fields_fits (g : Grader) : Fits 0xD0 0x128 g.fields := by
  have hWeights := fits_spread weights_stepped 0xD0 g.table.weights.toList
  rw [Vector.length_toList] at hWeights
  rw [Grader.fields_eq]
  exact Fits.append (mid := 0x110) (hWeights.append (.of_check rfl) (by decide) (by decide))
    (fits_countFields 0x110 g.counters.list) (by decide) (by decide)

/-! ## The page -/

def State.slotBlocks (s : State) : List Field := spread 0 0x48 CampSlot.fields s.plan.slots.toList
def State.orderBlocks (s : State) : List Field := spread 0x128 22 Order.fields (s.plan.orders.take 32)
def State.rowBlocks (s : State) : List Field := spread 0x400 48 Row.fields (s.plan.rows.take 64)

/-- The fields of page 4 in ascending order. -/
def State.page4Sorted (s : State) : List Field :=
  s.slotBlocks ++ s.plan.sorted ++ s.grader.fields ++ s.orderBlocks ++ s.rowBlocks

theorem State.page4_perm (s : State) : (s.page 4).Perm s.page4Sorted :=
  (((s.plan.fields_perm.append_left _).append_right _).append_right _).append_right _

theorem State.slotBlocks_fits (s : State) : Fits 0 0x90 s.slotBlocks := by
  have hFits := fits_spread CampSlot.fields_stepped 0 s.plan.slots.toList
  rwa [Vector.length_toList] at hFits

theorem State.orderBlocks_fits (s : State) : Fits 0x128 0x3E8 s.orderBlocks :=
  (fits_spread Order.fields_stepped 0x128 _).widen le_rfl (spread_take_end 0x128 22 32 _)

theorem State.rowBlocks_fits (s : State) : Fits 0x400 0x1000 s.rowBlocks :=
  (fits_spread Row.fields_stepped 0x400 _).widen le_rfl (spread_take_end 0x400 48 64 _)

theorem State.page4_fits (s : State) : Fits 0 0x1000 s.page4Sorted :=
  Fits.append (mid := 0x3E8) (Fits.append (mid := 0x128) (Fits.append (mid := 0xD0) (Fits.append (mid := 0x90) s.slotBlocks_fits
    s.plan.sorted_fits (by decide) (by decide)) s.grader.fields_fits (by decide) (by decide)) s.orderBlocks_fits
    (by decide) (by decide)) (s.rowBlocks_fits.widen (by decide) le_rfl) (by decide) (by decide)

section
variable {s : State}

theorem State.page4Read {off size val : Nat} (h : ⟨off, size, val⟩ ∈ s.page4Sorted) :
    field (s.snapshot 0x4000 4096) off size = val % 256 ^ size :=
  State.pageRead_perm (k := 4) s.page4_fits s.page4_perm (by decide) h

theorem State.page4Slot {off size val : Nat} {i : Fin 2} (h : ⟨off, size, val⟩ ∈ CampSlot.fields (0x48 * i.val) s.plan.slots[i]) :
    field (s.snapshot 0x4000 4096) off size = val % 256 ^ size := by
  have hIn : ⟨off, size, val⟩ ∈ s.slotBlocks := mem_spread_vector (i := i) (by rw [Nat.zero_add]; exact h)
  exact State.page4Read (List.mem_append_left _ (List.mem_append_left _ (List.mem_append_left _ (List.mem_append_left _ hIn))))

theorem State.page4Planner {off size val : Nat} (h : ⟨off, size, val⟩ ∈ s.plan.sorted) :
    field (s.snapshot 0x4000 4096) off size = val % 256 ^ size :=
  State.page4Read (List.mem_append_left _ (List.mem_append_left _ (List.mem_append_left _ (List.mem_append_right _ h))))

theorem State.page4Grader {off size val : Nat} (h : ⟨off, size, val⟩ ∈ s.grader.fields) :
    field (s.snapshot 0x4000 4096) off size = val % 256 ^ size :=
  State.page4Read (List.mem_append_left _ (List.mem_append_left _ (List.mem_append_right _ h)))

theorem State.page4Order {off size val j : Nat} {x : Order} (hj : j < 32) (hx : s.plan.orders[j]? = some x)
    (h : ⟨off, size, val⟩ ∈ x.fields (0x128 + 22 * j)) : field (s.snapshot 0x4000 4096) off size = val % 256 ^ size :=
  State.page4Read (List.mem_append_left _ (List.mem_append_right _ (mem_spread ((take_getElem?_of_lt hj).trans hx) h)))

theorem State.page4Row {off size val j : Nat} {r : Row} (hj : j < 64) (hr : s.plan.rows[j]? = some r)
    (h : ⟨off, size, val⟩ ∈ r.fields (0x400 + 48 * j)) : field (s.snapshot 0x4000 4096) off size = val % 256 ^ size :=
  State.page4Read (List.mem_append_right _ (mem_spread ((take_getElem?_of_lt hj).trans hr) h))

/-- Bytes of a campaign slot that its fields leave clear. -/
theorem State.page4_clear_slot {i : Fin 2} {lo hi : Nat} (hlo : 0x48 * i.val ≤ lo) (hhi : hi ≤ 0x48 * i.val + 0x48)
    (h : Clear lo hi (CampSlot.fields (0x48 * i.val) s.plan.slots[i])) : Clear lo hi (s.page 4) := by
  have hEnd : hi ≤ 0x90 := by
    have hi := i.isLt
    omega
  have hOwn : Clear lo hi s.slotBlocks := by
    refine clear_spread (i := i.val) CampSlot.fields_stepped (fun k hk => ?_) (by omega) (by omega)
    have hSlot : s.plan.slots[i] = k := by
      rw [Vector.getElem?_toList] at hk
      exact Vector.getElem_eq_iff.2 hk
    rw [Nat.zero_add, ← hSlot]
    exact h
  exact Clear.perm ((((hOwn.append (s.plan.sorted_fits.clear_before hEnd)).append (s.grader.fields_fits.clear_before
    (hEnd.trans (by decide)))).append (s.orderBlocks_fits.clear_before (hEnd.trans (by decide)))).append
    (s.rowBlocks_fits.clear_before (hEnd.trans (by decide)))) s.page4_perm

/-- Bytes of the place of an order that its fields leave clear. -/
theorem State.page4_clear_order {j lo hi : Nat} (hj : j < 32) (hlo : 0x128 + 22 * j ≤ lo) (hhi : hi ≤ 0x128 + 22 * j + 22)
    (h : ∀ x, s.plan.orders[j]? = some x → Clear lo hi (x.fields (0x128 + 22 * j))) : Clear lo hi (s.page 4) := by
  have hOwn : Clear lo hi s.orderBlocks := clear_spread (i := j) Order.fields_stepped
    (fun x hx => h x ((take_getElem?_of_lt hj).symm.trans hx)) hlo hhi
  exact Clear.perm ((((s.slotBlocks_fits.clear_after (by omega)).append (s.plan.sorted_fits.clear_after (by omega))).append
    (s.grader.fields_fits.clear_after (by omega))).append hOwn |>.append (s.rowBlocks_fits.clear_before (by omega))) s.page4_perm

/-- Bytes of the place of a row that its fields leave clear. -/
theorem State.page4_clear_row {j lo hi : Nat} (hj : j < 64) (hlo : 0x400 + 48 * j ≤ lo) (hhi : hi ≤ 0x400 + 48 * j + 48)
    (h : ∀ r, s.plan.rows[j]? = some r → Clear lo hi (r.fields (0x400 + 48 * j))) : Clear lo hi (s.page 4) := by
  have hOwn : Clear lo hi s.rowBlocks := clear_spread (i := j) Row.fields_stepped
    (fun x hx => h x ((take_getElem?_of_lt hj).symm.trans hx)) hlo hhi
  exact Clear.perm ((((s.slotBlocks_fits.clear_after (by omega)).append (s.plan.sorted_fits.clear_after (by omega))).append
    (s.grader.fields_fits.clear_after (by omega))).append (s.orderBlocks_fits.clear_after (by omega)) |>.append hOwn) s.page4_perm

/-- Where no extremes are carried, their bytes are clear. -/
theorem State.page4_clear_carried (h : s.plan.carried = none) : Clear 0x0A0 0x0A4 (s.page 4) := by
  have hPlanner : Clear 0x0A0 0x0A4 s.plan.sorted := by
    unfold Planner.sorted
    rw [h]
    exact (((s.plan.headFields_fits.clear_after (by decide)).append (.nil _ _)).append
      (s.plan.sizeFields_fits.clear_before (by decide))).append (s.plan.counters_fits.clear_before (by decide))
  exact Clear.perm ((((s.slotBlocks_fits.clear_after (by decide)).append hPlanner).append (s.grader.fields_fits.clear_before
    (by decide))).append (s.orderBlocks_fits.clear_before (by decide)) |>.append (s.rowBlocks_fits.clear_before (by decide)))
    s.page4_perm

end

end Sys2Proof.Machine
end
section
/-! PROOFS. LIVE page 4: the campaign slots, the planner and the Grader (R119, R158, R195). -/

set_option Elab.async false

namespace Sys2Proof.Machine

/-! ## The campaign slots -/

section
variable {s : State} {i : Fin 2}

/-- A slot that is NONE shows nothing. -/
theorem State.page4_noCampaign (h : s.plan.slots[i] = .none) : reads0 (s.snapshot 0x4000 4096) (0x48 * i.val) 0x48 := by
  have hCode : byteAt (s.snapshot 0x4000 4096) (0x48 * i.val) = 0 := State.page4Slot (i := i) (size := 1) (val := 0) (by
    rw [h]
    exact List.mem_cons_self)
  have hRest : Clear (0x48 * i.val + 1) (0x48 * i.val + 1 + 0x47) (s.page 4) := State.page4_clear_slot (i := i) (by omega) (by omega) (by
    rw [h]
    exact Clear.cons (.inl le_rfl) (.nil _ _))
  have hZero := State.pageReads0 (k := 4) hRest (by have hi := i.isLt; omega)
  intro j hj
  cases j with
  | zero => exact hCode
  | succ j =>
    have hOff : 0x48 * i.val + (j + 1) = 0x48 * i.val + 1 + j := by omega
    rw [hOff]
    exact hZero j (Nat.lt_of_succ_lt_succ hj)

/-- The lanes that a campaign does not have show nothing. -/
theorem State.page4_noLane {c : Campaign} {j : Nat} (h : s.plan.slots[i].campaign = some c) (hj : j < 4) (hNone : c.lanes[j]? = none) :
    reads0 (s.snapshot 0x4000 4096) (0x48 * i.val + 0x08 + 4 * j) 4 := by
  refine State.pageReads0 (k := 4) (State.page4_clear_slot (i := i) (by omega) (by omega) ?_) (by have hi := i.isLt; omega)
  rw [CampSlot.fields_some h]
  exact (((c.headFields_fits _ _).clear_after (by omega)).append (clear_spread_none laneFields_stepped
    ((take_getElem?_of_lt hj).trans hNone))).append ((c.distances_fits _).clear_before (by omega)) |>.append
    ((c.last_fits _).clear_before (by omega))

/-- What a slot that holds a campaign shows. -/
theorem State.page4_campaign {c : Campaign} {code : Nat} (h : s.plan.slots[i].campaign = some c)
    (hCode : s.plan.slots[i].code = code) (hLt : code < 256) :
    let u := s.snapshot 0x4000 4096
    let o := 0x48 * i.val
    byteAt u o = code ∧ byteAt u (o + 0x01) = c.lanes.length % 2 ^ 8
      ∧ byteAt u (o + 0x02) = shown c.avoidShift + 2 * shown c.avoidReassign ∧ byteAt u (o + 0x03) = c.cap.code
      ∧ field u (o + 0x04) 2 = c.edgeBandMm % 2 ^ 16
      ∧ (∀ j, j < 4 →
          (∀ l, c.lanes[j]? = some l →
            field u (o + 0x08 + 4 * j) 2 = l.first % 2 ^ 16 ∧ field u (o + 0x0A + 4 * j) 2 = l.last % 2 ^ 16)
          ∧ (c.lanes[j]? = none → reads0 u (o + 0x08 + 4 * j) 4))
      ∧ field u (o + 0x18) 4 = c.gc % 2 ^ 32 ∧ field u (o + 0x1C) 4 = c.lead % 2 ^ 32
      ∧ field u (o + 0x20) 4 = c.minCut % 2 ^ 32 ∧ field u (o + 0x24) 4 = c.strip % 2 ^ 32
      ∧ field u (o + 0x28) 4 = c.clearance % 2 ^ 32 ∧ field u (o + 0x2C) 4 = c.startGap % 2 ^ 32
      ∧ field u (o + 0x30) 4 = c.planAhead % 2 ^ 32 ∧ field u (o + 0x34) 4 = c.spare % 2 ^ 32
      ∧ field u (o + 0x38) 4 = c.tolerance % 2 ^ 32 ∧ field u (o + 0x3C) 4 = c.scoreLate % 2 ^ 32
      ∧ field u (o + 0x40) 4 = c.commitOffset % 2 ^ 32 := by
  intro u o
  have hMarks : mark c.avoidShift + 2 * mark c.avoidReassign < 256 := by
    have h0 := mark_le c.avoidShift
    have h1 := mark_le c.avoidReassign
    omega
  have hRead {off size val : Nat} (hIn : ⟨off, size, val⟩ ∈ c.headFields o code ++ spread (o + 0x08) 4 laneFields (c.lanes.take 4)
      ++ countFields (o + 0x18) c.distances ++ [⟨o + 0x40, 4, c.commitOffset⟩]) : field u off size = val % 256 ^ size :=
    State.page4Slot (i := i) (by
      rw [CampSlot.fields_some h, hCode]
      exact hIn)
  have hHead {off size val : Nat} (hIn : ⟨off, size, val⟩ ∈ c.headFields o code) : field u off size = val % 256 ^ size :=
    hRead (List.mem_append_left _ (List.mem_append_left _ (List.mem_append_left _ hIn)))
  have hCount (k : Nat) {x : Nat} (hx : c.distances[k]? = some x) : field u (o + 0x18 + 4 * k) 4 = x % 256 ^ 4 :=
    hRead (List.mem_append_left _ (List.mem_append_right _ (mem_counts hx)))
  refine ⟨(hHead (size := 1) ?_).trans (Nat.mod_eq_of_lt hLt), hHead (size := 1) ?_,
    (hHead (size := 1) ?_).trans (Nat.mod_eq_of_lt hMarks), (hHead (size := 1) ?_).trans (Nat.mod_eq_of_lt c.cap.code_lt), hHead ?_,
    fun j hj => ⟨fun l hl => ?_, State.page4_noLane h hj⟩, hCount 0 rfl, hCount 1 rfl, hCount 2 rfl, hCount 3 rfl, hCount 4 rfl,
    hCount 5 rfl, hCount 6 rfl, hCount 7 rfl, hCount 8 rfl, hCount 9 rfl, hRead (List.mem_append_right _ List.mem_cons_self)⟩
  case refine_6 =>
    have hLane {off size val : Nat} (hIn : ⟨off, size, val⟩ ∈ laneFields (o + 0x08 + 4 * j) l) : field u off size = val % 256 ^ size :=
      hRead (List.mem_append_left _ (List.mem_append_left _ (List.mem_append_right _
        (mem_spread ((take_getElem?_of_lt hj).trans hl) hIn))))
    have hOff : o + 0x0A + 4 * j = o + 0x08 + 4 * j + 2 := by omega
    rw [hOff]
    exact ⟨hLane List.mem_cons_self, hLane (.tail _ List.mem_cons_self)⟩
  all_goals simp [Campaign.headFields, shown_eq_mark]

end

/-! ## The planner and the Grader -/

theorem Planner.extent_isSome (p : Planner) : p.extent.isSome = decide (p.rows ≠ []) := by
  unfold Planner.extent
  cases hRows : p.rows with
  | nil => rfl
  | cons r rs => simp

theorem openingCode_lt (x : Option Opening) : openingCode x < 256 := by
  cases x with
  | none => decide
  | some x => cases x with
    | change => decide
    | brk => decide

theorem State.showsPlanning_all (s : State) : s.showsPlanning := by
  have hHead {off size val : Nat} (h : ⟨off, size, val⟩ ∈ s.plan.headFields) :
      field (s.snapshot 0x4000 4096) off size = val % 256 ^ size :=
    State.page4Planner (List.mem_append_left _ (List.mem_append_left _ (List.mem_append_left _ h)))
  have hCarried {off size val : Nat} (h : ⟨off, size, val⟩ ∈ extremeFields 0x0A0 s.plan.carried) :
      field (s.snapshot 0x4000 4096) off size = val % 256 ^ size :=
    State.page4Planner (List.mem_append_left _ (List.mem_append_left _ (List.mem_append_right _ h)))
  have hSize {off size val : Nat} (h : ⟨off, size, val⟩ ∈ s.plan.sizeFields) :
      field (s.snapshot 0x4000 4096) off size = val % 256 ^ size :=
    State.page4Planner (List.mem_append_left _ (List.mem_append_right _ h))
  have hCount (i : Nat) {x : Nat} (h : s.plan.counters.list[i]? = some x) :
      field (s.snapshot 0x4000 4096) (0x0B0 + 4 * i) 4 = x % 256 ^ 4 :=
    State.page4Planner (List.mem_append_right _ (mem_counts h))
  have hMid {off size val : Nat} (h : ⟨off, size, val⟩ ∈ s.grader.midFields) :
      field (s.snapshot 0x4000 4096) off size = val % 256 ^ size :=
    State.page4Grader (List.mem_append_left _ (List.mem_append_right _ h))
  have hGraded (i : Nat) {x : Nat} (h : s.grader.counters.list[i]? = some x) :
      field (s.snapshot 0x4000 4096) (0x110 + 4 * i) 4 = x % 256 ^ 4 :=
    State.page4Grader (List.mem_append_right _ (mem_counts h))
  have hOpening : byteAt (s.snapshot 0x4000 4096) 0x090 = openingCode s.plan.opening :=
    (hHead (size := 1) List.mem_cons_self).trans (Nat.mod_eq_of_lt (openingCode_lt _))
  have hMarks : mark s.plan.extent.isSome + 2 * mark s.plan.carried.isSome < 256 := by
    have h0 := mark_le s.plan.extent.isSome
    have h1 := mark_le s.plan.carried.isSome
    omega
  have hExtent : field (s.snapshot 0x4000 4096) 0x098 8 = s.plan.extent.getD 0 % 2 ^ 64 := hHead (by simp [Planner.headFields])
  have hNeed : byteAt (s.snapshot 0x4000 4096) 0x0FF = (s.grader.waiting.map (·.need)).getD 0 % 2 ^ 8 :=
    hMid (size := 1) (by simp [Grader.midFields])
  have hWaits : byteAt (s.snapshot 0x4000 4096) 0x106 = mark s.grader.waiting.isSome :=
    (hMid (size := 1) (by simp [Grader.midFields])).trans (Nat.mod_eq_of_lt (mark_lt _))
  have hRow : field (s.snapshot 0x4000 4096) 0x108 4 = (s.grader.waiting.map (·.row)).getD 0 % 2 ^ 32 :=
    hMid (by simp [Grader.midFields])
  unfold State.showsPlanning
  intro u p k g h
  refine ⟨fun i => ⟨State.page4_noCampaign, fun c hc => State.page4_campaign ?_ ?_ (by decide), fun c hc => State.page4_campaign ?_ ?_
      (by decide)⟩, fun hNone => ?_, fun hIs => ?_, fun hIs => ?_, ?_, (hHead ?_).trans (Nat.mod_eq_of_lt p.nextCut.isLt), hHead ?_,
    fun hNone => ?_, fun r hr => ?_, fun hNone => State.pageField0 (k := 4) (State.page4_clear_carried hNone) (by decide),
    fun e he => ?_, hSize (size := 1) ?_, hSize (size := 1) ?_, hCount 0 rfl, hCount 1 rfl, hCount 2 rfl, hCount 3 rfl,
    hCount 4 rfl, hCount 5 rfl, hCount 6 rfl, hCount 7 rfl, fun i => ?_, (hMid ?_).trans (Nat.mod_eq_of_lt g.table.fatal.isLt),
    hMid (size := 1) ?_, (hMid (size := 1) ?_).trans (Nat.mod_eq_of_lt (mark_lt _)), hMid ?_, hMid ?_, hMid ?_, fun hNone => ?_,
    fun w hw => ?_, hMid ?_, hGraded 0 rfl, hGraded 1 rfl, hGraded 2 rfl, hGraded 3 rfl, hGraded 4 rfl, hGraded 5 rfl⟩
  case refine_1 => rw [show s.plan.slots[i] = .active c from hc]; rfl
  case refine_2 => rw [show s.plan.slots[i] = .active c from hc]; rfl
  case refine_3 => rw [show s.plan.slots[i] = .draining c from hc]; rfl
  case refine_4 => rw [show s.plan.slots[i] = .draining c from hc]; rfl
  case refine_5 => rw [hOpening, show s.plan.opening = none from hNone]; rfl
  case refine_6 => rw [hOpening, show s.plan.opening = some .change from hIs]; rfl
  case refine_7 => rw [hOpening, show s.plan.opening = some .brk from hIs]; rfl
  case refine_8 =>
    have hByte : byteAt u 0x091 = mark s.plan.extent.isSome + 2 * mark s.plan.carried.isSome :=
      (hHead (size := 1) (by simp [Planner.headFields])).trans (Nat.mod_eq_of_lt hMarks)
    rw [hByte, Planner.extent_isSome]
    rfl
  case refine_11 =>
    rw [hExtent, Planner.extent, show s.plan.rows = [] from hNone]
    rfl
  case refine_12 =>
    rw [hExtent, Planner.extent, Option.getD_map_some hr]
  case refine_13 =>
    rw [show s.plan.carried = some e from he] at hCarried
    exact ⟨hCarried List.mem_cons_self, hCarried (.tail _ List.mem_cons_self)⟩
  case refine_16 =>
    have hWeight : ⟨0x0D0 + 1 * i.val, 1, g.table.weights[i]⟩ ∈ s.grader.fields :=
      List.mem_append_left _ (List.mem_append_left _ (mem_spread_vector List.mem_cons_self))
    rw [Nat.one_mul] at hWeight
    exact State.page4Grader (size := 1) hWeight
  case refine_23 =>
    rw [hNeed, hWaits, hRow, Option.getD_map_none hNone, Option.getD_map_none hNone, show s.grader.waiting = none from hNone]
    exact ⟨rfl, rfl, rfl⟩
  case refine_24 =>
    rw [hNeed, hWaits, hRow, Option.getD_map_some hw, Option.getD_map_some hw, show s.grader.waiting = some w from hw]
    exact ⟨rfl, rfl, rfl⟩
  all_goals simp [Planner.headFields, Planner.sizeFields, Grader.midFields, shown_eq_mark, p, g]

end Sys2Proof.Machine
end
section
/-! PROOFS. LIVE page 4: the orders and the rows (R119, R195). -/

set_option Elab.async false

namespace Sys2Proof.Machine

theorem OrderState.code_lt (x : OrderState) : x.code < 2 ^ 7 := by cases x <;> decide
theorem RowState.code_lt (x : RowState) : x.code < 256 := by cases x <;> decide
theorem Resolution.code_lt (x : Resolution) : x.code < 256 := by
  cases x with
  | unresolved => decide
  | missed => decide
  | scored line late => cases late with
    | false => exact (by decide : 1 < 256)
    | true => exact (by decide : 2 < 256)

/-! ## Bits of a sum -/

/-- The bit of a number whose part below that bit is known. -/
theorem testBit_of_parts {n low high i : Nat} {b : Bool} (h : n = low + 2 ^ i * (mark b + 2 * high)) (hLow : low < 2 ^ i) :
    n.testBit i = b := by
  have hDiv : n / 2 ^ i = mark b + 2 * high := by
    rw [h, Nat.add_mul_div_left _ _ (Nat.two_pow_pos i), Nat.div_eq_of_lt hLow, Nat.zero_add]
  rw [Nat.testBit_eq_decide_div_mod_eq, hDiv, Nat.add_mul_mod_self_left]
  cases b with
  | false => decide
  | true => decide

theorem Order.stateByte (x : Order) :
    let n := x.state.code + 128 * mark x.endCampaign
    n < 256 ∧ n % 2 ^ 7 = x.state.code ∧ n.testBit 7 = x.endCampaign := by
  intro n
  have hState := x.state.code_lt
  have hMark := mark_le x.endCampaign
  refine ⟨?_, ?_, testBit_of_parts (high := 0) rfl hState⟩
  · change x.state.code + 128 * mark x.endCampaign < 256
    omega
  · change (x.state.code + 2 ^ 7 * mark x.endCampaign) % 2 ^ 7 = _
    rw [Nat.add_mul_mod_self_left, Nat.mod_eq_of_lt hState]

/-- The byte of a row's slot, shifts and marks, part by part. -/
theorem Row.marks_parts (r : Row) : r.marks < 256 ∧ r.marks % 2 = r.slot.val ∧ r.marks.testBit 1 = r.unsealed
    ∧ r.marks / 4 % 4 = r.shifts % 4 ∧ r.marks.testBit 4 = r.leading.isSome ∧ r.marks.testBit 5 = r.trailing.isSome
    ∧ r.marks.testBit 6 = r.extremes.isSome := by
  have hMarks : r.marks = r.slot.val + 2 * mark r.unsealed + 4 * (r.shifts % 4) + 16 * mark r.leading.isSome
    + 32 * mark r.trailing.isSome + 64 * mark r.extremes.isSome := rfl
  have hSlot := r.slot.isLt
  have h1 := mark_le r.unsealed
  have h2 := Nat.mod_lt r.shifts (show 4 > 0 by decide)
  have h4 := mark_le r.leading.isSome
  have h5 := mark_le r.trailing.isSome
  have h6 := mark_le r.extremes.isSome
  refine ⟨by omega, by omega, testBit_of_parts (low := r.slot.val) (high := r.shifts % 4 + 4 * mark r.leading.isSome
      + 8 * mark r.trailing.isSome + 16 * mark r.extremes.isSome) (by omega) (by omega), by omega,
    testBit_of_parts (low := r.slot.val + 2 * mark r.unsealed + 4 * (r.shifts % 4)) (high := mark r.trailing.isSome
      + 2 * mark r.extremes.isSome) (by omega) (by omega),
    testBit_of_parts (low := r.slot.val + 2 * mark r.unsealed + 4 * (r.shifts % 4) + 16 * mark r.leading.isSome)
      (high := mark r.extremes.isSome) (by omega) (by omega),
    testBit_of_parts (low := r.slot.val + 2 * mark r.unsealed + 4 * (r.shifts % 4) + 16 * mark r.leading.isSome
      + 32 * mark r.trailing.isSome) (high := 0) (by omega) (by omega)⟩

theorem gradeBits_lt (g : Option Grade) : gradeBits g < 8 := by
  cases g with
  | none => decide
  | some g => cases g <;> decide

/-- The byte of a lane plate, part by part. -/
def LanePlate.marks (l : LanePlate) : Nat := gradeBits l.provisional + 16 * mark l.reassigned + 32 * mark l.unsealed

theorem LanePlate.marks_parts (l : LanePlate) : l.marks < 256 ∧ l.marks % 8 = gradeBits l.provisional
    ∧ l.marks.testBit 4 = l.reassigned ∧ l.marks.testBit 5 = l.unsealed := by
  have hMarks : l.marks = gradeBits l.provisional + 16 * mark l.reassigned + 32 * mark l.unsealed := rfl
  have hGrade := gradeBits_lt l.provisional
  have h4 := mark_le l.reassigned
  have h5 := mark_le l.unsealed
  exact ⟨by omega, by omega, testBit_of_parts (low := gradeBits l.provisional) (high := mark l.unsealed) (by omega) (by omega),
    testBit_of_parts (low := gradeBits l.provisional + 16 * mark l.reassigned) (high := 0) (by omega) (by omega)⟩

theorem signed16_add (a b : Nat) : (signed16 a b % 2 ^ 16 + b) % 2 ^ 16 = a % 2 ^ 16 := by
  unfold signed16
  omega

/-! ## An order -/

theorem State.page4_order {s : State} {j : Nat} {x : Order} (hj : j < 32) (hx : s.plan.orders[j]? = some x) :
    let u := s.snapshot 0x4000 4096
    let o := 0x128 + 22 * j
    field u o 2 = x.id % 2 ^ 16 ∧ byteAt u (o + 2) = x.laneMask.toNat ∧ byteAt u (o + 3) = x.grade.code
      ∧ byteAt u (o + 4) = x.priority % 2 ^ 8 ∧ byteAt u (o + 5) % 2 ^ 7 = x.state.code
      ∧ (byteAt u (o + 5)).testBit 7 = x.endCampaign ∧ field u (o + 6) 2 = x.fallback.getD 0 % 2 ^ 16
      ∧ field u (o + 8) 4 = x.length % 2 ^ 32 ∧ field u (o + 12) 2 = x.requested % 2 ^ 16
      ∧ field u (o + 14) 2 = x.made % 2 ^ 16 ∧ field u (o + 16) 2 = x.reserved % 2 ^ 16
      ∧ field u (o + 18) 2 = x.remaining % 2 ^ 16 ∧ field u (o + 20) 2 = x.planned % 2 ^ 16 := by
  intro u o
  have hRead {off size val : Nat} (h : ⟨off, size, val⟩ ∈ x.fields o) : field u off size = val % 256 ^ size :=
    State.page4Order hj hx h
  obtain ⟨hLt, hState, hEnd⟩ := x.stateByte
  have hByte : byteAt u (o + 5) = x.state.code + 128 * mark x.endCampaign :=
    (hRead (size := 1) (by simp [Order.fields])).trans (Nat.mod_eq_of_lt hLt)
  rw [hByte]
  refine ⟨hRead ?_, (hRead (size := 1) ?_).trans (Nat.mod_eq_of_lt (x.laneMask.isLt.trans (by decide))),
    (hRead (size := 1) ?_).trans (Nat.mod_eq_of_lt x.grade.code_lt), hRead (size := 1) ?_, hState, hEnd, hRead ?_, hRead ?_, hRead ?_,
    hRead ?_, hRead ?_, hRead ?_, hRead ?_⟩
  all_goals simp [Order.fields]

/-! ## The parts of a row -/

section
variable {s : State} {j : Nat} {r : Row}

/-- Bytes of a row that its own blocks leave clear. -/
theorem Row.clear_of {o lo hi : Nat} (r : Row) (hHead : o + 18 ≤ lo) (h1 : Clear lo hi (cutFields (o + 18) r.start r.leading))
    (h2 : Clear lo hi (cutFields (o + 24) r.stop r.trailing)) (h3 : Clear lo hi (extremeFields (o + 30) r.extremes))
    (h4 : Clear lo hi (spread (o + 34) 3 lanePlateFields (r.lanes.take 4))) : Clear lo hi (r.fields o) := by
  rw [Row.fields_eq]
  exact (((((r.headFields_fits o).clear_after hHead).append h1).append h2).append h3).append h4

theorem State.page4_clear_inRow {lo hi : Nat} (hj : j < 64) (hr : s.plan.rows[j]? = some r) (hlo : 0x400 + 48 * j ≤ lo)
    (hhi : hi ≤ 0x400 + 48 * j + 48) (h : Clear lo hi (r.fields (0x400 + 48 * j))) : Clear lo hi (s.page 4) :=
  State.page4_clear_row hj hlo hhi fun x hx => by
    rw [Option.some.inj (hx.symm.trans hr)]
    exact h

/-- What a row shows of a cut. -/
theorem State.page4_cut {o planned at_ bit : Nat} {c : Option CutRef} {u : List Byte}
    (hRead : ∀ {off size val : Nat}, ⟨off, size, val⟩ ∈ cutFields at_ planned c → field u off size = val % 256 ^ size)
    (hBit : (byteAt u (o + 6)).testBit bit = c.isSome) (hNone : c = none → reads0 u at_ 6) :
    (c = none → (byteAt u (o + 6)).testBit bit = false ∧ reads0 u at_ 6)
    ∧ ∀ x, c = some x →
        (byteAt u (o + 6)).testBit bit = true ∧ field u at_ 2 = x.num.toNat ∧ byteAt u (at_ + 2) = x.res.code
        ∧ (∀ line offset, x.res = .scored line offset → (field u (at_ + 4) 2 + planned) % 2 ^ 16 = line % 2 ^ 16)
        ∧ (x.res = .unresolved ∨ x.res = .missed → field u (at_ + 4) 2 = 0) := by
  refine ⟨fun h => ⟨by rw [hBit, h]; rfl, hNone h⟩, fun x hx => ⟨by rw [hBit, hx]; rfl, ?_, ?_, fun line offset hRes => ?_,
    fun hRes => ?_⟩⟩
  all_goals rw [hx] at hRead
  · exact (hRead List.mem_cons_self).trans (Nat.mod_eq_of_lt x.num.isLt)
  · exact (hRead (size := 1) (.tail _ List.mem_cons_self)).trans (Nat.mod_eq_of_lt x.res.code_lt)
  · have hOffset := hRead (.tail _ (.tail _ List.mem_cons_self))
    rw [hRes] at hOffset
    rw [hOffset]
    exact signed16_add line planned
  · have hOffset := hRead (.tail _ (.tail _ List.mem_cons_self))
    rcases hRes with hRes | hRes
    · rw [hRes] at hOffset
      exact hOffset
    · rw [hRes] at hOffset
      exact hOffset

end

end Sys2Proof.Machine
end
section
/-! PROOFS. LIVE page 4: the rows; arrivals and the LIVE pages (R21, R22, R32, R119, R195): O29. -/

set_option Elab.async false

namespace Sys2Proof.Machine

/-! ## A lane plate of a row -/

section
variable {s : State} {j : Nat} {r : Row}

theorem State.page4_lane {i : Nat} {l : LanePlate} (hj : j < 64) (hr : s.plan.rows[j]? = some r) (hi : i < 4)
    (hl : r.lanes[i]? = some l) :
    let u := s.snapshot 0x4000 4096
    let o := 0x400 + 48 * j
    let b := byteAt u (o + 36 + 3 * i)
    field u (o + 34 + 3 * i) 2 = l.order.getD 0 % 2 ^ 16
      ∧ (l.provisional = none → b % 8 = 7) ∧ (∀ g, l.provisional = some g → b % 8 = g.code)
      ∧ b.testBit 4 = l.reassigned ∧ b.testBit 5 = l.unsealed := by
  intro u o b
  have hRead {off size val : Nat} (h : ⟨off, size, val⟩ ∈ lanePlateFields (o + 34 + 3 * i) l) : field u off size = val % 256 ^ size :=
    State.page4Row hj hr (List.mem_append_right _ (mem_spread ((take_getElem?_of_lt hi).trans hl) h))
  obtain ⟨hLt, hGrade, hMoved, hOpen⟩ := l.marks_parts
  have hOff : o + 36 + 3 * i = o + 34 + 3 * i + 2 := by omega
  have hByte : b = l.marks := by
    change byteAt u (o + 36 + 3 * i) = _
    rw [hOff]
    exact (hRead (size := 1) (.tail _ List.mem_cons_self)).trans (Nat.mod_eq_of_lt hLt)
  rw [hByte, hGrade]
  refine ⟨hRead List.mem_cons_self, fun hNone => ?_, fun g hg => ?_, hMoved, hOpen⟩
  · rw [hNone]
    rfl
  · rw [hg]
    rfl

theorem State.page4_noLanePlate {i : Nat} (hj : j < 64) (hr : s.plan.rows[j]? = some r) (hi : i < 4) (hNone : r.lanes[i]? = none) :
    reads0 (s.snapshot 0x4000 4096) (0x400 + 48 * j + 34 + 3 * i) 3 := by
  refine State.pageReads0 (k := 4) (State.page4_clear_inRow hj hr (by omega) (by omega) ?_) (by omega)
  exact r.clear_of (by omega) ((cutFields_fits _ _ _).clear_after (by omega)) ((cutFields_fits _ _ _).clear_after (by omega))
    ((extremeFields_fits _ _).clear_after (by omega)) (clear_spread_none lanePlateFields_stepped ((take_getElem?_of_lt hi).trans hNone))

/-! ## A row -/

theorem State.page4_noLeading (hj : j < 64) (hr : s.plan.rows[j]? = some r) (hNone : r.leading = none) :
    reads0 (s.snapshot 0x4000 4096) (0x400 + 48 * j + 18) 6 := by
  refine State.pageReads0 (k := 4) (State.page4_clear_inRow hj hr (by omega) (by omega) ?_) (by omega)
  exact r.clear_of le_rfl (by rw [hNone]; exact .nil _ _) ((cutFields_fits _ _ _).clear_before (by omega))
    ((extremeFields_fits _ _).clear_before (by omega)) ((r.lanes_fits _).clear_before (by omega))

theorem State.page4_noTrailing (hj : j < 64) (hr : s.plan.rows[j]? = some r) (hNone : r.trailing = none) :
    reads0 (s.snapshot 0x4000 4096) (0x400 + 48 * j + 24) 6 := by
  refine State.pageReads0 (k := 4) (State.page4_clear_inRow hj hr (by omega) (by omega) ?_) (by omega)
  exact r.clear_of (by omega) ((cutFields_fits _ _ _).clear_after (by omega)) (by rw [hNone]; exact .nil _ _)
    ((extremeFields_fits _ _).clear_before (by omega)) ((r.lanes_fits _).clear_before (by omega))

theorem State.page4_noExtremes (hj : j < 64) (hr : s.plan.rows[j]? = some r) (hNone : r.extremes = none) :
    field (s.snapshot 0x4000 4096) (0x400 + 48 * j + 30) 4 = 0 := by
  refine State.pageField0 (k := 4) (State.page4_clear_inRow hj hr (by omega) (by omega) ?_) (by omega)
  exact r.clear_of (by omega) ((cutFields_fits _ _ _).clear_after (by omega)) ((cutFields_fits _ _ _).clear_after (by omega))
    (by rw [hNone]; exact .nil _ _) ((r.lanes_fits _).clear_before (by omega))

end

theorem State.showsOrdersAndRows_all (s : State) : s.showsOrdersAndRows := by
  unfold State.showsOrdersAndRows
  intro u p
  refine ⟨fun j hj => ⟨fun hNone => ?_, fun x hx => State.page4_order hj hx⟩, fun j hj => ?_⟩
  · refine State.pageReads0 (k := 4) (State.page4_clear_order hj le_rfl le_rfl fun x hx => ?_) (by omega)
    rw [show s.plan.orders[j]? = none from hNone] at hx
    cases hx
  intro o cut
  refine ⟨fun hNone => ?_, fun r hr => ?_⟩
  · refine State.pageReads0 (k := 4) (State.page4_clear_row hj le_rfl le_rfl fun x hx => ?_) (show 0x400 + 48 * j + 48 ≤ 4096 by omega)
    rw [show s.plan.rows[j]? = none from hNone] at hx
    cases hx
  have hRead {off size val : Nat} (h : ⟨off, size, val⟩ ∈ r.fields o) : field u off size = val % 256 ^ size :=
    State.page4Row hj hr h
  have hHead {off size val : Nat} (h : ⟨off, size, val⟩ ∈ r.headFields o) : field u off size = val % 256 ^ size :=
    hRead (List.mem_append_left _ (List.mem_append_left _ (List.mem_append_left _ (List.mem_append_left _ h))))
  obtain ⟨hLt, hSlot, hUnsealed, hShifts, hLeading, hTrailing, hExtremes⟩ := r.marks_parts
  have hMarks : byteAt u (o + 6) = r.marks :=
    (hHead (size := 1) (by simp [Row.headFields])).trans (Nat.mod_eq_of_lt hLt)
  have hCut1 : cut (o + 18) 4 r.start r.leading := State.page4_cut (o := o)
    (fun h => hRead (List.mem_append_left _ (List.mem_append_left _ (List.mem_append_left _ (List.mem_append_right _ h)))))
    (by rw [hMarks]; exact hLeading) (State.page4_noLeading hj hr)
  have hCut2 : cut (o + 24) 5 r.stop r.trailing := State.page4_cut (o := o)
    (fun h => hRead (List.mem_append_left _ (List.mem_append_left _ (List.mem_append_right _ h))))
    (by rw [hMarks]; exact hTrailing) (State.page4_noTrailing hj hr)
  have hExtreme {off size val : Nat} (h : ⟨off, size, val⟩ ∈ extremeFields (o + 30) r.extremes) :
      field u off size = val % 256 ^ size := hRead (List.mem_append_left _ (List.mem_append_right _ h))
  rw [hMarks]
  refine ⟨hHead ?_, (hHead (size := 1) ?_).trans (Nat.mod_eq_of_lt r.kind.code_lt),
    (hHead (size := 1) ?_).trans (Nat.mod_eq_of_lt r.state.code_lt), hSlot, hUnsealed, hShifts, hExtremes, hHead ?_, hHead ?_,
    hCut1, hCut2, State.page4_noExtremes hj hr, fun e he => ?_,
    fun i hi => ⟨State.page4_noLanePlate hj hr hi, fun l hl => State.page4_lane hj hr hi hl⟩⟩
  case refine_6 =>
    rw [he] at hExtreme
    exact ⟨hExtreme List.mem_cons_self, hExtreme (.tail _ List.mem_cons_self)⟩
  all_goals simp [Row.headFields]

/-! ## Arrivals -/

section
variable {s : State}

theorem exec_upstreamWriteArrival {w : WriteBurst} (h1 : 1 ≤ w.bytes.length) (h2 : w.bytes.length ≤ 256) :
    exec (.upstreamWriteArrival w) s = .next (if s.path.writes.length < 32 then
      { s with path := { s.path with
          writes := s.path.writes ++ [{ burst := w, cls := s.path.classify w.addr w.bytes.length }] } } else s) := by
  have hLen : burstLenOk w.bytes.length = true := Bool.and_eq_true_iff.2 ⟨decide_eq_true h1, decide_eq_true h2⟩
  change execUpstreamWriteArrival w s = _
  unfold execUpstreamWriteArrival
  rw [if_pos hLen]
  by_cases hRoom : s.path.writes.length < 32
  · exact (if_pos hRoom).trans (congrArg _ (if_pos hRoom).symm)
  · exact (if_neg hRoom).trans (congrArg _ (if_neg hRoom).symm)

theorem burstLenOk_bad {n : Nat} (h : n = 0 ∨ 256 < n) : ¬ burstLenOk n = true := fun hOk => by
  obtain ⟨h1, h2⟩ := Bool.and_eq_true_iff.1 hOk
  have hLow : 1 ≤ n := of_decide_eq_true h1
  have hHigh : n ≤ 256 := of_decide_eq_true h2
  omega

theorem exec_upstreamWriteArrival_bad {w : WriteBurst} (h : w.bytes.length = 0 ∨ 256 < w.bytes.length) :
    exec (.upstreamWriteArrival w) s = .fault .malformedOperand := if_neg (burstLenOk_bad h)

theorem exec_upstreamReadArrival_bad {r : ReadBurst} (h : r.len = 0 ∨ 256 < r.len) :
    exec (.upstreamReadArrival r) s = .fault .malformedOperand := if_neg (burstLenOk_bad h)

theorem exec_upstreamReadArrival_full {r : ReadBurst} (h1 : 1 ≤ r.len) (h2 : r.len ≤ 256) (hFull : 32 ≤ s.path.reads.length) :
    exec (.upstreamReadArrival r) s = .next s := by
  have hLen : burstLenOk r.len = true := Bool.and_eq_true_iff.2 ⟨decide_eq_true h1, decide_eq_true h2⟩
  change execUpstreamReadArrival r s = _
  unfold execUpstreamReadArrival
  rw [if_pos hLen]
  exact if_neg (not_lt.2 hFull)

/-- The read as it joins its queue. -/
def State.queuedRead (r : ReadBurst) (s : State) : QueuedRead :=
  { burst := r, cls := s.path.classify r.addr r.len,
    snapshot := if (s.path.classify r.addr r.len).kind = .live then
      s.snapshot (s.path.classify r.addr r.len).offset r.len else [] }

theorem exec_upstreamReadArrival_joins {r : ReadBurst} (h1 : 1 ≤ r.len) (h2 : r.len ≤ 256) (hRoom : s.path.reads.length < 32) :
    exec (.upstreamReadArrival r) s = .next { s with path := { s.path with reads := s.path.reads ++ [s.queuedRead r] } } := by
  have hLen : burstLenOk r.len = true := Bool.and_eq_true_iff.2 ⟨decide_eq_true h1, decide_eq_true h2⟩
  change execUpstreamReadArrival r s = _
  unfold execUpstreamReadArrival
  rw [if_pos hLen]
  refine (if_pos hRoom).trans ?_
  unfold State.queuedRead
  by_cases hLive : (s.path.classify r.addr r.len).kind = .live
  · simp only [hLive, decide_true, if_true]
    rfl
  · simp only [hLive, decide_false, if_false]
    rfl

end

end Sys2Proof.Machine
end
section
/-! PROOFS. Arrivals and the LIVE pages (R21, R22, R32, R195): O29. -/

set_option Elab.async false

namespace Sys2Proof.Machine

/-! ## What pages 0 and 1 show -/

section
variable {s : State} {off size val : Nat}

theorem State.page0Read (h : ⟨off, size, val⟩ ∈ s.page 0) : field (s.snapshot (4096 * 0) 4096) off size = val % 256 ^ size :=
  State.pageRead (k := 0) s.page0_fits (by decide) h

theorem State.page1Read (h : ⟨off, size, val⟩ ∈ s.page 1) : field (s.snapshot (4096 * 1) 4096) off size = val % 256 ^ size :=
  State.pageRead (k := 1) s.page1_fits (by decide) h

theorem State.page0Hold (h : ⟨off, size, val⟩ ∈ holdFields s.path.hold) :
    field (s.snapshot (4096 * 0) 4096) off size = val % 256 ^ size :=
  State.page0Read (List.mem_append_left _ (List.mem_append_left _ (List.mem_append_right _ h)))

theorem State.page0Count (i : Nat) {x : Nat} (h : s.path.counters.list[i]? = some x) :
    field (s.snapshot (4096 * 0) 4096) (0x020 + 4 * i) 4 = x % 256 ^ 4 :=
  State.page0Read (List.mem_append_left _ (List.mem_append_right _ (mem_counts h)))

end

/-- What the hold slot shows. -/
theorem State.page0_held {s : State} {h : Hold} (hHeld : s.path.hold = some h) :
    let a := s.snapshot (4096 * 0) 4096
    byteAt a 0x010 = (if h.producer then 2 else 1)
    ∧ (h.producer = false → byteAt a 0x011 = h.camera % 2 ^ 8) ∧ (h.producer = true → byteAt a 0x011 = 0)
    ∧ field a 0x012 2 = h.limit % 2 ^ 16 ∧ field a 0x014 4 = h.us % 2 ^ 32 := by
  intro a
  have hRead {off size val : Nat} (hIn : ⟨off, size, val⟩ ∈ holdFields (some h)) : field a off size = val % 256 ^ size :=
    State.page0Hold (by rw [hHeld]; exact hIn)
  have hKind : byteAt a 0x010 = (if h.producer then 2 else 1) % 256 := hRead (size := 1) (by simp [holdFields])
  have hCamera : byteAt a 0x011 = (if h.producer then 0 else h.camera) % 256 := hRead (size := 1) (by simp [holdFields])
  refine ⟨?_, fun hOther => ?_, fun hOwn => ?_, hRead (by simp [holdFields]), hRead (by simp [holdFields])⟩
  · rw [hKind]
    cases h.producer with
    | false => rfl
    | true => rfl
  · rw [hCamera, hOther]
    rfl
  · rw [hCamera, hOwn]
    rfl

/-- What an entry of the window shows. -/
theorem State.page0_entry (s : State) (i : Fin 16) :
    let a := s.snapshot (4096 * 0) 4096
    let o := 0x100 + 32 * i.val
    let e := s.path.window[i]
    (byteAt a o).testBit 0 = e.enable ∧ (byteAt a o).testBit 1 = e.translate ∧ byteAt a (o + 1) = e.kind.code
    ∧ byteAt a (o + 2) = e.camera % 2 ^ 8 ∧ field a (o + 8) 8 = e.base.toNat ∧ field a (o + 16) 8 = e.mask.toNat
    ∧ field a (o + 24) 8 = e.target.toNat := by
  intro a o e
  have hRead {off size val : Nat} (h : ⟨off, size, val⟩ ∈ WinEntry.fields o e) : field a off size = val % 256 ^ size :=
    State.page0Read (s.page0_window i h)
  have hLt : mark e.enable + 2 * mark e.translate < 256 := by
    have h0 := mark_le e.enable
    have h1 := mark_le e.translate
    omega
  have hMarks : byteAt a o = mark e.enable + 2 * mark e.translate :=
    (hRead (size := 1) List.mem_cons_self).trans (Nat.mod_eq_of_lt hLt)
  rw [hMarks, testBit_mark_zero, testBit_mark_succ, testBit_mark]
  refine ⟨rfl, rfl, (hRead (size := 1) ?_).trans (Nat.mod_eq_of_lt e.kind.code_lt), hRead (size := 1) ?_,
    (hRead ?_).trans (Nat.mod_eq_of_lt (e.base.isLt.trans (by decide))),
    (hRead ?_).trans (Nat.mod_eq_of_lt (e.mask.isLt.trans (by decide))),
    (hRead ?_).trans (Nat.mod_eq_of_lt (e.target.isLt.trans (by decide)))⟩
  all_goals simp [WinEntry.fields]

/-- Where no write is held, the hold slot shows 0. -/
theorem State.page0_free {s : State} (h : s.path.hold = none) (o n : Nat) (hlo : 0x10 ≤ o) (hhi : o + n ≤ 0x20) :
    field (s.snapshot (4096 * 0) 4096) o n = 0 :=
  State.pageField0 (k := 0) ((State.page0_noHold h).mono hlo hhi) (hhi.trans (by decide))

/-- What a terminal shows. -/
theorem State.page1_entry (s : State) (i : Fin 6) :
    let b := s.snapshot (4096 * 1) 4096
    let o := 0x040 + 4 * i.val
    let e := s.pos.terms[i]
    byteAt b o = e.fn.code ∧ byteAt b (o + 1) = (if e.activeLow then 1 else 0) ∧ byteAt b (o + 2) = e.filtered.code
    ∧ byteAt b (o + 3) = (if s.termActive e then 1 else 0) := by
  intro b o e
  have hRead {off size val : Nat} (h : ⟨off, size, val⟩ ∈ s.termFields o e) : field b off size = val % 256 ^ size :=
    State.page1Read (s.page1_terminal i h)
  refine ⟨(hRead (size := 1) ?_).trans (Nat.mod_eq_of_lt e.fn.code_lt), (hRead (size := 1) ?_).trans (Nat.mod_eq_of_lt (mark_lt e.activeLow)),
    (hRead (size := 1) ?_).trans (Nat.mod_eq_of_lt e.filtered.code_lt),
    (hRead (size := 1) ?_).trans (Nat.mod_eq_of_lt (mark_lt (s.termActive e)))⟩
  all_goals simp [State.termFields, mark]

/-- Settles O29. -/
theorem upstreamBurstsJoinQueues : Obligations.UpstreamBurstsJoinQueues := by
  unfold Obligations.UpstreamBurstsJoinQueues
  refine ⟨fun w s h1 h2 => exec_upstreamWriteArrival h1 h2, fun r s h1 h2 => ⟨exec_upstreamReadArrival_full h1 h2, fun hRoom =>
    ⟨s.queuedRead r, exec_upstreamReadArrival_joins h1 h2 hRoom, rfl, rfl, fun hLive => if_pos hLive⟩⟩,
    fun w s => exec_upstreamWriteArrival_bad, fun r s => exec_upstreamReadArrival_bad, fun p a len => ?_, fun s => ?_⟩
  · intro hits
    refine ⟨Path.classify_crossing_iff, fun hIn => ⟨fun i hi hFirst => ?_, fun hNone => ?_⟩⟩
    · rw [Path.classify_some hIn (Path.govern_some hi hFirst)]
      refine ⟨rfl, rfl, rfl, fun hTranslate hKind => ?_, fun hPlain => ?_⟩
      · have hMoves : p.window[i].moves = true := WinEntry.moves_iff.2 ⟨hTranslate, hKind⟩
        exact ⟨if_pos hMoves, hMoves⟩
      · have hStays : ¬ p.window[i].moves = true := fun hMoves => by
          rw [(WinEntry.moves_iff.1 hMoves).1] at hPlain
          cases hPlain
        exact ⟨if_neg hStays, Bool.eq_false_iff.2 hStays⟩
    · rw [Path.classify_none hIn (Path.govern_none hNone)]
      exact ⟨rfl, rfl, rfl⟩
  · intro page a b c p
    have hCount := fun (i : Nat) {x : Nat} => State.page0Count (s := s) i (x := x)
    have h0 := fun {off size val : Nat} => State.page0Read (s := s) (off := off) (size := size) (val := val)
    have h1 := fun {off size val : Nat} => State.page1Read (s := s) (off := off) (size := size) (val := val)
    have hPair : mark p.pairA + 2 * mark p.pairB < 256 := by
      have hA := mark_le p.pairA
      have hB := mark_le p.pairB
      omega
    have hPhases : byteAt b 0x00C = mark p.pairA + 2 * mark p.pairB :=
      (h1 (size := 1) (by simp [State.page, State.page1, p])).trans (Nat.mod_eq_of_lt hPair)
    have hRun : byteAt b 0x00D = mark (decide (p.run = .stalled)) :=
      (h1 (size := 1) (by simp [State.page, State.page1, p])).trans (Nat.mod_eq_of_lt (mark_lt _))
    have hTimer : field b 0x014 4 = (if p.stallRunning then p.stallTimer else Config.max32) % 2 ^ 32 :=
      h1 (by simp [State.page, State.page1, p])
    refine ⟨fun off len h => State.snapshot_part s h, fun off len h => State.snapshot_beyond len s h,
      (h0 (size := 1) ?_).trans (Nat.mod_eq_of_lt s.cp.binding.code_lt), (h0 (size := 1) ?_).trans (Nat.mod_eq_of_lt s.cp.stage.code_lt),
      (h0 (size := 1) ?_).trans (Nat.mod_eq_of_lt s.cp.lastResult.code_lt),
      (h0 (size := 1) ?_).trans (Nat.mod_eq_of_lt (s.path.straps.isLt.trans (by decide))),
      (h0 ?_).trans (Nat.mod_eq_of_lt s.cp.consumer.isLt), (h0 ?_).trans (Nat.mod_eq_of_lt s.cp.known.isLt), h0 ?_, h0 ?_,
      h0 (size := 1) ?_, h0 (size := 1) ?_, fun hNone => State.page0_free hNone 0x010 1 (by decide) (by decide),
      fun hNone => ⟨State.page0_free hNone 0x011 1 (by decide) (by decide), State.page0_free hNone 0x012 2 (by decide) (by decide),
        State.page0_free hNone 0x014 4 (by decide) (by decide)⟩, fun h hHeld => State.page0_held hHeld,
      hCount 0 rfl, hCount 1 rfl, hCount 2 rfl, hCount 3 rfl, hCount 4 rfl, hCount 5 rfl, hCount 6 rfl, hCount 7 rfl, hCount 8 rfl,
      hCount 9 rfl, hCount 10 rfl, hCount 11 rfl, hCount 12 rfl, hCount 13 rfl, s.page0_entry, h1 ?_, h1 ?_, h1 ?_, ?_, ?_,
      ?_,
      (h1 (size := 1) ?_).trans (Nat.mod_eq_of_lt (mark_lt p.parked)), (h1 (size := 1) ?_).trans (Nat.mod_eq_of_lt (mark_lt p.parkCmd)),
      (h1 (size := 1) ?_).trans (Nat.mod_eq_of_lt (mark_lt p.broken)), h1 ?_, ?_, h1 ?_, h1 ?_, h1 ?_,
      (h1 ?_).trans (Nat.mod_eq_of_lt p.day.isLt), h1 ?_, s.showsPage2_all, s.showsPage3_all, s.showsPlanning_all,
      s.showsOrdersAndRows_all, s.showsPage5_all, s.showsPage6_all, s.showsPage7_all, s.page1_entry⟩
    case refine_14 => rw [hPhases, testBit_mark_zero]
    case refine_15 => rw [hPhases, testBit_mark_succ, testBit_mark]
    case refine_16 =>
      rw [hRun]
      by_cases hStalled : p.run = .stalled
      · rw [if_pos hStalled, decide_eq_true hStalled]
        rfl
      · rw [if_neg hStalled, decide_eq_false hStalled]
        rfl
    case refine_21 =>
      rw [hTimer]
      cases p.stallRunning with
      | false => rfl
      | true => rfl
    all_goals simp [State.page, State.page0, State.page1, mark, p]

end Sys2Proof.Machine
end
